-- ==== Sys2Proof/Word.lean ====
section
/-! DEFINITION. The plain types of the WH8100 (R3, R4, R108, R111): words by width and the small closed
name sets that operands are made of. Nothing here computes beyond picking a type. -/

namespace Sys2Proof

/-- One byte of memory (R4: multi-byte values are little-endian). -/
abbrev Byte := BitVec 8

/-- 32-bit word: a slot of a bundle, an FP32 or int32 lane (R108, R89, R79). -/
abbrev W32 := BitVec 32

/-- 64-bit word: an a register, MCC, most record fields (R79, R138). -/
abbrev W64 := BitVec 64

/-- A domain value: MASK [127:64], HI [63:32], LO [31:0] (R80). -/
abbrev Dom := BitVec 128

/-- A v register, lane i at bits [32i + 31:32i] (R194); also a q register, lane i at bits
[64i + 63:64i] (R99, R113). -/
abbrev VecV := BitVec 2048

/-- An accumulator row: 128 FP32 values, column c at bits [32c + 31:32c] (R55). -/
abbrev Row := BitVec 4096

/-- The kind of an access that needs a translation (R73, R322 KIND). -/
inductive AccKind where
  | read
  | write
  | fetch
  | atomic
  deriving DecidableEq, Repr

/-- Register classes, in the order of the class codes of R308: 0 k, 1 a, 2 v, 3 q, 4 p, 5 m, 6 b, 7 te,
8 fmt, 9 om, 10 loop level, 11 system register. -/
inductive RegClass where
  | k | a | v | q | p | m | b | te | fmt | om | loop | sys
  deriving DecidableEq, Repr

/-- The registers of a debug template (R294). -/
inductive DbgReg where
  | dctl
  | bk (n : BitVec 2)
  | wa (n : BitVec 2)
  | wc (n : BitVec 2)
  | dtlen
  | speriod
  deriving DecidableEq, Repr

/-- A device or debug register that has no row of its own in the opcode table: the
regions whose bases the host programs (R279), the trace registers of a stack (R292), the debug registers (R294). -/
inductive DevReg where
  | tbase (stack : BitVec 3)
  | tsize (stack : BitVec 3)
  | twp (stack : BitVec 3)
  | tmode (stack : BitVec 3)
  | tlost (stack : BitVec 3)
  | bar0 (port : BitVec 1)
  | bar2 (port : BitVec 1)
  | hdm (port : BitVec 1)
  | template (pasid : BitVec 20) (r : DbgReg)
  | ctxDebug (ctx : Nat) (r : DbgReg)
  deriving DecidableEq, Repr

/-- A place of a stopped context that the debugger reaches (R296). -/
inductive DbgPlace where
  | reg (c : RegClass) (n : Nat)
  | loopStart (lv : BitVec 2)
  | loopEnd (lv : BitVec 2)
  | loopCount (lv : BitVec 2)
  | delta (lv : BitVec 2) (r : BitVec 5)
  | bufTarget (b : BitVec 2)
  | bufKind (b : BitVec 2)
  /-- Entry i of the return stack, counted from the top. -/
  | retEntry (i : Nat)
  /-- How many entries the return stack holds. -/
  | retDepth
  | scratch (off : Nat)
  deriving DecidableEq, Repr

/-- The operands of a mailbox command: the 8-byte words at bytes 8, 16, 24 and 32 of the 64-byte command, and
whether any byte after the code and outside these words is non-zero (R281, R282). -/
structure CmdOps where
  b8 : W64
  b16 : W64
  b24 : W64
  b32 : W64
  stray : Bool
  deriving DecidableEq, Repr

/-- What the patrol scrubber finds in a line (R342). -/
inductive ScrubResult where
  | clean
  | corrected
  | uncorrectable
  deriving DecidableEq, Repr

/-- Where an uncorrectable fabric error lies (R349). -/
inductive FabricPlace where
  | clusterPort (cluster : BitVec 6)
  | shared
  deriving DecidableEq, Repr

/-- A link port: one of the two CXL ports or of the sixteen Suzamal ports (R15, R16). -/
inductive LinkPort where
  | cxl (n : BitVec 1)
  | suzamal (n : BitVec 4)
  deriving DecidableEq, Repr

/-- The destination of a copy into an operand slot (R241): the DC flag and the tile entry. -/
structure SlotDest where
  dc : BitVec 1
  te : BitVec 6
  deriving DecidableEq, Repr

/-- Where a host's access goes: the CXL port it comes by, its address, and, of a write, whether what it writes is poisoned (R343) and the bytes
after the first. -/
structure HostAt where
  port : BitVec 1
  addr : Nat
  poisoned : Bool
  rest : List Byte := []
  deriving DecidableEq, Repr

/-- Where a peer's request goes: the Suzamal link it comes by and its offset in device DRAM (R287). -/
structure PeerAt where
  link : BitVec 4
  addr : Nat
  deriving DecidableEq, Repr

/-- A flit sent again: its port, its sequence number, and whether it arrived good (R347). -/
structure FlitRetry where
  port : LinkPort
  seq : W64
  good : Bool
  deriving DecidableEq, Repr

/-- What a peer package asks for at a home agent (R287). -/
inductive PeerOp where
  | load (len : Nat)
  /-- `poisoned`: the data carry poison (R343); so for the XA additions. -/
  | store (bytes : List Byte) (poisoned : Bool)
  | atomic (op : BitVec 3) (operand compare : W64)
  | xadd (value : W32) (poisoned : Bool)
  | xaddv (value : VecV) (poisoned : Bool)
  | xrd (rm : BitVec 2)
  | xrdv (rm : BitVec 2)
  | xclr (cells : Nat)
  /-- Operations of a peer's contexts on a QD block homed here, each one message (R43): QNEW with its TOTAL, a borrow, a return of weight. -/
  | qnew (total : W64)
  | borrow (units : W64)
  | giveBack (weight : W64) (faulted : Bool)
  deriving DecidableEq, Repr

/-- The target of a debugger's stop request (R295). -/
inductive StopTarget where
  | context (ctx : Nat)
  | process (pasid : BitVec 20)
  deriving DecidableEq, Repr

/-- Why the decoder refuses a word (R309, R311, R312). -/
inductive Reject where
  | opcode
  | reservedBit
  | tail
  | rm
  | fieldValue
  deriving DecidableEq, Repr

end Sys2Proof
end

