-- ==== Sys2Proof/Syntax.lean ====
section
/-! DEFINITION. The syntax of the WH8100: one constructor for every row of the opcode table. Constructors of the
eight slots carry the fields of their encoding (R122, R139, R179, R194, R205, R216, R231, R241); the events of the
table, which have no encoding, carry what tells one occurrence from another (which context, which access). -/

namespace Sys2Proof

/-- An operation of one of the eight slots, or an event of the device (R109, R139). The fields of a slot operation
carry the names and widths the opcode table gives them. -/
inductive Instr where
  /-- NOP_CTL (R109): Control-slot no-operation, the payload that carries the tail bits of a bundle with no other CTL operation. -/
  | nopCtl (e y x : BitVec 1) (t : BitVec 2)
  /-- PREP (R141): Loads target buffer b with the PREP bundle's offset plus off19 and clears any arming. -/
  | prep (e y x : BitVec 1) (t b : BitVec 2) (o : BitVec 19)
  /-- PREPC (R141): Prepares a call target; the taken TX pushes the return offset onto the return stack. -/
  | prepc (e y x : BitVec 1) (t b : BitVec 2) (o : BitVec 19)
  /-- PREPR (R141): Prepares a return to the top return-stack entry; every TX of the buffer pops it. -/
  | prepr (e y x : BitVec 1) (t b : BitVec 2)
  /-- PREPI (R141): Prepares a target at aS[31:0] plus the signed off14. -/
  | prepi (e y x : BitVec 1) (t b : BitVec 2) (s : BitVec 5) (o : BitVec 14)
  /-- LOOP (R128): Activates hardware loop level lv with count aN[31:0] and body length len, or skips the body when the count is 0. -/
  | loop (e y x : BitVec 1) (t v : BitVec 2) (n : BitVec 5) (l : BitVec 14)
  /-- LOOPI (R128): Activates hardware loop level lv with an immediate count. -/
  | loopi (e y x : BitVec 1) (t v : BitVec 2) (c : BitVec 9) (l : BitVec 10)
  /-- BUDGET (R143): Declares a slice budget and reloads the slice budget counter from it. -/
  | budget (e y x : BitVec 1) (t : BitVec 2) (c : BitVec 21)
  /-- MARK (R144): Compares elapsed slice cycles with the expected count and logs a drift record when the drift reaches DRIFTT. -/
  | mark (e y x : BitVec 1) (t : BitVec 2) (c : BitVec 21)
  /-- SYNC (R145): Stalls a gang member until every member has issued SYNC of the same scope. -/
  | sync (e y x : BitVec 1) (t s : BitVec 2)
  /-- SPAWN (R147): Reads a record from scratchpad, splits the weight and offers the record to a scheduling queue of the home cluster, writing T or F to pD. -/
  | spawn (e y x : BitVec 1) (t : BitVec 2) (p : BitVec 6) (r : BitVec 5) (q : BitVec 6)
  /-- SUSP (R32): Ends the slice and, once the engines are empty, pushes a fresh record for the next bundle to a scheduling queue. -/
  | susp (y x : BitVec 1) (t : BitVec 2) (r : BitVec 5) (q : BitVec 6)
  /-- QNEW (R152): Returns the old weight and initialises quiescence domain aQ with weight aW. -/
  | qnew (e y x : BitVec 1) (t : BitVec 2) (q w : BitVec 5)
  /-- QWAIT (R153): Writes a context-resume record, returns the weight, registers the waiter on domain aQ and suspends. -/
  | qwait (y x : BitVec 1) (t : BitVec 2) (q : BitVec 5)
  /-- QBORROW (R152): Borrows n units, or QBSZ units, into TOTAL and MYW. -/
  | qborrow (e y x : BitVec 1) (t : BitVec 2) (n : BitVec 16)
  /-- QSPLIT (R152): Splits half of MYW into aD, borrowing first when MYW is 1. -/
  | qsplit (e y x : BitVec 1) (t : BitVec 2) (d : BitVec 5)
  /-- QJOIN (R152): Adds aS to MYW. -/
  | qjoin (e y x : BitVec 1) (t : BitVec 2) (s : BitVec 5)
  /-- QRET (R152): Returns MYW to the current domain and sets MYW to 0. -/
  | qret (e y x : BitVec 1) (t : BitVec 2)
  /-- WAITTE (R146): Stalls until tile entry te is READY with PH equal to phase. -/
  | waitte (e y x : BitVec 1) (t : BitVec 2) (n : BitVec 6) (h : BitVec 1)
  /-- DRAINW (R146): Makes the next bundle wait until every write issued up to this bundle has drained at system scope. -/
  | drainw (e y x : BitVec 1) (t : BitVec 2)
  /-- TRAP (R156): Raises TRAPI at the end of its bundle with the code in TINFO. -/
  | trap (e y x : BitVec 1) (t : BitVec 2) (c : BitVec 16)
  /-- RFT (R155): Leaves handler mode, restores the handler shadow and continues at the resume point or at TPC, taking any held cause first. -/
  | rft (e y : BitVec 1)
  /-- NOP_INT (R109): Domain-slot no-operation. -/
  | nopInt
  /-- ADD (R160): Assign form: writes the hull of the wrapped sums of all source members. -/
  | add (g : BitVec 4) (d a b : BitVec 6) (f h : BitVec 1)
  /-- ADD_N (R85): Narrows d, a and b once under d = a + b. -/
  | addN (g : BitVec 4) (d a b : BitVec 6) (f h : BitVec 1)
  /-- ADD_P (R168): Posts d = a + b as a standing relation and queues it for propagation. -/
  | addP (g : BitVec 4) (d a b : BitVec 6) (f h : BitVec 1)
  /-- SUB (R160): Assign form of subtraction. -/
  | sub (g : BitVec 4) (d a b : BitVec 6) (f h : BitVec 1)
  /-- SUB_N (R85): Narrows once under d = a − b. -/
  | subN (g : BitVec 4) (d a b : BitVec 6) (f h : BitVec 1)
  /-- SUB_P (R168): Posts d = a − b as a standing relation. -/
  | subP (g : BitVec 4) (d a b : BitVec 6) (f h : BitVec 1)
  /-- MUL (R160): Assign form of multiplication. -/
  | mul (g : BitVec 4) (d a b : BitVec 6) (f h : BitVec 1)
  /-- MUL_N (R86): Narrows once under d = a × b, bounds-only on the dense tail for sources. -/
  | mulN (g : BitVec 4) (d a b : BitVec 6) (f h : BitVec 1)
  /-- MUL_P (R168): Posts d = a × b as a standing relation. -/
  | mulP (g : BitVec 4) (d a b : BitVec 6) (f h : BitVec 1)
  /-- MIN (R160): Assign form of minimum. -/
  | min (g : BitVec 4) (d a b : BitVec 6) (f h : BitVec 1)
  /-- MIN_N (R85): Narrows once under d = min(a, b). -/
  | minN (g : BitVec 4) (d a b : BitVec 6) (f h : BitVec 1)
  /-- MIN_P (R168): Posts d = min(a, b). -/
  | minP (g : BitVec 4) (d a b : BitVec 6) (f h : BitVec 1)
  /-- MAX (R160): Assign form of maximum. -/
  | max (g : BitVec 4) (d a b : BitVec 6) (f h : BitVec 1)
  /-- MAX_N (R85): Narrows once under d = max(a, b). -/
  | maxN (g : BitVec 4) (d a b : BitVec 6) (f h : BitVec 1)
  /-- MAX_P (R168): Posts d = max(a, b). -/
  | maxP (g : BitVec 4) (d a b : BitVec 6) (f h : BitVec 1)
  /-- ABS (R160): Assign form of absolute value, wrapping. -/
  | abs (g : BitVec 4) (d a : BitVec 6) (f : BitVec 1)
  /-- ABS_N (R85): Narrows once under d = |a|. -/
  | absN (g : BitVec 4) (d a : BitVec 6) (f : BitVec 1)
  /-- ABS_P (R168): Posts d = |a|. -/
  | absP (g : BitVec 4) (d a : BitVec 6) (f : BitVec 1)
  /-- NEG (R160): Assign form of negation, wrapping. -/
  | neg (g : BitVec 4) (d a : BitVec 6) (f : BitVec 1)
  /-- NEG_N (R85): Narrows once under d = −a. -/
  | negN (g : BitVec 4) (d a : BitVec 6) (f : BitVec 1)
  /-- NEG_P (R168): Posts d = −a. -/
  | negP (g : BitVec 4) (d a : BitVec 6) (f : BitVec 1)
  /-- MOV (R160): Assign copy of a domain. -/
  | mov (g : BitVec 4) (d a : BitVec 6) (f : BitVec 1)
  /-- MOV_N (R160): Narrows both registers to the hull of their intersection. -/
  | movN (g : BitVec 4) (d a : BitVec 6) (f : BitVec 1)
  /-- MOV_P (R168): Posts d = a. -/
  | movP (g : BitVec 4) (d a : BitVec 6) (f : BitVec 1)
  /-- ADDI (R160): Assign form of addition of a signed imm8. -/
  | addi (g : BitVec 4) (d a : BitVec 6) (i : BitVec 8)
  /-- ADDI_N (R85): Narrows once under d = a + imm. -/
  | addiN (g : BitVec 4) (d a : BitVec 6) (i : BitVec 8)
  /-- ADDI_P (R168): Posts d = a + imm. -/
  | addiP (g : BitVec 4) (d a : BitVec 6) (i : BitVec 8)
  /-- MULI (R160): Assign form of multiplication by a signed imm8. -/
  | muli (g : BitVec 4) (d a : BitVec 6) (i : BitVec 8)
  /-- MULI_N (R86): Narrows once under d = a × imm. -/
  | muliN (g : BitVec 4) (d a : BitVec 6) (i : BitVec 8)
  /-- MULI_P (R168): Posts d = a × imm. -/
  | muliP (g : BitVec 4) (d a : BitVec 6) (i : BitVec 8)
  /-- AND (R161): Hull of the bitwise AND of all member pairs. -/
  | and (g : BitVec 4) (d a b : BitVec 6) (f h : BitVec 1)
  /-- OR (R161): Hull of the bitwise OR of all member pairs. -/
  | or (g : BitVec 4) (d a b : BitVec 6) (f h : BitVec 1)
  /-- XOR (R161): Hull of the bitwise XOR of all member pairs. -/
  | xor (g : BitVec 4) (d a b : BitVec 6) (f h : BitVec 1)
  /-- SHL (R161): Hull of left shifts by y[4:0]. -/
  | shl (g : BitVec 4) (d a b : BitVec 6) (f h : BitVec 1)
  /-- SHR (R161): Hull of zero-filled right shifts. -/
  | shr (g : BitVec 4) (d a b : BitVec 6) (f h : BitVec 1)
  /-- SAR (R161): Hull of sign-filled right shifts. -/
  | sar (g : BitVec 4) (d a b : BitVec 6) (f h : BitVec 1)
  /-- EQ (R162): Writes p[D] with T, F or U for a = b over all member pairs. -/
  | eq (g : BitVec 4) (d a b : BitVec 6) (f h : BitVec 1)
  /-- EQ_N (R162): Narrows a and b to their intersection. -/
  | eqN (g : BitVec 4) (a b : BitVec 6) (f h : BitVec 1)
  /-- EQ_P (R168): Posts a = b. -/
  | eqP (g : BitVec 4) (a b : BitVec 6) (f h : BitVec 1)
  /-- NE (R162): Writes p[D] for a ≠ b. -/
  | ne (g : BitVec 4) (d a b : BitVec 6) (f h : BitVec 1)
  /-- NE_N (R162): Narrows once under a ≠ b. -/
  | neN (g : BitVec 4) (a b : BitVec 6) (f h : BitVec 1)
  /-- NE_P (R168): Posts a ≠ b. -/
  | neP (g : BitVec 4) (a b : BitVec 6) (f h : BitVec 1)
  /-- LT (R162): Writes p[D] for a < b. -/
  | lt (g : BitVec 4) (d a b : BitVec 6) (f h : BitVec 1)
  /-- LT_N (R162): Narrows once under a < b. -/
  | ltN (g : BitVec 4) (a b : BitVec 6) (f h : BitVec 1)
  /-- LT_P (R168): Posts a < b. -/
  | ltP (g : BitVec 4) (a b : BitVec 6) (f h : BitVec 1)
  /-- LE (R162): Writes p[D] for a ≤ b. -/
  | le (g : BitVec 4) (d a b : BitVec 6) (f h : BitVec 1)
  /-- LE_N (R162): Narrows once under a ≤ b. -/
  | leN (g : BitVec 4) (a b : BitVec 6) (f h : BitVec 1)
  /-- LE_P (R168): Posts a ≤ b. -/
  | leP (g : BitVec 4) (a b : BitVec 6) (f h : BitVec 1)
  /-- EQI (R162): Writes p[D] for a = imm. -/
  | eqi (g : BitVec 4) (d a : BitVec 6) (i : BitVec 8)
  /-- EQI_N (R162): Narrows a once under a = imm. -/
  | eqiN (g : BitVec 4) (a : BitVec 6) (i : BitVec 8)
  /-- EQI_P (R168): Posts a = imm. -/
  | eqiP (g : BitVec 4) (a : BitVec 6) (i : BitVec 8)
  /-- NEI (R162): Writes p[D] for a ≠ imm. -/
  | nei (g : BitVec 4) (d a : BitVec 6) (i : BitVec 8)
  /-- NEI_N (R162): Narrows a once under a ≠ imm. -/
  | neiN (g : BitVec 4) (a : BitVec 6) (i : BitVec 8)
  /-- NEI_P (R168): Posts a ≠ imm. -/
  | neiP (g : BitVec 4) (a : BitVec 6) (i : BitVec 8)
  /-- LTI (R162): Writes p[D] for a < imm. -/
  | lti (g : BitVec 4) (d a : BitVec 6) (i : BitVec 8)
  /-- LTI_N (R162): Narrows a once under a < imm. -/
  | ltiN (g : BitVec 4) (a : BitVec 6) (i : BitVec 8)
  /-- LTI_P (R168): Posts a < imm. -/
  | ltiP (g : BitVec 4) (a : BitVec 6) (i : BitVec 8)
  /-- LEI (R162): Writes p[D] for a ≤ imm. -/
  | lei (g : BitVec 4) (d a : BitVec 6) (i : BitVec 8)
  /-- LEI_N (R162): Narrows a once under a ≤ imm. -/
  | leiN (g : BitVec 4) (a : BitVec 6) (i : BitVec 8)
  /-- LEI_P (R168): Posts a ≤ imm. -/
  | leiP (g : BitVec 4) (a : BitVec 6) (i : BitVec 8)
  /-- GTI (R162): Writes p[D] for a > imm. -/
  | gti (g : BitVec 4) (d a : BitVec 6) (i : BitVec 8)
  /-- GTI_N (R162): Narrows a once under a > imm. -/
  | gtiN (g : BitVec 4) (a : BitVec 6) (i : BitVec 8)
  /-- GTI_P (R168): Posts a > imm. -/
  | gtiP (g : BitVec 4) (a : BitVec 6) (i : BitVec 8)
  /-- GEI (R162): Writes p[D] for a ≥ imm. -/
  | gei (g : BitVec 4) (d a : BitVec 6) (i : BitVec 8)
  /-- GEI_N (R162): Narrows a once under a ≥ imm. -/
  | geiN (g : BitVec 4) (a : BitVec 6) (i : BitVec 8)
  /-- GEI_P (R168): Posts a ≥ imm. -/
  | geiP (g : BitVec 4) (a : BitVec 6) (i : BitVec 8)
  /-- DLO (R163): Writes the singleton of the source's LO. -/
  | dlo (g : BitVec 4) (d a : BitVec 6) (f : BitVec 1)
  /-- DHI (R163): Writes the singleton of the source's HI. -/
  | dhi (g : BitVec 4) (d a : BitVec 6) (f : BitVec 1)
  /-- DSIZE (R163): Writes the singleton of the member count, saturated. -/
  | dsize (g : BitVec 4) (d a : BitVec 6) (f : BitVec 1)
  /-- DMID (R163): Writes the singleton of the floor midpoint of LO and HI. -/
  | dmid (g : BitVec 4) (d a : BitVec 6) (f : BitVec 1)
  /-- DSET (R163): Writes the range LO(a) to HI(b), or raises FAIL when empty. -/
  | dset (g : BitVec 4) (d a b : BitVec 6) (f h : BitVec 1)
  /-- DFULL (R163): Writes ⊤. -/
  | dfull (g : BitVec 4) (d : BitVec 6)
  /-- SINGLE (R163): Writes p[D] T when the source is a singleton, F otherwise. -/
  | single (g : BitVec 4) (d a : BitVec 6) (f : BitVec 1)
  /-- DIV (R164): Marks kD empty and starts a truncating division of singletons. -/
  | div (g : BitVec 4) (d a b : BitVec 6) (f h : BitVec 1)
  /-- REM (R164): Marks kD empty and starts a truncating remainder of singletons. -/
  | rem (g : BitVec 4) (d a b : BitVec 6) (f h : BitVec 1)
  /-- CKPT (R174): Pushes a checkpoint recording STOREH and the trail position. -/
  | ckpt (g : BitVec 4)
  /-- ROLL (R176): Restores trailed domains above the top checkpoint, cuts the store back and empties the wake queue. -/
  | roll (g : BitVec 4)
  /-- COMMIT (R177): Pops the top checkpoint without restoring anything. -/
  | commit (g : BitVec 4)
  /-- NOP_ADR (R109): Address-slot no-operation. -/
  | nopAdr
  /-- ADDA (R181): aD := aA + aB modulo 2^64. -/
  | adda (g : BitVec 4) (d a b : BitVec 5)
  /-- SUBA (R181): aD := aA − aB. -/
  | suba (g : BitVec 4) (d a b : BitVec 5)
  /-- MULA (R181): aD := low 64 bits of aA × aB. -/
  | mula (g : BitVec 4) (d a b : BitVec 5)
  /-- ANDA (R181): aD := aA AND aB. -/
  | anda (g : BitVec 4) (d a b : BitVec 5)
  /-- ORA (R181): aD := aA OR aB. -/
  | ora (g : BitVec 4) (d a b : BitVec 5)
  /-- XORA (R181): aD := aA XOR aB. -/
  | xora (g : BitVec 4) (d a b : BitVec 5)
  /-- SHLA (R181): aD := aA shifted left by aB[5:0]. -/
  | shla (g : BitVec 4) (d a b : BitVec 5)
  /-- SHRA (R181): aD := aA shifted right, zero-filled. -/
  | shra (g : BitVec 4) (d a b : BitVec 5)
  /-- SARA (R181): aD := aA shifted right, sign-filled. -/
  | sara (g : BitVec 4) (d a b : BitVec 5)
  /-- ADDAI (R181): aD := aA + sext64(imm12). -/
  | addai (g : BitVec 4) (d a : BitVec 5) (i : BitVec 12)
  /-- LI (R181): aD := sext64(imm17). -/
  | li (g : BitVec 4) (d : BitVec 5) (i : BitVec 17)
  /-- SHLAI (R181): aD := aA shifted left by an immediate 0–63. -/
  | shlai (g : BitVec 4) (d a : BitVec 5) (i : BitVec 6)
  /-- CMPA (R182): Writes T or F to pD for the comparison cond of aA and aB. -/
  | cmpa (g : BitVec 4) (p a b : BitVec 5) (c : BitVec 3)
  /-- CMPAI (R182): Writes T or F to pD for the comparison cond of aA and sext64(imm9). -/
  | cmpai (g : BitVec 4) (p a : BitVec 5) (c : BitVec 3) (i : BitVec 9)
  /-- PLOGIC (R183): Writes pD with a three-valued function of pA and pB. -/
  | plogic (d a b : BitVec 7) (f : BitVec 3)
  /-- PSET (R184): Writes F, T or U to pD. -/
  | pset (d : BitVec 7) (v : BitVec 2)
  /-- ARM (R185): Arms target buffer b from predicate pS under the chosen polarity. -/
  | arm (b : BitVec 2) (s : BitVec 7) (p : BitVec 1)
  /-- ARMM (R185): Arms target buffer b from a uniform lane mask. -/
  | armm (b : BitVec 2) (s : BitVec 4)
  /-- MLOGIC (R186): Computes a bitwise function of two lane masks. -/
  | mlogic (g d a b : BitVec 4) (f : BitVec 3)
  /-- MCNT (R187): aD := number of 1 bits in mS. -/
  | mcnt (g : BitVec 4) (d : BitVec 5) (s : BitVec 4)
  /-- MFIRST (R187): aD := index of the lowest 1 bit of mS, or 64. -/
  | mfirst (g : BitVec 4) (d : BitVec 5) (s : BitVec 4)
  /-- MFILL (R187): mD := aS[63:0]. -/
  | mfill (g d : BitVec 4) (s : BitVec 5)
  /-- MFROMP (R187): mD := all ones when pS = T, else 0. -/
  | mfromp (g d : BitVec 4) (s : BitVec 7)
  /-- MOVKA (R188): aD := sext64 of the singleton value of kS. -/
  | movka (g : BitVec 4) (d : BitVec 5) (s : BitVec 6)
  /-- MOVAK (R188): kD := singleton of aS[31:0]. -/
  | movak (g : BitVec 4) (d : BitVec 6) (s : BitVec 5)
  /-- SELA (R189): aD := aA when pX = T, else aB. -/
  | sela (g : BitVec 4) (d a b : BitVec 5) (p : BitVec 7)
  /-- LDELTA (R190): Writes the loop delta of register aT at level lv. -/
  | ldelta (g : BitVec 4) (v : BitVec 2) (t s : BitVec 5)
  /-- GETLC (R191): aD := remaining count of loop level lv. -/
  | getlc (g : BitVec 4) (d : BitVec 5) (v : BitVec 2)
  /-- MOVS (R192): Reads a system register into aD. -/
  | movs (g : BitVec 4) (d : BitVec 5) (r : BitVec 12)
  /-- MOVG (R192): Writes aS to a system register for the next bundle, with range checks on PBUDGET and QBSZ. -/
  | movg (g : BitVec 4) (s : BitVec 5) (r : BitVec 12)
  /-- NOP_VEC (R109): Vector-slot no-operation. -/
  | nopVec
  /-- VADD_F (R196): FP32 lane addition, RNE. -/
  | vaddF (g : BitVec 5) (d a b : BitVec 6) (f h : BitVec 1)
  /-- VSUB_F (R196): FP32 lane subtraction. -/
  | vsubF (g : BitVec 5) (d a b : BitVec 6) (f h : BitVec 1)
  /-- VMUL_F (R196): FP32 lane multiplication. -/
  | vmulF (g : BitVec 5) (d a b : BitVec 6) (f h : BitVec 1)
  /-- VFMA_F (R196): d + a × b with one rounding. -/
  | vfmaF (g : BitVec 5) (d a b : BitVec 6) (f h : BitVec 1)
  /-- VFMS_F (R196): d − a × b with one rounding. -/
  | vfmsF (g : BitVec 5) (d a b : BitVec 6) (f h : BitVec 1)
  /-- VMIN_F (R196): FP32 lane minimum. -/
  | vminF (g : BitVec 5) (d a b : BitVec 6) (f h : BitVec 1)
  /-- VMAX_F (R196): FP32 lane maximum. -/
  | vmaxF (g : BitVec 5) (d a b : BitVec 6) (f h : BitVec 1)
  /-- VABS_F (R196): Clears the sign bit of each lane. -/
  | vabsF (g : BitVec 5) (d a : BitVec 6) (f : BitVec 1)
  /-- VNEG_F (R196): Inverts the sign bit of each lane. -/
  | vnegF (g : BitVec 5) (d a : BitVec 6) (f : BitVec 1)
  /-- VRCP_F (R197): Correctly rounded reciprocal. -/
  | vrcpF (g : BitVec 5) (d a : BitVec 6) (f : BitVec 1)
  /-- VRSQ_F (R197): Correctly rounded reciprocal square root. -/
  | vrsqF (g : BitVec 5) (d a : BitVec 6) (f : BitVec 1)
  /-- VEXP2_F (R197): Correctly rounded 2^a. -/
  | vexp2F (g : BitVec 5) (d a : BitVec 6) (f : BitVec 1)
  /-- VLOG2_F (R197): Correctly rounded log2 a. -/
  | vlog2F (g : BitVec 5) (d a : BitVec 6) (f : BitVec 1)
  /-- VCMPEQ_F (R198): Writes mask bits for a = b. -/
  | vcmpeqF (g : BitVec 5) (d : BitVec 4) (a b : BitVec 6) (f h : BitVec 1)
  /-- VCMPLT_F (R198): Writes mask bits for a < b. -/
  | vcmpltF (g : BitVec 5) (d : BitVec 4) (a b : BitVec 6) (f h : BitVec 1)
  /-- VCMPLE_F (R198): Writes mask bits for a ≤ b. -/
  | vcmpleF (g : BitVec 5) (d : BitVec 4) (a b : BitVec 6) (f h : BitVec 1)
  /-- VADD_I (R199): Int32 lane addition, wrapping. -/
  | vaddI (g : BitVec 5) (d a b : BitVec 6) (f h : BitVec 1)
  /-- VSUB_I (R199): Int32 lane subtraction. -/
  | vsubI (g : BitVec 5) (d a b : BitVec 6) (f h : BitVec 1)
  /-- VMUL_I (R199): Low 32 bits of the lane product. -/
  | vmulI (g : BitVec 5) (d a b : BitVec 6) (f h : BitVec 1)
  /-- VMIN_I (R199): Signed lane minimum. -/
  | vminI (g : BitVec 5) (d a b : BitVec 6) (f h : BitVec 1)
  /-- VMAX_I (R199): Signed lane maximum. -/
  | vmaxI (g : BitVec 5) (d a b : BitVec 6) (f h : BitVec 1)
  /-- VAND (R199): Lane AND. -/
  | vand (g : BitVec 5) (d a b : BitVec 6) (f h : BitVec 1)
  /-- VOR (R199): Lane OR. -/
  | vor (g : BitVec 5) (d a b : BitVec 6) (f h : BitVec 1)
  /-- VXOR (R199): Lane XOR. -/
  | vxor (g : BitVec 5) (d a b : BitVec 6) (f h : BitVec 1)
  /-- VSHL (R199): Lane left shift by b[4:0]. -/
  | vshl (g : BitVec 5) (d a b : BitVec 6) (f h : BitVec 1)
  /-- VSHR (R199): Lane zero-filled right shift. -/
  | vshr (g : BitVec 5) (d a b : BitVec 6) (f h : BitVec 1)
  /-- VSAR (R199): Lane sign-filled right shift. -/
  | vsar (g : BitVec 5) (d a b : BitVec 6) (f h : BitVec 1)
  /-- VCMPEQ_I (R199): Writes mask bits for integer a = b. -/
  | vcmpeqI (g : BitVec 5) (d : BitVec 4) (a b : BitVec 6) (f h : BitVec 1)
  /-- VCMPLT_I (R199): Writes mask bits for signed a < b. -/
  | vcmpltI (g : BitVec 5) (d : BitVec 4) (a b : BitVec 6) (f h : BitVec 1)
  /-- VCVT_FI (R200): FP32 to int32 with saturation, counting into VOVF. -/
  | vcvtFi (g : BitVec 5) (d a : BitVec 6) (f : BitVec 1)
  /-- VCVT_IF (R200): Int32 to FP32, RNE. -/
  | vcvtIf (g : BitVec 5) (d a : BitVec 6) (f : BitVec 1)
  /-- VPKBF (R200): Packs two FP32 lanes into BF16 halves. -/
  | vpkbf (g : BitVec 5) (d a b : BitVec 6) (f h : BitVec 1)
  /-- VUNBF (R200): Unpacks BF16 half h of each lane into FP32. -/
  | vunbf (g : BitVec 5) (d a : BitVec 6) (k f : BitVec 1)
  /-- VCVTN (R201): Converts FP32 lanes to a narrow format under R97, counting into VOVF. -/
  | vcvtn (g : BitVec 4) (d a : BitVec 6) (n : BitVec 4) (f : BitVec 1)
  /-- VCVTW (R201): Converts narrow codes back into FP32 lanes. -/
  | vcvtw (g : BitVec 4) (d a : BitVec 6) (n : BitVec 4) (f : BitVec 1)
  /-- VMOV (R202): Copies lanes. -/
  | vmov (g : BitVec 5) (d a : BitVec 6) (f : BitVec 1)
  /-- VSEL (R202): Selects each lane from A or B by the mask guard. -/
  | vsel (g : BitVec 4) (d a b : BitVec 6) (f h : BitVec 1)
  /-- VBCA (R202): Broadcasts aA[31:0] to every lane. -/
  | vbca (g : BitVec 5) (d : BitVec 6) (a : BitVec 5) (f : BitVec 1)
  /-- VBCK (R202): Broadcasts a singleton domain to every lane. -/
  | vbck (g : BitVec 5) (d : BitVec 6) (a : BitVec 5) (f : BitVec 1)
  /-- VPERM (R202): Permutes lanes of A by the indices in B. -/
  | vperm (g : BitVec 5) (d a b : BitVec 6) (f h : BitVec 1)
  /-- VEXT (R202): aD := sext64 of lane n. -/
  | vext (g d : BitVec 5) (a n : BitVec 6) (f : BitVec 1)
  /-- VINS (R202): Writes aA[31:0] into lane n. -/
  | vins (g : BitVec 5) (d : BitVec 6) (a : BitVec 5) (n : BitVec 6) (f : BitVec 1)
  /-- VIOTA (R202): Lane i := i. -/
  | viota (g : BitVec 5) (d : BitVec 6)
  /-- VSUMX (R203): Exact sum of participating FP32 lanes rounded once into lane 0. -/
  | vsumx (g : BitVec 5) (d a : BitVec 6) (f : BitVec 1)
  /-- VMAXR (R203): Largest participating FP32 lane into lane 0. -/
  | vmaxr (g : BitVec 5) (d a : BitVec 6) (f : BitVec 1)
  /-- VMINR (R203): Smallest participating FP32 lane into lane 0. -/
  | vminr (g : BitVec 5) (d a : BitVec 6) (f : BitVec 1)
  /-- VSUMI (R203): Wrapping int32 sum of participating lanes into lane 0. -/
  | vsumi (g : BitVec 5) (d a : BitVec 6) (f : BitVec 1)
  /-- NOP_IVL (R109): Interval-slot no-operation. -/
  | nopIvl
  /-- QADD (R206): Outward-rounded interval sum. -/
  | qadd (g d a b : BitVec 5)
  /-- QSUB (R206): Outward-rounded interval difference. -/
  | qsub (g d a b : BitVec 5)
  /-- QMUL (R206): Outward-rounded interval product. -/
  | qmul (g d a b : BitVec 5)
  /-- QFMA (R206): Outward-rounded c + a × b. -/
  | qfma (g d a b c : BitVec 5)
  /-- QDIV (R206): Outward-rounded interval quotient. -/
  | qdiv (g d a b : BitVec 5)
  /-- QSQR (R206): Outward-rounded interval square. -/
  | qsqr (g d a : BitVec 5)
  /-- QSQRT (R206): Outward-rounded interval square root. -/
  | qsqrt (g d a : BitVec 5)
  /-- QRELU (R206): Interval max(0, a). -/
  | qrelu (g d a : BitVec 5)
  /-- QMAX (R206): Interval max(a, b). -/
  | qmax (g d a b : BitVec 5)
  /-- QMIN (R206): Interval min(a, b). -/
  | qmin (g d a b : BitVec 5)
  /-- QNEG (R206): Interval negation. -/
  | qneg (g d a : BitVec 5)
  /-- QABS (R206): Interval absolute value. -/
  | qabs (g d a : BitVec 5)
  /-- QEXP (R206): Outward-rounded interval exponential. -/
  | qexp (g d a : BitVec 5)
  /-- QMEET (R207): Lane intersection. -/
  | qmeet (g d a b : BitVec 5)
  /-- QHULL (R207): Lane hull. -/
  | qhull (g d a b : BitVec 5)
  /-- QMID (R207): Lane midpoint as a point interval. -/
  | qmid (g d a : BitVec 5)
  /-- QWID (R207): Lane width enclosure. -/
  | qwid (g d a : BitVec 5)
  /-- QBIS (R207): Bisects each lane, lower half to D and upper half to A. -/
  | qbis (g d a : BitVec 5)
  /-- QMAKE (R208): Builds lanes from two v registers, canonicalised. -/
  | qmake (g d a b : BitVec 5) (h : BitVec 1)
  /-- QPOINT (R208): Builds point lanes from a v register. -/
  | qpoint (g d a : BitVec 5) (h : BitVec 1)
  /-- QLO (R208): Copies lower bounds into half h of a v register. -/
  | qlo (g d a : BitVec 5) (h : BitVec 1)
  /-- QHI (R208): Copies upper bounds into half h of a v register. -/
  | qhi (g d a : BitVec 5) (h : BitVec 1)
  /-- QENT (R208): Writes [−∞, +∞] in each lane. -/
  | qent (g d : BitVec 5)
  /-- QEMP (R208): Writes EMPTY in each lane. -/
  | qemp (g d : BitVec 5)
  /-- QBCA (R208): Broadcasts the pattern aA, canonicalised. -/
  | qbca (g d a : BitVec 5)
  /-- QCMP (R209): Writes certain and possible masks for relation C per lane. -/
  | qcmp (g : BitVec 5) (d : BitVec 3) (a b c : BitVec 5)
  /-- QTEST (R210): Writes one three-valued predicate for relation C over participating lanes. -/
  | qtest (g d a b c : BitVec 5)
  /-- QADD_C (R211): Contracts d, a, b under d = a + b and records QPROG and QEMPTY. -/
  | qaddC (g d a b : BitVec 5)
  /-- QSUB_C (R211): Contracts under d = a − b. -/
  | qsubC (g d a b : BitVec 5)
  /-- QMUL_C (R211): Contracts under d = a × b. -/
  | qmulC (g d a b : BitVec 5)
  /-- QFMA_C (R211): Contracts under d = c + a × b. -/
  | qfmaC (g d a b c : BitVec 5)
  /-- QSQR_C (R211): Contracts under d = a². -/
  | qsqrC (g d a : BitVec 5)
  /-- QRELU_C (R211): Contracts under d = max(0, a). -/
  | qreluC (g d a : BitVec 5)
  /-- QMAX_C (R211): Contracts under d = max(a, b). -/
  | qmaxC (g d a b : BitVec 5)
  /-- QEXP_C (R211): Contracts under d = e^a. -/
  | qexpC (g d a : BitVec 5)
  /-- QLE_C (R211): Contracts a and b under a ≤ b. -/
  | qleC (g a b : BitVec 5)
  /-- QSTAT (R214): Reads QPROG or QEMPTY into a predicate and clears the bits it read. -/
  | qstat (g d : BitVec 5) (c : BitVec 1)
  /-- NOP_MEM (R109): Memory-slot no-operation. -/
  | nopMem
  /-- LDS_V (R219): Loads 256 scratchpad bytes into a v register at latency 8. -/
  | ldsV (g : BitVec 4) (r : BitVec 6) (b : BitVec 5) (f : BitVec 11)
  /-- STS_V (R219): Stores a v register to scratchpad. -/
  | stsV (g : BitVec 4) (r : BitVec 6) (b : BitVec 5) (f : BitVec 11)
  /-- LDS_Q (R219): Loads a q register from scratchpad in canonical form. -/
  | ldsQ (g : BitVec 4) (r b : BitVec 5) (f : BitVec 11)
  /-- STS_Q (R219): Stores a q register to scratchpad. -/
  | stsQ (g : BitVec 4) (r b : BitVec 5) (f : BitVec 11)
  /-- LDS_K (R219): Loads the hull of a domain pattern from scratchpad. -/
  | ldsK (g : BitVec 4) (r : BitVec 6) (b : BitVec 5) (f : BitVec 11)
  /-- STS_K (R219): Stores a domain's canonical pattern. -/
  | stsK (g : BitVec 4) (r : BitVec 6) (b : BitVec 5) (f : BitVec 11)
  /-- LDS_A (R219): Loads 8 scratchpad bytes into an a register. -/
  | ldsA (g : BitVec 4) (r b : BitVec 5) (f : BitVec 11)
  /-- STS_A (R219): Stores an a register to scratchpad. -/
  | stsA (g : BitVec 4) (r b : BitVec 5) (f : BitVec 11)
  /-- LDS_VX (R220): Starts a 64-lane scratchpad gather, marking vR empty. -/
  | ldsVx (g : BitVec 4) (r : BitVec 6) (b : BitVec 5) (i : BitVec 6)
  /-- STS_VX (R220): Starts a 64-lane scratchpad scatter, marking vR and vI busy. -/
  | stsVx (g : BitVec 4) (r : BitVec 6) (b : BitVec 5) (i : BitVec 6)
  /-- LDG_A (R221): Issues a global 8-byte load, marking aR empty. -/
  | ldgA (g : BitVec 4) (r b : BitVec 5) (o : BitVec 3) (f : BitVec 8)
  /-- STG_A (R221): Issues a global 8-byte store. -/
  | stgA (g : BitVec 4) (r b : BitVec 5) (o : BitVec 3) (f : BitVec 8)
  /-- LDG_V (R221): Issues a global 256-byte load into a v register. -/
  | ldgV (g : BitVec 4) (r : BitVec 6) (b : BitVec 5) (o : BitVec 3) (f : BitVec 8)
  /-- STG_V (R221): Issues a global 256-byte store of a v register. -/
  | stgV (g : BitVec 4) (r : BitVec 6) (b : BitVec 5) (o : BitVec 3) (f : BitVec 8)
  /-- LDG_K (R221): Issues a global load of a domain pattern into kR. -/
  | ldgK (g : BitVec 4) (r : BitVec 6) (b : BitVec 5) (o : BitVec 3) (f : BitVec 7)
  /-- LDG_K_N (R165): Issues a global domain load that meets the register when it lands. -/
  | ldgKN (g : BitVec 4) (r : BitVec 6) (b : BitVec 5) (o : BitVec 3) (f : BitVec 7)
  /-- AADD (R222): Atomic 64-bit add returning the old value. -/
  | aadd (g : BitVec 4) (d b s : BitVec 5) (o : BitVec 3)
  /-- AMAX (R222): Atomic signed max. -/
  | amax (g : BitVec 4) (d b s : BitVec 5) (o : BitVec 3)
  /-- AMIN (R222): Atomic signed min. -/
  | amin (g : BitVec 4) (d b s : BitVec 5) (o : BitVec 3)
  /-- AXCH (R222): Atomic exchange. -/
  | axch (g : BitVec 4) (d b s : BitVec 5) (o : BitVec 3)
  /-- ACAS (R222): Atomic compare-and-swap against aD. -/
  | acas (g : BitVec 4) (d b s : BitVec 5) (o : BitVec 3)
  /-- AMAXF (R222): Atomic FP32 max. -/
  | amaxf (g : BitVec 4) (d b s : BitVec 5) (o : BitVec 3)
  /-- AMAXRST (R223): Atomic read-and-reset of a 32-bit word. -/
  | amaxrst (g : BitVec 4) (d b : BitVec 5) (o : BitVec 3)
  /-- XADD (R104): Adds FP32 aS exactly into an XA cell. -/
  | xadd (g : BitVec 4) (b s : BitVec 5)
  /-- XADDV (R224): Adds 64 lanes into 64 consecutive XA cells. -/
  | xaddv (g : BitVec 4) (b : BitVec 5) (s : BitVec 6)
  /-- XRD (R105): Reads an XA cell rounded once into aD. -/
  | xrd (g : BitVec 4) (d b : BitVec 5) (m : BitVec 2)
  /-- XRDV (R224): Reads 64 XA cells into the lanes of vD. -/
  | xrdv (g : BitVec 4) (d : BitVec 6) (b : BitVec 5) (m : BitVec 2)
  /-- XCLR (R224): Writes the reset state into count XA cells. -/
  | xclr (g : BitVec 4) (b : BitVec 5) (c : BitVec 7)
  /-- FENCE_ACQ (R225): Holds later accesses until earlier loads have performed at the scope. -/
  | fenceAcq (g : BitVec 4) (s : BitVec 3)
  /-- FENCE_REL (R225): Holds later writes, pushes and engine issues until earlier writes have drained to the scope. -/
  | fenceRel (g : BitVec 4) (s : BitVec 3)
  /-- FENCE_FULL (R225): Acts as both fences and also orders earlier writes before later loads. -/
  | fenceFull (g : BitVec 4) (s : BitVec 3)
  /-- PUSH (R228): Pushes an 8-byte payload to a FIFO value queue of the home cluster. -/
  | push (g : BitVec 4) (q : BitVec 6) (s : BitVec 5)
  /-- PUSHT (R228): Pushes a payload with a ticket to a ticket-mode value queue. -/
  | pusht (g : BitVec 4) (q : BitVec 6) (s t : BitVec 5)
  /-- PUSHQW (R228): Pushes a payload carrying weight aW taken from MYW. -/
  | pushqw (g : BitVec 4) (q : BitVec 6) (s w : BitVec 5)
  /-- POP (R228): Marks aD empty and asks the value queue for its next entry. -/
  | pop (g : BitVec 4) (q : BitVec 6) (d : BitVec 5)
  /-- PUSHR (R228): Pushes 64 scratchpad bytes as the payload. -/
  | pushr (g : BitVec 4) (q : BitVec 6) (r : BitVec 5)
  /-- POPR (R228): Marks aR empty and asks for an entry to be written to scratchpad at aR. -/
  | popr (g : BitVec 4) (q : BitVec 6) (r : BitVec 5)
  /-- CBINV (R226): Makes later operations reread the control block at aB from memory. -/
  | cbinv (g : BitVec 4) (b : BitVec 5)
  /-- NOP_MTX (R109): Anvil-slot no-operation. -/
  | nopMtx
  /-- CLAIM (R63): Binds an operand slot to the context and a format register. -/
  | claim (o : BitVec 5) (f : BitVec 4)
  /-- RELEASE (R65): Releases a claimed operand slot. -/
  | release (o : BitVec 5)
  /-- LDW (R235): Streams lines of an operand slot into the shadow weight plane. -/
  | ldw (n : BitVec 7) (o : BitVec 5) (r : BitVec 9)
  /-- SWPW (R236): Exchanges the active and shadow weight planes. -/
  | swpw
  /-- ACC (R237): Multiplies N A-lines by the active plane and accumulates into accumulator rows. -/
  | acc (n : BitVec 7) (o : BitVec 5) (r : BitVec 9) (m : BitVec 2)
  /-- ACCZ (R237): As ACC, but overwrites the accumulator rows with the rounded column sums. -/
  | accz (n : BitVec 7) (o : BitVec 5) (r : BitVec 9) (m : BitVec 2)
  /-- DRAIN (R238): Converts N accumulator rows to a narrow format and writes them to scratchpad at DRP. -/
  | drain (n : BitVec 7) (f : BitVec 4) (r : BitVec 9) (m : BitVec 2) (e : BitVec 1)
  /-- DRAIN_F32 (R238): Writes N accumulator rows to scratchpad as FP32. -/
  | drainF32 (n : BitVec 7) (r : BitVec 9) (e : BitVec 1)
  /-- NOP_CPY (R109): Tongs-slot no-operation. -/
  | nopCpy
  /-- CG2S (R243): Forks a copy from global memory to scratchpad counted into a tile entry. -/
  | cg2s (t : BitVec 6) (d s l : BitVec 5)
  /-- CG2S_DC (R242): Forks a global-to-scratchpad copy counted into a dependence counter. -/
  | cg2sDc (d s l : BitVec 5)
  /-- CS2G (R243): Forks a copy from scratchpad to global memory counted as outgoing. -/
  | cs2g (t : BitVec 6) (d s l : BitVec 5)
  /-- CS2G_DC (R242): Forks a scratchpad-to-global copy counted into a dependence counter. -/
  | cs2gDc (d s l : BitVec 5)
  /-- CG2O (R243): Forks a strided copy from global memory filling an operand slot. -/
  | cg2o (site : SlotDest) (d s l : BitVec 5)
  /-- CS2O (R243): Forks a copy from scratchpad into an operand slot's byte stream. -/
  | cs2o (site : SlotDest) (d s l : BitVec 5)
  /-- CG2G (R243): Forks a global-to-global copy counting the bytes it writes. -/
  | cg2g (t : BitVec 6) (d s l : BitVec 5)
  /-- CG2G_DC (R242): Forks a global-to-global copy counted into a dependence counter. -/
  | cg2gDc (d s l : BitVec 5)
  /-- CXRED (R244): Forks a thread adding FP32 values from scratchpad into XA cells, counted into a tile entry. -/
  | cxred (t : BitVec 6) (d s l : BitVec 5)
  /-- CXRED_DC (R274): CXRED counted into a dependence counter. -/
  | cxredDc (d s l : BitVec 5)
  /-- TSET (R245): Sets a tile entry FILLING with aL bytes expected. -/
  | tset (t : BitVec 6) (l : BitVec 5)
  /-- TDRAIN (R245): Sets a READY tile entry DRAINING with aL bytes to leave. -/
  | tdrain (t : BitVec 6) (l : BitVec 5)
  /-- GIDX (R246): Appends an index to the open gather's address queue. -/
  | gidx (s : BitVec 5)
  /-- GATHER (R246): Opens a gather into a scratchpad ring counted into a tile entry. -/
  | gather (t : BitVec 6) (d s l : BitVec 5)
  /-- GEND (R246): Closes the open gather after its last index. -/
  | gend
  /-- LOAD_LANDING (R116): A long-latency load, atomic return or XA read lands at a bundle boundary, fills its destination and may unpark the context. -/
  | loadLanding (ctx id : Nat)
  /-- WRITE_DRAINED (R249): A write drains at system scope, advancing WDC and releasing waits on DRAINW, releases, pushes and weight returns. -/
  | writeDrained (ctx id : Nat)
  /-- DIV_REM_WRITE (R164): DIV or REM writes its singleton within 34 bundles, or raises DIVZERO at that point. -/
  | divRemWrite (ctx id : Nat)
  /-- SCATTER_GATHER_DONE (R220): An LDS.VX or STS.VX completes and marks its registers full. -/
  | scatterGatherDone (ctx id : Nat)
  /-- COPY_SECTOR_LANDS (R242): A copy sector lands and counts its bytes into its tile entry or dependence counter, possibly raising TILESTATE. -/
  | copySectorLands (ctx id sector : Nat)
  /-- GATHER_ROW_LANDS (R246): A gather row lands in the ring and counts into its tile entry. -/
  | gatherRowLands (ctx id : Nat)
  /-- PAGE_WALK (R71): A walker walks the page table for an access, sets A and D, or issues a page request. -/
  | pageWalk (pasid : BitVec 20) (va : BitVec 57) (kind : AccKind)
  /-- PAGE_RESPONSE (R325): A page request response arrives; success walks again, refusal fails every coalesced access. -/
  | pageResponse (pasid : BitVec 20) (va : BitVec 57) (kind : AccKind) (ok : Bool)
  /-- OVERLAY_LOADED (R66): A missing overlay finishes loading and the stalled fetch proceeds. -/
  | overlayLoaded (core : Nat)
  /-- OVERLAY_PREFETCH (R66): The core prefetches the next sequential overlay and those of prepared targets without stalling. -/
  | overlayPrefetch (core : Nat) (index : Nat)
  /-- PARK (R22): A bundle that waited 256 cycles on sources that may park parks the context and frees the core. -/
  | park (core : Nat)
  /-- BUDGETOVR (R319): The slice budget counter reaches zero before a yield and BUDGETOVR is raised. -/
  | budgetovr (core : Nat)
  /-- BARRIER_RESTART (R41): Every gang member issues its next bundle on the restart cycle after the last SYNC arrival. -/
  | barrierRestart (gang : Nat)
  /-- ENGINES_EMPTY (R33): After END or SUSP the engine queues empty; the weight returns, the ingots are freed or the SUSP record is pushed. -/
  | enginesEmpty (ctx : Nat)
  /-- DISPATCH (R37): Bellows dispatches the earliest-ranked dispatchable entry to an idle core. -/
  | dispatch (core : Nat)
  /-- GANG_DISPATCH (R39): A gang of consecutive tickets is dispatched together on one cycle once every core can take its member. -/
  | gangDispatch (cluster queue : Nat)
  /-- SPAWN_ACCEPTANCE (R151): Bellows accepts a spawned record after the spawner's earlier Hearth operations have been performed. -/
  | spawnAcceptance (ctx : Nat)
  /-- QUEUE_DELIVERY (R229): A value-queue entry is delivered to a waiting POP once the pusher's WDC reaches its stamp. -/
  | queueDelivery (cluster queue : Nat)
  /-- ENTRY_RETURN (R34): A spilled entry returns on chip in rank order as room appears. -/
  | entryReturn (cluster queue : Nat)
  /-- HEARTH_QNEW (R44): The Hearth initialises a QD block, waking any waiter with a1 = 3. -/
  | hearthQnew (ctx : Nat)
  /-- HEARTH_BORROW (R45): The Hearth adds a borrow to TOTAL and BORROWS. -/
  | hearthBorrow (ctx : Nat)
  /-- HEARTH_RETURN (R44): The Hearth adds returned weight to RETURNED and wakes the waiter when RETURNED equals TOTAL. -/
  | hearthReturn (ctx : Nat)
  /-- HEARTH_QWAIT (R153): The Hearth registers a waiter with its weight return, or pushes it at once. -/
  | hearthQwait (ctx : Nat)
  /-- QUEUE_WINDOW_WRITE (R29): A 64-byte host write to a queue window is checked and accepted with a ticket, or refused. -/
  | queueWindowWrite (port : BitVec 1) (offset : Nat) (bytes : List Byte)
  /-- BINDPASID (R284): Reads a PASID block and binds its tables to the PASID. -/
  | bindpasid (ops : CmdOps)
  /-- PREEMPT (R49): Requests pre-emption of one core or one PASID. -/
  | preempt (ops : CmdOps)
  /-- PREEMPT_HALT (R49): The request reaches a core, which halts its targeted contexts at a bundle boundary and evicts them. -/
  | preemptHalt (core : Nat)
  /-- PREEMPT_COMPLETION (R283): After the evictions, the completion lists record addresses, with status MORE if the buffer filled. -/
  | preemptCompletion
  /-- INVAL (R74): Invalidates translations of a PASID or a virtual range. -/
  | inval (ops : CmdOps)
  /-- QMODE (R282): Sets the mode of a scheduling or value queue. -/
  | qmode (ops : CmdOps)
  /-- DESCINV (R262): Makes the walkers reread the walk descriptor of a PASID. -/
  | descinv (ops : CmdOps)
  /-- TEMPER (R289): Sets PMAX for the clusters in a mask. -/
  | temper (ops : CmdOps)
  /-- ROUTE (R287): Writes a route table entry for peer package memory. -/
  | route (ops : CmdOps)
  /-- ATTEST (R288): Returns a signed attestation report for a nonce. -/
  | attest (ops : CmdOps)
  /-- FRING (R322): Names the fault ring and resets FWP and FRP. -/
  | fring (ops : CmdOps)
  /-- KILL (R323): Kills an evicted context by its record, returning its weight faulted. -/
  | kill (ops : CmdOps)
  /-- RESET (R352): Resets one core or one cluster and replays its discarded runs. -/
  | reset (ops : CmdOps)
  /-- ELOG (R357): Names the error log and resets EWP and ERP. -/
  | elog (ops : CmdOps)
  /-- BADCMD (R282): A mailbox command with an unassigned code completes with status BADCMD. -/
  | badcmd (code : Byte)
  /-- FRP (R322): System software advances the fault ring read index, releasing held reports. -/
  | frp (value : W32)
  /-- ERP (R357): System software advances the error log read index. -/
  | erp (value : W32)
  /-- REGISTER_WRITE (R292): Write to a device or debug register that has no row of its own. -/
  | registerWrite (reg : DevReg) (value : W64)
  /-- DSTAT (R294): A debugger write of 0 to DSTAT DISC clears the discard record. -/
  | dstat (ctx : Nat) (value : W64)
  /-- DEBUG_STOP_REQUEST (R295): The debugger stops a context or every context of a PASID at a bundle boundary. -/
  | debugStopRequest (target : StopTarget)
  /-- DEBUG_RESUME (R297): The debugger resumes a stopped context from its halt point. -/
  | debugResume (ctx : Nat)
  /-- DEBUGGER_REGISTER_WRITE (R296): The debugger writes a register of a stopped context, making it full and cancelling late results. -/
  | debuggerRegisterWrite (ctx : Nat) (place : DbgPlace) (value : BitVec 2048)
  /-- DEBUG_MEMORY_ACCESS (R291): The debug port reads or writes device DRAM at a physical address. -/
  | debugMemoryAccess (addr : Nat) (write : Option Byte)
  /-- SAMPLE_RECORD (R302): A SAMPLE record is written when every operation of a tagged bundle has landed. -/
  | sampleRecord (ctx : Nat)
  /-- SPDM_REQUEST (R288): An SPDM request on the DOE mailbox is answered with the attestation report. -/
  | spdmRequest (nonce : BitVec 256)
  /-- HOST_MEMORY_ACCESS (R69): The host reads or writes device memory over CXL.mem, subject to the world check. -/
  | hostMemoryAccess (site : HostAt) (write : Option Byte)
  /-- PEER_REQUEST (R287): A request from a peer package over a Suzamal link is performed once at the home agent. -/
  | peerRequest (site : PeerAt) (op : PeerOp)
  /-- BOOT (R288): The device verifies firmware and configuration, zeroes core storage and starts accepting commands. -/
  | boot
  /-- FUNCTION_LEVEL_RESET (R349): A function-level reset of port 0 runs the boot afresh. -/
  | functionLevelReset
  /-- TEMPER_TICK (R289): Each µs Temper updates each cluster's permit count and clock. -/
  | temperTick
  /-- BOOST_STEP (R289): After 10 µs at 1.1 GHz a cluster steps down to the nominal clock. -/
  | boostStep (cluster : Nat)
  /-- PATROL_SCRUB (R342): The scrubber reads DRAM lines, writes back corrected ones and poisons uncorrectable ones. -/
  | patrolScrub (line : Nat) (result : ScrubResult)
  /-- FLIT_CRC_RETRY (R347): A flit that fails its CRC is retried from the replay buffer. -/
  | flitCrcRetry (flit : FlitRetry)
  /-- LINK_RETRAIN (R347): After 16 failed retries in a row the link retrains, keeping sequence numbers. -/
  | linkRetrain (port : LinkPort)
  /-- PORT_DOWN (R348): A port that does not retrain within 1 ms is down and its traffic moves to other ports or fails with LINKERR. -/
  | portDown (port : LinkPort)
  /-- PORT_UP (R348): A down port completes training and carries traffic again. -/
  | portUp (port : LinkPort)
  /-- REGISTER_STATE_LOST (R346): An uncorrectable error in a context's own state ends its run and replays it from its last record. -/
  | registerStateLost (ctx : Nat)
  /-- CORE_LOGIC_ERROR (R352): An uncorrectable error in logic the core's contexts share starts a core reset. -/
  | coreLogicError (core : Nat)
  /-- FABRIC_ERROR (R349): An uncorrectable fabric error resets a cluster or causes a package failure. -/
  | fabricError (place : FabricPlace)
  /-- UNASSIGNED_ENCODING (R311): A bundle holding an unassigned opcode, a reserved bit or a reserved field value in any slot raises ILLEGAL at decode and nothing of it performs. -/
  | unassignedEncoding (slot : BitVec 3) (reason : Byte) (word : W32)
  /-- EVICTION_COMPLETES (R19): An eviction ends once its claimed slots have settled and the image, ingots and slots have been written to the save slot; the core is then free for the admitted entry, or the record is offered or reported. -/
  | evictionCompletes (ctx : Nat)
  /-- IMAGE_RESTORED (R336): The image, ingots and claimed slots of a dispatched context-resume record arrive from the save slot, and the context continues at its halt point with its pending entries and remainders reissued. -/
  | imageRestored (ctx : Nat)
  deriving DecidableEq, Repr

end Sys2Proof
end

