-- ==== Sys2Proof/Decode.lean ====
section
/-! DEFINITION. The decoder: a slot number and the 32-bit word of that slot to an operation, or a rejection by name
(R108, R122, R139, R179, R194, R205, R216, R231, R241, R311, R312); and after it the encoder, written from the same
encoding tables. Words are natural numbers below 2^32, bit n of a word being bit n of the number. -/

namespace Sys2Proof

/-- Bits [lo + n - 1 : lo] of a word. -/
def fld (w lo n : Nat) : BitVec n := BitVec.ofNat n (w / 2 ^ lo)

/-- Whether any of the n bits from lo upward is set. -/
def rsv (w lo n : Nat) : Bool := w / 2 ^ lo % 2 ^ n != 0

/-- The reason code of R309 that a rejection by the decoder reports. -/
def Reject.code : Reject → Nat
  | .opcode => 0x01
  | .reservedBit => 0x02
  | .tail => 0x03
  | .rm => 0x04
  | .fieldValue => 0x05

/-- Slot 0 without the tail-bit rules of R123: OP is in [25:21], the fields in [20:0] (R140). -/
def decodeCtlRow : Nat → Nat → Except Reject Instr
  | 0, w => if rsv w 0 21 then .error .reservedBit else .ok (.nopCtl (fld w 31 1) (fld w 30 1) (fld w 28 1) (fld w 26 2))
  | 1, w => .ok (.prep (fld w 31 1) (fld w 30 1) (fld w 28 1) (fld w 26 2) (fld w 19 2) (fld w 0 19))
  | 2, w => .ok (.prepc (fld w 31 1) (fld w 30 1) (fld w 28 1) (fld w 26 2) (fld w 19 2) (fld w 0 19))
  | 3, w => if rsv w 0 19 then .error .reservedBit else .ok (.prepr (fld w 31 1) (fld w 30 1) (fld w 28 1) (fld w 26 2) (fld w 19 2))
  | 4, w => .ok (.prepi (fld w 31 1) (fld w 30 1) (fld w 28 1) (fld w 26 2) (fld w 19 2) (fld w 14 5) (fld w 0 14))
  | 5, w => .ok (.loop (fld w 31 1) (fld w 30 1) (fld w 28 1) (fld w 26 2) (fld w 19 2) (fld w 14 5) (fld w 0 14))
  | 6, w => .ok (.loopi (fld w 31 1) (fld w 30 1) (fld w 28 1) (fld w 26 2) (fld w 19 2) (fld w 10 9) (fld w 0 10))
  | 7, w => .ok (.budget (fld w 31 1) (fld w 30 1) (fld w 28 1) (fld w 26 2) (fld w 0 21))
  | 8, w => .ok (.mark (fld w 31 1) (fld w 30 1) (fld w 28 1) (fld w 26 2) (fld w 0 21))
  | 9, w => if rsv w 2 19 then .error .reservedBit else .ok (.sync (fld w 31 1) (fld w 30 1) (fld w 28 1) (fld w 26 2) (fld w 0 2))
  | 10, w => if rsv w 0 4 then .error .reservedBit else .ok (.spawn (fld w 31 1) (fld w 30 1) (fld w 28 1) (fld w 26 2) (fld w 15 6) (fld w 10 5) (fld w 4 6))
  | 11, w => if rsv w 0 10 then .error .reservedBit else .ok (.susp (fld w 30 1) (fld w 28 1) (fld w 26 2) (fld w 16 5) (fld w 10 6))
  | 12, w => if rsv w 0 11 then .error .reservedBit else .ok (.qnew (fld w 31 1) (fld w 30 1) (fld w 28 1) (fld w 26 2) (fld w 16 5) (fld w 11 5))
  | 13, w => if rsv w 0 16 then .error .reservedBit else .ok (.qwait (fld w 30 1) (fld w 28 1) (fld w 26 2) (fld w 16 5))
  | 14, w => if rsv w 16 5 then .error .reservedBit else .ok (.qborrow (fld w 31 1) (fld w 30 1) (fld w 28 1) (fld w 26 2) (fld w 0 16))
  | 15, w => if rsv w 0 16 then .error .reservedBit else .ok (.qsplit (fld w 31 1) (fld w 30 1) (fld w 28 1) (fld w 26 2) (fld w 16 5))
  | 16, w => if rsv w 0 16 then .error .reservedBit else .ok (.qjoin (fld w 31 1) (fld w 30 1) (fld w 28 1) (fld w 26 2) (fld w 16 5))
  | 17, w => if rsv w 0 21 then .error .reservedBit else .ok (.qret (fld w 31 1) (fld w 30 1) (fld w 28 1) (fld w 26 2))
  | 18, w => if rsv w 0 14 then .error .reservedBit else .ok (.waitte (fld w 31 1) (fld w 30 1) (fld w 28 1) (fld w 26 2) (fld w 15 6) (fld w 14 1))
  | 19, w => if rsv w 0 21 then .error .reservedBit else .ok (.drainw (fld w 31 1) (fld w 30 1) (fld w 28 1) (fld w 26 2))
  | 20, w => if rsv w 16 5 then .error .reservedBit else .ok (.trap (fld w 31 1) (fld w 30 1) (fld w 28 1) (fld w 26 2) (fld w 0 16))
  | 21, w => if rsv w 0 21 then .error .reservedBit else .ok (.rft (fld w 31 1) (fld w 30 1))
  | _, _ => .error .opcode

/-- The tail combinations of R123 and R312 that one slot-0 word shows: E with TX, MK without a MARK payload, a MARK
payload without MK, a buffer named with TX = 0, E with a SUSP or QWAIT payload, TX with an RFT payload, and TX with a
PREP, PREPC, PREPR or PREPI of the buffer that TB names. -/
def tailBad (w : Nat) : Bool :=
  let op := w / 2 ^ 21 % 32
  let tx := rsv w 28 1
  (rsv w 31 1 && tx) || (rsv w 29 1 != (op == 8)) || (!tx && rsv w 26 2) ||
  (rsv w 31 1 && (op == 11 || op == 13)) || (tx && op == 21) ||
  (tx && (op == 1 || op == 2 || op == 3 || op == 4) && w / 2 ^ 19 % 4 == w / 2 ^ 26 % 4)

/-- Slot 0 (R122, R140). The tail bits are checked after the payload. -/
def decodeCtl (w : Nat) : Except Reject Instr :=
  match decodeCtlRow (w / 2 ^ 21 % 32) w with
  | .error r => .error r
  | .ok i => if tailBad w then .error .tail else .ok i

/-- Slot 1 (R139, R158): OP and RM together are in [31:24]. A code that is no row is an unassigned opcode when OP is
0x27 or above, a reserved bit on NOP.INT, and an RM the opcode does not allow otherwise (R311). -/
def decodeIntRow : Nat → Nat → Except Reject Instr
  | 0, w => if rsv w 0 24 then .error .reservedBit else .ok (.nopInt)
  | 4, w => .ok (.add (fld w 20 4) (fld w 14 6) (fld w 8 6) (fld w 2 6) (fld w 1 1) (fld w 0 1))
  | 5, w => .ok (.addN (fld w 20 4) (fld w 14 6) (fld w 8 6) (fld w 2 6) (fld w 1 1) (fld w 0 1))
  | 6, w => .ok (.addP (fld w 20 4) (fld w 14 6) (fld w 8 6) (fld w 2 6) (fld w 1 1) (fld w 0 1))
  | 8, w => .ok (.sub (fld w 20 4) (fld w 14 6) (fld w 8 6) (fld w 2 6) (fld w 1 1) (fld w 0 1))
  | 9, w => .ok (.subN (fld w 20 4) (fld w 14 6) (fld w 8 6) (fld w 2 6) (fld w 1 1) (fld w 0 1))
  | 10, w => .ok (.subP (fld w 20 4) (fld w 14 6) (fld w 8 6) (fld w 2 6) (fld w 1 1) (fld w 0 1))
  | 12, w => .ok (.mul (fld w 20 4) (fld w 14 6) (fld w 8 6) (fld w 2 6) (fld w 1 1) (fld w 0 1))
  | 13, w => .ok (.mulN (fld w 20 4) (fld w 14 6) (fld w 8 6) (fld w 2 6) (fld w 1 1) (fld w 0 1))
  | 14, w => .ok (.mulP (fld w 20 4) (fld w 14 6) (fld w 8 6) (fld w 2 6) (fld w 1 1) (fld w 0 1))
  | 16, w => .ok (.min (fld w 20 4) (fld w 14 6) (fld w 8 6) (fld w 2 6) (fld w 1 1) (fld w 0 1))
  | 17, w => .ok (.minN (fld w 20 4) (fld w 14 6) (fld w 8 6) (fld w 2 6) (fld w 1 1) (fld w 0 1))
  | 18, w => .ok (.minP (fld w 20 4) (fld w 14 6) (fld w 8 6) (fld w 2 6) (fld w 1 1) (fld w 0 1))
  | 20, w => .ok (.max (fld w 20 4) (fld w 14 6) (fld w 8 6) (fld w 2 6) (fld w 1 1) (fld w 0 1))
  | 21, w => .ok (.maxN (fld w 20 4) (fld w 14 6) (fld w 8 6) (fld w 2 6) (fld w 1 1) (fld w 0 1))
  | 22, w => .ok (.maxP (fld w 20 4) (fld w 14 6) (fld w 8 6) (fld w 2 6) (fld w 1 1) (fld w 0 1))
  | 24, w => if rsv w 0 1 || rsv w 2 6 then .error .reservedBit else .ok (.abs (fld w 20 4) (fld w 14 6) (fld w 8 6) (fld w 1 1))
  | 25, w => if rsv w 0 1 || rsv w 2 6 then .error .reservedBit else .ok (.absN (fld w 20 4) (fld w 14 6) (fld w 8 6) (fld w 1 1))
  | 26, w => if rsv w 0 1 || rsv w 2 6 then .error .reservedBit else .ok (.absP (fld w 20 4) (fld w 14 6) (fld w 8 6) (fld w 1 1))
  | 28, w => if rsv w 0 1 || rsv w 2 6 then .error .reservedBit else .ok (.neg (fld w 20 4) (fld w 14 6) (fld w 8 6) (fld w 1 1))
  | 29, w => if rsv w 0 1 || rsv w 2 6 then .error .reservedBit else .ok (.negN (fld w 20 4) (fld w 14 6) (fld w 8 6) (fld w 1 1))
  | 30, w => if rsv w 0 1 || rsv w 2 6 then .error .reservedBit else .ok (.negP (fld w 20 4) (fld w 14 6) (fld w 8 6) (fld w 1 1))
  | 32, w => if rsv w 0 1 || rsv w 2 6 then .error .reservedBit else .ok (.mov (fld w 20 4) (fld w 14 6) (fld w 8 6) (fld w 1 1))
  | 33, w => if rsv w 0 1 || rsv w 2 6 then .error .reservedBit else .ok (.movN (fld w 20 4) (fld w 14 6) (fld w 8 6) (fld w 1 1))
  | 34, w => if rsv w 0 1 || rsv w 2 6 then .error .reservedBit else .ok (.movP (fld w 20 4) (fld w 14 6) (fld w 8 6) (fld w 1 1))
  | 36, w => .ok (.addi (fld w 20 4) (fld w 14 6) (fld w 8 6) (fld w 0 8))
  | 37, w => .ok (.addiN (fld w 20 4) (fld w 14 6) (fld w 8 6) (fld w 0 8))
  | 38, w => .ok (.addiP (fld w 20 4) (fld w 14 6) (fld w 8 6) (fld w 0 8))
  | 40, w => .ok (.muli (fld w 20 4) (fld w 14 6) (fld w 8 6) (fld w 0 8))
  | 41, w => .ok (.muliN (fld w 20 4) (fld w 14 6) (fld w 8 6) (fld w 0 8))
  | 42, w => .ok (.muliP (fld w 20 4) (fld w 14 6) (fld w 8 6) (fld w 0 8))
  | 44, w => .ok (.and (fld w 20 4) (fld w 14 6) (fld w 8 6) (fld w 2 6) (fld w 1 1) (fld w 0 1))
  | 48, w => .ok (.or (fld w 20 4) (fld w 14 6) (fld w 8 6) (fld w 2 6) (fld w 1 1) (fld w 0 1))
  | 52, w => .ok (.xor (fld w 20 4) (fld w 14 6) (fld w 8 6) (fld w 2 6) (fld w 1 1) (fld w 0 1))
  | 56, w => .ok (.shl (fld w 20 4) (fld w 14 6) (fld w 8 6) (fld w 2 6) (fld w 1 1) (fld w 0 1))
  | 60, w => .ok (.shr (fld w 20 4) (fld w 14 6) (fld w 8 6) (fld w 2 6) (fld w 1 1) (fld w 0 1))
  | 64, w => .ok (.sar (fld w 20 4) (fld w 14 6) (fld w 8 6) (fld w 2 6) (fld w 1 1) (fld w 0 1))
  | 68, w => .ok (.eq (fld w 20 4) (fld w 14 6) (fld w 8 6) (fld w 2 6) (fld w 1 1) (fld w 0 1))
  | 69, w => if rsv w 14 6 then .error .fieldValue else .ok (.eqN (fld w 20 4) (fld w 8 6) (fld w 2 6) (fld w 1 1) (fld w 0 1))
  | 70, w => if rsv w 14 6 then .error .fieldValue else .ok (.eqP (fld w 20 4) (fld w 8 6) (fld w 2 6) (fld w 1 1) (fld w 0 1))
  | 72, w => .ok (.ne (fld w 20 4) (fld w 14 6) (fld w 8 6) (fld w 2 6) (fld w 1 1) (fld w 0 1))
  | 73, w => if rsv w 14 6 then .error .fieldValue else .ok (.neN (fld w 20 4) (fld w 8 6) (fld w 2 6) (fld w 1 1) (fld w 0 1))
  | 74, w => if rsv w 14 6 then .error .fieldValue else .ok (.neP (fld w 20 4) (fld w 8 6) (fld w 2 6) (fld w 1 1) (fld w 0 1))
  | 76, w => .ok (.lt (fld w 20 4) (fld w 14 6) (fld w 8 6) (fld w 2 6) (fld w 1 1) (fld w 0 1))
  | 77, w => if rsv w 14 6 then .error .fieldValue else .ok (.ltN (fld w 20 4) (fld w 8 6) (fld w 2 6) (fld w 1 1) (fld w 0 1))
  | 78, w => if rsv w 14 6 then .error .fieldValue else .ok (.ltP (fld w 20 4) (fld w 8 6) (fld w 2 6) (fld w 1 1) (fld w 0 1))
  | 80, w => .ok (.le (fld w 20 4) (fld w 14 6) (fld w 8 6) (fld w 2 6) (fld w 1 1) (fld w 0 1))
  | 81, w => if rsv w 14 6 then .error .fieldValue else .ok (.leN (fld w 20 4) (fld w 8 6) (fld w 2 6) (fld w 1 1) (fld w 0 1))
  | 82, w => if rsv w 14 6 then .error .fieldValue else .ok (.leP (fld w 20 4) (fld w 8 6) (fld w 2 6) (fld w 1 1) (fld w 0 1))
  | 84, w => .ok (.eqi (fld w 20 4) (fld w 14 6) (fld w 8 6) (fld w 0 8))
  | 85, w => if rsv w 14 6 then .error .fieldValue else .ok (.eqiN (fld w 20 4) (fld w 8 6) (fld w 0 8))
  | 86, w => if rsv w 14 6 then .error .fieldValue else .ok (.eqiP (fld w 20 4) (fld w 8 6) (fld w 0 8))
  | 88, w => .ok (.nei (fld w 20 4) (fld w 14 6) (fld w 8 6) (fld w 0 8))
  | 89, w => if rsv w 14 6 then .error .fieldValue else .ok (.neiN (fld w 20 4) (fld w 8 6) (fld w 0 8))
  | 90, w => if rsv w 14 6 then .error .fieldValue else .ok (.neiP (fld w 20 4) (fld w 8 6) (fld w 0 8))
  | 92, w => .ok (.lti (fld w 20 4) (fld w 14 6) (fld w 8 6) (fld w 0 8))
  | 93, w => if rsv w 14 6 then .error .fieldValue else .ok (.ltiN (fld w 20 4) (fld w 8 6) (fld w 0 8))
  | 94, w => if rsv w 14 6 then .error .fieldValue else .ok (.ltiP (fld w 20 4) (fld w 8 6) (fld w 0 8))
  | 96, w => .ok (.lei (fld w 20 4) (fld w 14 6) (fld w 8 6) (fld w 0 8))
  | 97, w => if rsv w 14 6 then .error .fieldValue else .ok (.leiN (fld w 20 4) (fld w 8 6) (fld w 0 8))
  | 98, w => if rsv w 14 6 then .error .fieldValue else .ok (.leiP (fld w 20 4) (fld w 8 6) (fld w 0 8))
  | 100, w => .ok (.gti (fld w 20 4) (fld w 14 6) (fld w 8 6) (fld w 0 8))
  | 101, w => if rsv w 14 6 then .error .fieldValue else .ok (.gtiN (fld w 20 4) (fld w 8 6) (fld w 0 8))
  | 102, w => if rsv w 14 6 then .error .fieldValue else .ok (.gtiP (fld w 20 4) (fld w 8 6) (fld w 0 8))
  | 104, w => .ok (.gei (fld w 20 4) (fld w 14 6) (fld w 8 6) (fld w 0 8))
  | 105, w => if rsv w 14 6 then .error .fieldValue else .ok (.geiN (fld w 20 4) (fld w 8 6) (fld w 0 8))
  | 106, w => if rsv w 14 6 then .error .fieldValue else .ok (.geiP (fld w 20 4) (fld w 8 6) (fld w 0 8))
  | 108, w => if rsv w 0 1 || rsv w 2 6 then .error .reservedBit else .ok (.dlo (fld w 20 4) (fld w 14 6) (fld w 8 6) (fld w 1 1))
  | 112, w => if rsv w 0 1 || rsv w 2 6 then .error .reservedBit else .ok (.dhi (fld w 20 4) (fld w 14 6) (fld w 8 6) (fld w 1 1))
  | 116, w => if rsv w 0 1 || rsv w 2 6 then .error .reservedBit else .ok (.dsize (fld w 20 4) (fld w 14 6) (fld w 8 6) (fld w 1 1))
  | 120, w => if rsv w 0 1 || rsv w 2 6 then .error .reservedBit else .ok (.dmid (fld w 20 4) (fld w 14 6) (fld w 8 6) (fld w 1 1))
  | 124, w => .ok (.dset (fld w 20 4) (fld w 14 6) (fld w 8 6) (fld w 2 6) (fld w 1 1) (fld w 0 1))
  | 128, w => if rsv w 0 14 then .error .reservedBit else .ok (.dfull (fld w 20 4) (fld w 14 6))
  | 132, w => if rsv w 0 1 || rsv w 2 6 then .error .reservedBit else .ok (.single (fld w 20 4) (fld w 14 6) (fld w 8 6) (fld w 1 1))
  | 136, w => .ok (.div (fld w 20 4) (fld w 14 6) (fld w 8 6) (fld w 2 6) (fld w 1 1) (fld w 0 1))
  | 140, w => .ok (.rem (fld w 20 4) (fld w 14 6) (fld w 8 6) (fld w 2 6) (fld w 1 1) (fld w 0 1))
  | 144, w => if rsv w 0 20 then .error .reservedBit else .ok (.ckpt (fld w 20 4))
  | 148, w => if rsv w 0 20 then .error .reservedBit else .ok (.roll (fld w 20 4))
  | 152, w => if rsv w 0 20 then .error .reservedBit else .ok (.commit (fld w 20 4))
  | n, _ => if n / 4 ≥ 0x27 then .error .opcode else if n / 4 = 0 then .error .reservedBit else .error .rm

/-- Slot 1. -/
def decodeInt (w : Nat) : Except Reject Instr := decodeIntRow (w / 2 ^ 24 % 256) w

/-- Slot 2 (R139, R179): OP is in [31:26]. -/
def decodeAdrRow : Nat → Nat → Except Reject Instr
  | 0, w => if rsv w 0 26 then .error .reservedBit else .ok (.nopAdr)
  | 1, w => if rsv w 0 7 then .error .reservedBit else .ok (.adda (fld w 22 4) (fld w 17 5) (fld w 12 5) (fld w 7 5))
  | 2, w => if rsv w 0 7 then .error .reservedBit else .ok (.suba (fld w 22 4) (fld w 17 5) (fld w 12 5) (fld w 7 5))
  | 3, w => if rsv w 0 7 then .error .reservedBit else .ok (.mula (fld w 22 4) (fld w 17 5) (fld w 12 5) (fld w 7 5))
  | 4, w => if rsv w 0 7 then .error .reservedBit else .ok (.anda (fld w 22 4) (fld w 17 5) (fld w 12 5) (fld w 7 5))
  | 5, w => if rsv w 0 7 then .error .reservedBit else .ok (.ora (fld w 22 4) (fld w 17 5) (fld w 12 5) (fld w 7 5))
  | 6, w => if rsv w 0 7 then .error .reservedBit else .ok (.xora (fld w 22 4) (fld w 17 5) (fld w 12 5) (fld w 7 5))
  | 7, w => if rsv w 0 7 then .error .reservedBit else .ok (.shla (fld w 22 4) (fld w 17 5) (fld w 12 5) (fld w 7 5))
  | 8, w => if rsv w 0 7 then .error .reservedBit else .ok (.shra (fld w 22 4) (fld w 17 5) (fld w 12 5) (fld w 7 5))
  | 9, w => if rsv w 0 7 then .error .reservedBit else .ok (.sara (fld w 22 4) (fld w 17 5) (fld w 12 5) (fld w 7 5))
  | 10, w => .ok (.addai (fld w 22 4) (fld w 17 5) (fld w 12 5) (fld w 0 12))
  | 11, w => .ok (.li (fld w 22 4) (fld w 17 5) (fld w 0 17))
  | 12, w => if rsv w 6 6 then .error .reservedBit else .ok (.shlai (fld w 22 4) (fld w 17 5) (fld w 12 5) (fld w 0 6))
  | 13, w => if rsv w 0 4 then .error .reservedBit else .ok (.cmpa (fld w 22 4) (fld w 17 5) (fld w 12 5) (fld w 7 5) (fld w 4 3))
  | 14, w => .ok (.cmpai (fld w 22 4) (fld w 17 5) (fld w 12 5) (fld w 9 3) (fld w 0 9))
  | 15, w => if rsv w 0 2 then .error .reservedBit else .ok (.plogic (fld w 19 7) (fld w 12 7) (fld w 5 7) (fld w 2 3))
  | 16, w => if rsv w 0 17 then .error .reservedBit else .ok (.pset (fld w 19 7) (fld w 17 2))
  | 17, w => if rsv w 0 16 then .error .reservedBit else .ok (.arm (fld w 24 2) (fld w 17 7) (fld w 16 1))
  | 18, w => if rsv w 0 20 then .error .reservedBit else .ok (.armm (fld w 24 2) (fld w 20 4))
  | 19, w => if rsv w 0 7 then .error .reservedBit else .ok (.mlogic (fld w 22 4) (fld w 18 4) (fld w 14 4) (fld w 10 4) (fld w 7 3))
  | 20, w => if rsv w 0 13 then .error .reservedBit else .ok (.mcnt (fld w 22 4) (fld w 17 5) (fld w 13 4))
  | 21, w => if rsv w 0 13 then .error .reservedBit else .ok (.mfirst (fld w 22 4) (fld w 17 5) (fld w 13 4))
  | 22, w => if rsv w 0 12 || rsv w 17 1 then .error .reservedBit else .ok (.mfill (fld w 22 4) (fld w 18 4) (fld w 12 5))
  | 23, w => if rsv w 0 11 then .error .reservedBit else .ok (.mfromp (fld w 22 4) (fld w 18 4) (fld w 11 7))
  | 24, w => if rsv w 0 11 then .error .reservedBit else .ok (.movka (fld w 22 4) (fld w 17 5) (fld w 11 6))
  | 25, w => if rsv w 0 11 then .error .reservedBit else .ok (.movak (fld w 22 4) (fld w 16 6) (fld w 11 5))
  | 26, w => .ok (.sela (fld w 22 4) (fld w 17 5) (fld w 12 5) (fld w 7 5) (fld w 0 7))
  | 27, w => if rsv w 0 10 then .error .reservedBit else .ok (.ldelta (fld w 22 4) (fld w 20 2) (fld w 15 5) (fld w 10 5))
  | 28, w => if rsv w 0 15 then .error .reservedBit else .ok (.getlc (fld w 22 4) (fld w 17 5) (fld w 15 2))
  | 29, w => if rsv w 12 5 then .error .reservedBit else .ok (.movs (fld w 22 4) (fld w 17 5) (fld w 0 12))
  | 30, w => if rsv w 17 5 then .error .reservedBit else .ok (.movg (fld w 22 4) (fld w 12 5) (fld w 0 12))
  | _, _ => .error .opcode

/-- Slot 2. -/
def decodeAdr (w : Nat) : Except Reject Instr := decodeAdrRow (w / 2 ^ 26 % 64) w

/-- Slot 3 (R139, R194): OP is in [31:25]. A guard that VSEL, VCVTN or VCVTW does not take is a reserved value (R311). -/
def decodeVecRow : Nat → Nat → Except Reject Instr
  | 0, w => if rsv w 0 25 then .error .reservedBit else .ok (.nopVec)
  | 1, w => .ok (.vaddF (fld w 20 5) (fld w 14 6) (fld w 8 6) (fld w 2 6) (fld w 1 1) (fld w 0 1))
  | 2, w => .ok (.vsubF (fld w 20 5) (fld w 14 6) (fld w 8 6) (fld w 2 6) (fld w 1 1) (fld w 0 1))
  | 3, w => .ok (.vmulF (fld w 20 5) (fld w 14 6) (fld w 8 6) (fld w 2 6) (fld w 1 1) (fld w 0 1))
  | 4, w => .ok (.vfmaF (fld w 20 5) (fld w 14 6) (fld w 8 6) (fld w 2 6) (fld w 1 1) (fld w 0 1))
  | 5, w => .ok (.vfmsF (fld w 20 5) (fld w 14 6) (fld w 8 6) (fld w 2 6) (fld w 1 1) (fld w 0 1))
  | 6, w => .ok (.vminF (fld w 20 5) (fld w 14 6) (fld w 8 6) (fld w 2 6) (fld w 1 1) (fld w 0 1))
  | 7, w => .ok (.vmaxF (fld w 20 5) (fld w 14 6) (fld w 8 6) (fld w 2 6) (fld w 1 1) (fld w 0 1))
  | 8, w => if rsv w 0 1 || rsv w 2 6 then .error .reservedBit else .ok (.vabsF (fld w 20 5) (fld w 14 6) (fld w 8 6) (fld w 1 1))
  | 9, w => if rsv w 0 1 || rsv w 2 6 then .error .reservedBit else .ok (.vnegF (fld w 20 5) (fld w 14 6) (fld w 8 6) (fld w 1 1))
  | 10, w => if rsv w 0 1 || rsv w 2 6 then .error .reservedBit else .ok (.vrcpF (fld w 20 5) (fld w 14 6) (fld w 8 6) (fld w 1 1))
  | 11, w => if rsv w 0 1 || rsv w 2 6 then .error .reservedBit else .ok (.vrsqF (fld w 20 5) (fld w 14 6) (fld w 8 6) (fld w 1 1))
  | 12, w => if rsv w 0 1 || rsv w 2 6 then .error .reservedBit else .ok (.vexp2F (fld w 20 5) (fld w 14 6) (fld w 8 6) (fld w 1 1))
  | 13, w => if rsv w 0 1 || rsv w 2 6 then .error .reservedBit else .ok (.vlog2F (fld w 20 5) (fld w 14 6) (fld w 8 6) (fld w 1 1))
  | 14, w => if rsv w 18 2 then .error .fieldValue else .ok (.vcmpeqF (fld w 20 5) (fld w 14 4) (fld w 8 6) (fld w 2 6) (fld w 1 1) (fld w 0 1))
  | 15, w => if rsv w 18 2 then .error .fieldValue else .ok (.vcmpltF (fld w 20 5) (fld w 14 4) (fld w 8 6) (fld w 2 6) (fld w 1 1) (fld w 0 1))
  | 16, w => if rsv w 18 2 then .error .fieldValue else .ok (.vcmpleF (fld w 20 5) (fld w 14 4) (fld w 8 6) (fld w 2 6) (fld w 1 1) (fld w 0 1))
  | 24, w => .ok (.vaddI (fld w 20 5) (fld w 14 6) (fld w 8 6) (fld w 2 6) (fld w 1 1) (fld w 0 1))
  | 25, w => .ok (.vsubI (fld w 20 5) (fld w 14 6) (fld w 8 6) (fld w 2 6) (fld w 1 1) (fld w 0 1))
  | 26, w => .ok (.vmulI (fld w 20 5) (fld w 14 6) (fld w 8 6) (fld w 2 6) (fld w 1 1) (fld w 0 1))
  | 27, w => .ok (.vminI (fld w 20 5) (fld w 14 6) (fld w 8 6) (fld w 2 6) (fld w 1 1) (fld w 0 1))
  | 28, w => .ok (.vmaxI (fld w 20 5) (fld w 14 6) (fld w 8 6) (fld w 2 6) (fld w 1 1) (fld w 0 1))
  | 29, w => .ok (.vand (fld w 20 5) (fld w 14 6) (fld w 8 6) (fld w 2 6) (fld w 1 1) (fld w 0 1))
  | 30, w => .ok (.vor (fld w 20 5) (fld w 14 6) (fld w 8 6) (fld w 2 6) (fld w 1 1) (fld w 0 1))
  | 31, w => .ok (.vxor (fld w 20 5) (fld w 14 6) (fld w 8 6) (fld w 2 6) (fld w 1 1) (fld w 0 1))
  | 32, w => .ok (.vshl (fld w 20 5) (fld w 14 6) (fld w 8 6) (fld w 2 6) (fld w 1 1) (fld w 0 1))
  | 33, w => .ok (.vshr (fld w 20 5) (fld w 14 6) (fld w 8 6) (fld w 2 6) (fld w 1 1) (fld w 0 1))
  | 34, w => .ok (.vsar (fld w 20 5) (fld w 14 6) (fld w 8 6) (fld w 2 6) (fld w 1 1) (fld w 0 1))
  | 35, w => if rsv w 18 2 then .error .fieldValue else .ok (.vcmpeqI (fld w 20 5) (fld w 14 4) (fld w 8 6) (fld w 2 6) (fld w 1 1) (fld w 0 1))
  | 36, w => if rsv w 18 2 then .error .fieldValue else .ok (.vcmpltI (fld w 20 5) (fld w 14 4) (fld w 8 6) (fld w 2 6) (fld w 1 1) (fld w 0 1))
  | 40, w => if rsv w 0 1 || rsv w 2 6 then .error .reservedBit else .ok (.vcvtFi (fld w 20 5) (fld w 14 6) (fld w 8 6) (fld w 1 1))
  | 41, w => if rsv w 0 1 || rsv w 2 6 then .error .reservedBit else .ok (.vcvtIf (fld w 20 5) (fld w 14 6) (fld w 8 6) (fld w 1 1))
  | 42, w => .ok (.vpkbf (fld w 20 5) (fld w 14 6) (fld w 8 6) (fld w 2 6) (fld w 1 1) (fld w 0 1))
  | 43, w => if rsv w 0 1 then .error .reservedBit else if rsv w 3 5 then .error .fieldValue else .ok (.vunbf (fld w 20 5) (fld w 14 6) (fld w 8 6) (fld w 2 1) (fld w 1 1))
  | 44, w => if rsv w 0 1 then .error .reservedBit else if rsv w 6 2 || rsv w 24 1 then .error .fieldValue else .ok (.vcvtn (fld w 20 4) (fld w 14 6) (fld w 8 6) (fld w 2 4) (fld w 1 1))
  | 45, w => if rsv w 0 1 then .error .reservedBit else if rsv w 6 2 || rsv w 24 1 then .error .fieldValue else .ok (.vcvtw (fld w 20 4) (fld w 14 6) (fld w 8 6) (fld w 2 4) (fld w 1 1))
  | 48, w => if rsv w 0 1 || rsv w 2 6 then .error .reservedBit else .ok (.vmov (fld w 20 5) (fld w 14 6) (fld w 8 6) (fld w 1 1))
  | 49, w => if !rsv w 24 1 then .error .fieldValue else .ok (.vsel (fld w 20 4) (fld w 14 6) (fld w 8 6) (fld w 2 6) (fld w 1 1) (fld w 0 1))
  | 50, w => if rsv w 0 1 || rsv w 2 6 then .error .reservedBit else if rsv w 13 1 then .error .fieldValue else .ok (.vbca (fld w 20 5) (fld w 14 6) (fld w 8 5) (fld w 1 1))
  | 51, w => if rsv w 0 1 || rsv w 2 6 then .error .reservedBit else if rsv w 13 1 then .error .fieldValue else .ok (.vbck (fld w 20 5) (fld w 14 6) (fld w 8 5) (fld w 1 1))
  | 52, w => .ok (.vperm (fld w 20 5) (fld w 14 6) (fld w 8 6) (fld w 2 6) (fld w 1 1) (fld w 0 1))
  | 53, w => if rsv w 0 1 then .error .reservedBit else if rsv w 19 1 then .error .fieldValue else .ok (.vext (fld w 20 5) (fld w 14 5) (fld w 8 6) (fld w 2 6) (fld w 1 1))
  | 54, w => if rsv w 0 1 then .error .reservedBit else if rsv w 13 1 then .error .fieldValue else .ok (.vins (fld w 20 5) (fld w 14 6) (fld w 8 5) (fld w 2 6) (fld w 1 1))
  | 55, w => if rsv w 0 14 then .error .reservedBit else .ok (.viota (fld w 20 5) (fld w 14 6))
  | 56, w => if rsv w 0 1 || rsv w 2 6 then .error .reservedBit else .ok (.vsumx (fld w 20 5) (fld w 14 6) (fld w 8 6) (fld w 1 1))
  | 57, w => if rsv w 0 1 || rsv w 2 6 then .error .reservedBit else .ok (.vmaxr (fld w 20 5) (fld w 14 6) (fld w 8 6) (fld w 1 1))
  | 58, w => if rsv w 0 1 || rsv w 2 6 then .error .reservedBit else .ok (.vminr (fld w 20 5) (fld w 14 6) (fld w 8 6) (fld w 1 1))
  | 59, w => if rsv w 0 1 || rsv w 2 6 then .error .reservedBit else .ok (.vsumi (fld w 20 5) (fld w 14 6) (fld w 8 6) (fld w 1 1))
  | _, _ => .error .opcode

/-- Slot 3. -/
def decodeVec (w : Nat) : Except Reject Instr := decodeVecRow (w / 2 ^ 25 % 128) w

/-- Slot 4 (R139, R205): OP is in [31:25]. -/
def decodeIvlRow : Nat → Nat → Except Reject Instr
  | 0, w => if rsv w 0 25 then .error .reservedBit else .ok (.nopIvl)
  | 1, w => if rsv w 0 5 then .error .reservedBit else .ok (.qadd (fld w 20 5) (fld w 15 5) (fld w 10 5) (fld w 5 5))
  | 2, w => if rsv w 0 5 then .error .reservedBit else .ok (.qsub (fld w 20 5) (fld w 15 5) (fld w 10 5) (fld w 5 5))
  | 3, w => if rsv w 0 5 then .error .reservedBit else .ok (.qmul (fld w 20 5) (fld w 15 5) (fld w 10 5) (fld w 5 5))
  | 4, w => .ok (.qfma (fld w 20 5) (fld w 15 5) (fld w 10 5) (fld w 5 5) (fld w 0 5))
  | 5, w => if rsv w 0 5 then .error .reservedBit else .ok (.qdiv (fld w 20 5) (fld w 15 5) (fld w 10 5) (fld w 5 5))
  | 6, w => if rsv w 0 10 then .error .reservedBit else .ok (.qsqr (fld w 20 5) (fld w 15 5) (fld w 10 5))
  | 7, w => if rsv w 0 10 then .error .reservedBit else .ok (.qsqrt (fld w 20 5) (fld w 15 5) (fld w 10 5))
  | 8, w => if rsv w 0 10 then .error .reservedBit else .ok (.qrelu (fld w 20 5) (fld w 15 5) (fld w 10 5))
  | 9, w => if rsv w 0 5 then .error .reservedBit else .ok (.qmax (fld w 20 5) (fld w 15 5) (fld w 10 5) (fld w 5 5))
  | 10, w => if rsv w 0 5 then .error .reservedBit else .ok (.qmin (fld w 20 5) (fld w 15 5) (fld w 10 5) (fld w 5 5))
  | 11, w => if rsv w 0 10 then .error .reservedBit else .ok (.qneg (fld w 20 5) (fld w 15 5) (fld w 10 5))
  | 12, w => if rsv w 0 10 then .error .reservedBit else .ok (.qabs (fld w 20 5) (fld w 15 5) (fld w 10 5))
  | 13, w => if rsv w 0 10 then .error .reservedBit else .ok (.qexp (fld w 20 5) (fld w 15 5) (fld w 10 5))
  | 16, w => if rsv w 0 5 then .error .reservedBit else .ok (.qmeet (fld w 20 5) (fld w 15 5) (fld w 10 5) (fld w 5 5))
  | 17, w => if rsv w 0 5 then .error .reservedBit else .ok (.qhull (fld w 20 5) (fld w 15 5) (fld w 10 5) (fld w 5 5))
  | 18, w => if rsv w 0 10 then .error .reservedBit else .ok (.qmid (fld w 20 5) (fld w 15 5) (fld w 10 5))
  | 19, w => if rsv w 0 10 then .error .reservedBit else .ok (.qwid (fld w 20 5) (fld w 15 5) (fld w 10 5))
  | 20, w => if rsv w 0 10 then .error .reservedBit else .ok (.qbis (fld w 20 5) (fld w 15 5) (fld w 10 5))
  | 24, w => if rsv w 1 4 then .error .fieldValue else .ok (.qmake (fld w 20 5) (fld w 15 5) (fld w 10 5) (fld w 5 5) (fld w 0 1))
  | 25, w => if rsv w 5 5 then .error .reservedBit else if rsv w 1 4 then .error .fieldValue else .ok (.qpoint (fld w 20 5) (fld w 15 5) (fld w 10 5) (fld w 0 1))
  | 26, w => if rsv w 5 5 then .error .reservedBit else if rsv w 1 4 then .error .fieldValue else .ok (.qlo (fld w 20 5) (fld w 15 5) (fld w 10 5) (fld w 0 1))
  | 27, w => if rsv w 5 5 then .error .reservedBit else if rsv w 1 4 then .error .fieldValue else .ok (.qhi (fld w 20 5) (fld w 15 5) (fld w 10 5) (fld w 0 1))
  | 28, w => if rsv w 0 15 then .error .reservedBit else .ok (.qent (fld w 20 5) (fld w 15 5))
  | 29, w => if rsv w 0 15 then .error .reservedBit else .ok (.qemp (fld w 20 5) (fld w 15 5))
  | 30, w => if rsv w 0 10 then .error .reservedBit else .ok (.qbca (fld w 20 5) (fld w 15 5) (fld w 10 5))
  | 32, w => if rsv w 18 2 then .error .fieldValue else .ok (.qcmp (fld w 20 5) (fld w 15 3) (fld w 10 5) (fld w 5 5) (fld w 0 5))
  | 33, w => .ok (.qtest (fld w 20 5) (fld w 15 5) (fld w 10 5) (fld w 5 5) (fld w 0 5))
  | 40, w => if rsv w 0 5 then .error .reservedBit else .ok (.qaddC (fld w 20 5) (fld w 15 5) (fld w 10 5) (fld w 5 5))
  | 41, w => if rsv w 0 5 then .error .reservedBit else .ok (.qsubC (fld w 20 5) (fld w 15 5) (fld w 10 5) (fld w 5 5))
  | 42, w => if rsv w 0 5 then .error .reservedBit else .ok (.qmulC (fld w 20 5) (fld w 15 5) (fld w 10 5) (fld w 5 5))
  | 43, w => .ok (.qfmaC (fld w 20 5) (fld w 15 5) (fld w 10 5) (fld w 5 5) (fld w 0 5))
  | 44, w => if rsv w 0 10 then .error .reservedBit else .ok (.qsqrC (fld w 20 5) (fld w 15 5) (fld w 10 5))
  | 45, w => if rsv w 0 10 then .error .reservedBit else .ok (.qreluC (fld w 20 5) (fld w 15 5) (fld w 10 5))
  | 46, w => if rsv w 0 5 then .error .reservedBit else .ok (.qmaxC (fld w 20 5) (fld w 15 5) (fld w 10 5) (fld w 5 5))
  | 47, w => if rsv w 0 10 then .error .reservedBit else .ok (.qexpC (fld w 20 5) (fld w 15 5) (fld w 10 5))
  | 48, w => if rsv w 0 5 || rsv w 15 5 then .error .reservedBit else .ok (.qleC (fld w 20 5) (fld w 10 5) (fld w 5 5))
  | 56, w => if rsv w 5 10 then .error .reservedBit else if rsv w 1 4 then .error .fieldValue else .ok (.qstat (fld w 20 5) (fld w 15 5) (fld w 0 1))
  | _, _ => .error .opcode

/-- Slot 4. -/
def decodeIvl (w : Nat) : Except Reject Instr := decodeIvlRow (w / 2 ^ 25 % 128) w

/-- Slot 5 (R139, R216): OP is in [31:26]. -/
noncomputable def decodeMemRow : Nat → Nat → Except Reject Instr
  | 0, w => if rsv w 0 26 then .error .reservedBit else .ok (.nopMem)
  | 1, w => .ok (.ldsV (fld w 22 4) (fld w 16 6) (fld w 11 5) (fld w 0 11))
  | 2, w => .ok (.stsV (fld w 22 4) (fld w 16 6) (fld w 11 5) (fld w 0 11))
  | 3, w => if rsv w 21 1 then .error .fieldValue else .ok (.ldsQ (fld w 22 4) (fld w 16 5) (fld w 11 5) (fld w 0 11))
  | 4, w => if rsv w 21 1 then .error .fieldValue else .ok (.stsQ (fld w 22 4) (fld w 16 5) (fld w 11 5) (fld w 0 11))
  | 5, w => .ok (.ldsK (fld w 22 4) (fld w 16 6) (fld w 11 5) (fld w 0 11))
  | 6, w => .ok (.stsK (fld w 22 4) (fld w 16 6) (fld w 11 5) (fld w 0 11))
  | 7, w => if rsv w 21 1 then .error .fieldValue else .ok (.ldsA (fld w 22 4) (fld w 16 5) (fld w 11 5) (fld w 0 11))
  | 8, w => if rsv w 21 1 then .error .fieldValue else .ok (.stsA (fld w 22 4) (fld w 16 5) (fld w 11 5) (fld w 0 11))
  | 9, w => if rsv w 0 5 then .error .reservedBit else .ok (.ldsVx (fld w 22 4) (fld w 16 6) (fld w 11 5) (fld w 5 6))
  | 10, w => if rsv w 0 5 then .error .reservedBit else .ok (.stsVx (fld w 22 4) (fld w 16 6) (fld w 11 5) (fld w 5 6))
  | 16, w => if rsv w 21 1 then .error .fieldValue else .ok (.ldgA (fld w 22 4) (fld w 16 5) (fld w 11 5) (fld w 8 3) (fld w 0 8))
  | 17, w => if rsv w 21 1 then .error .fieldValue else .ok (.stgA (fld w 22 4) (fld w 16 5) (fld w 11 5) (fld w 8 3) (fld w 0 8))
  | 18, w => .ok (.ldgV (fld w 22 4) (fld w 16 6) (fld w 11 5) (fld w 8 3) (fld w 0 8))
  | 19, w => .ok (.stgV (fld w 22 4) (fld w 16 6) (fld w 11 5) (fld w 8 3) (fld w 0 8))
  | 20, w =>
    if w / 2 ^ 0 % 2 = 0 then (.ok (.ldgK (fld w 22 4) (fld w 16 6) (fld w 11 5) (fld w 8 3) (fld w 1 7))) else
    .ok (.ldgKN (fld w 22 4) (fld w 16 6) (fld w 11 5) (fld w 8 3) (fld w 1 7))
  | 24, w => if rsv w 0 4 then .error .reservedBit else .ok (.aadd (fld w 22 4) (fld w 17 5) (fld w 12 5) (fld w 7 5) (fld w 4 3))
  | 25, w => if rsv w 0 4 then .error .reservedBit else .ok (.amax (fld w 22 4) (fld w 17 5) (fld w 12 5) (fld w 7 5) (fld w 4 3))
  | 26, w => if rsv w 0 4 then .error .reservedBit else .ok (.amin (fld w 22 4) (fld w 17 5) (fld w 12 5) (fld w 7 5) (fld w 4 3))
  | 27, w => if rsv w 0 4 then .error .reservedBit else .ok (.axch (fld w 22 4) (fld w 17 5) (fld w 12 5) (fld w 7 5) (fld w 4 3))
  | 28, w => if rsv w 0 4 then .error .reservedBit else .ok (.acas (fld w 22 4) (fld w 17 5) (fld w 12 5) (fld w 7 5) (fld w 4 3))
  | 29, w => if rsv w 0 4 then .error .reservedBit else .ok (.amaxf (fld w 22 4) (fld w 17 5) (fld w 12 5) (fld w 7 5) (fld w 4 3))
  | 30, w => if rsv w 0 4 || rsv w 7 5 then .error .reservedBit else .ok (.amaxrst (fld w 22 4) (fld w 17 5) (fld w 12 5) (fld w 4 3))
  | 32, w => if rsv w 0 7 || rsv w 17 5 then .error .reservedBit else .ok (.xadd (fld w 22 4) (fld w 12 5) (fld w 7 5))
  | 33, w => if rsv w 0 6 || rsv w 17 5 then .error .reservedBit else .ok (.xaddv (fld w 22 4) (fld w 12 5) (fld w 6 6))
  | 34, w => if rsv w 0 10 then .error .reservedBit else .ok (.xrd (fld w 22 4) (fld w 17 5) (fld w 12 5) (fld w 10 2))
  | 35, w => if rsv w 0 9 then .error .reservedBit else .ok (.xrdv (fld w 22 4) (fld w 16 6) (fld w 11 5) (fld w 9 2))
  | 36, w => if rsv w 0 5 || rsv w 17 5 then .error .reservedBit else .ok (.xclr (fld w 22 4) (fld w 12 5) (fld w 5 7))
  | 40, w =>
    if w / 2 ^ 3 % 4 = 0 then (if rsv w 5 17 then .error .reservedBit else .ok (.fenceAcq (fld w 22 4) (fld w 0 3))) else
    if w / 2 ^ 3 % 4 = 1 then (if rsv w 5 17 then .error .reservedBit else .ok (.fenceRel (fld w 22 4) (fld w 0 3))) else
    if w / 2 ^ 3 % 4 = 2 then (if rsv w 5 17 then .error .reservedBit else .ok (.fenceFull (fld w 22 4) (fld w 0 3))) else
    .error .fieldValue
  | 48, w => if rsv w 0 11 then .error .reservedBit else .ok (.push (fld w 22 4) (fld w 16 6) (fld w 11 5))
  | 49, w => if rsv w 0 6 then .error .reservedBit else .ok (.pusht (fld w 22 4) (fld w 16 6) (fld w 11 5) (fld w 6 5))
  | 50, w => if rsv w 0 6 then .error .reservedBit else .ok (.pushqw (fld w 22 4) (fld w 16 6) (fld w 11 5) (fld w 6 5))
  | 51, w => if rsv w 0 11 then .error .reservedBit else .ok (.pop (fld w 22 4) (fld w 16 6) (fld w 11 5))
  | 52, w => if rsv w 0 11 then .error .reservedBit else .ok (.pushr (fld w 22 4) (fld w 16 6) (fld w 11 5))
  | 53, w => if rsv w 0 11 then .error .reservedBit else .ok (.popr (fld w 22 4) (fld w 16 6) (fld w 11 5))
  | 56, w => if rsv w 0 12 || rsv w 17 5 then .error .reservedBit else .ok (.cbinv (fld w 22 4) (fld w 12 5))
  | _, _ => .error .opcode

/-- Slot 5. -/
noncomputable def decodeMem (w : Nat) : Except Reject Instr := decodeMemRow (w / 2 ^ 26 % 64) w

/-- Slot 6 (R139, R231): OP is in [31:26]. -/
noncomputable def decodeMtxRow : Nat → Nat → Except Reject Instr
  | 0, w => if rsv w 0 26 then .error .reservedBit else .ok (.nopMtx)
  | 1, w => if rsv w 0 10 then .error .reservedBit else if rsv w 19 7 then .error .fieldValue else .ok (.claim (fld w 14 5) (fld w 10 4))
  | 2, w => if rsv w 0 14 then .error .reservedBit else if rsv w 19 7 then .error .fieldValue else .ok (.release (fld w 14 5))
  | 3, w => if rsv w 0 5 then .error .reservedBit else .ok (.ldw (fld w 19 7) (fld w 14 5) (fld w 5 9))
  | 4, w => if rsv w 0 19 then .error .reservedBit else if rsv w 19 7 then .error .fieldValue else .ok (.swpw)
  | 5, w => if rsv w 0 3 then .error .reservedBit else .ok (.acc (fld w 19 7) (fld w 14 5) (fld w 5 9) (fld w 3 2))
  | 6, w => if rsv w 0 3 then .error .reservedBit else .ok (.accz (fld w 19 7) (fld w 14 5) (fld w 5 9) (fld w 3 2))
  | 7, w =>
    if w / 2 ^ 1 % 2 = 0 then (if rsv w 0 1 then .error .reservedBit else if rsv w 18 1 then .error .fieldValue else .ok (.drain (fld w 19 7) (fld w 14 4) (fld w 5 9) (fld w 3 2) (fld w 2 1))) else
    if rsv w 0 1 || rsv w 3 2 || rsv w 14 4 then .error .reservedBit else if rsv w 18 1 then .error .fieldValue else .ok (.drainF32 (fld w 19 7) (fld w 5 9) (fld w 2 1))
  | _, _ => .error .opcode

/-- Slot 6. -/
noncomputable def decodeMtx (w : Nat) : Except Reject Instr := decodeMtxRow (w / 2 ^ 26 % 64) w

/-- Slot 7 (R139, R241): OP is in [31:27]. -/
noncomputable def decodeCpyRow : Nat → Nat → Except Reject Instr
  | 0, w => if rsv w 0 27 then .error .reservedBit else .ok (.nopCpy)
  | 1, w =>
    if w / 2 ^ 0 % 2 = 0 then (if rsv w 1 5 then .error .fieldValue else .ok (.cg2s (fld w 21 6) (fld w 16 5) (fld w 11 5) (fld w 6 5))) else
    if rsv w 1 5 || rsv w 21 6 then .error .fieldValue else .ok (.cg2sDc (fld w 16 5) (fld w 11 5) (fld w 6 5))
  | 2, w =>
    if w / 2 ^ 0 % 2 = 0 then (if rsv w 1 5 then .error .fieldValue else .ok (.cs2g (fld w 21 6) (fld w 16 5) (fld w 11 5) (fld w 6 5))) else
    if rsv w 1 5 || rsv w 21 6 then .error .fieldValue else .ok (.cs2gDc (fld w 16 5) (fld w 11 5) (fld w 6 5))
  | 3, w => if rsv w 1 5 then .error .fieldValue else .ok (.cg2o ⟨fld w 0 1, fld w 21 6⟩ (fld w 16 5) (fld w 11 5) (fld w 6 5))
  | 4, w => if rsv w 1 5 then .error .fieldValue else .ok (.cs2o ⟨fld w 0 1, fld w 21 6⟩ (fld w 16 5) (fld w 11 5) (fld w 6 5))
  | 5, w =>
    if w / 2 ^ 0 % 2 = 0 then (if rsv w 1 5 then .error .fieldValue else .ok (.cg2g (fld w 21 6) (fld w 16 5) (fld w 11 5) (fld w 6 5))) else
    if rsv w 1 5 || rsv w 21 6 then .error .fieldValue else .ok (.cg2gDc (fld w 16 5) (fld w 11 5) (fld w 6 5))
  | 6, w =>
    if w / 2 ^ 0 % 2 = 0 then (if rsv w 1 5 then .error .fieldValue else .ok (.cxred (fld w 21 6) (fld w 16 5) (fld w 11 5) (fld w 6 5))) else
    if rsv w 1 5 || rsv w 21 6 then .error .fieldValue else .ok (.cxredDc (fld w 16 5) (fld w 11 5) (fld w 6 5))
  | 7, w => if rsv w 0 1 || rsv w 11 10 then .error .reservedBit else if rsv w 1 5 then .error .fieldValue else .ok (.tset (fld w 21 6) (fld w 6 5))
  | 8, w => if rsv w 0 1 || rsv w 11 10 then .error .reservedBit else if rsv w 1 5 then .error .fieldValue else .ok (.tdrain (fld w 21 6) (fld w 6 5))
  | 9, w => if rsv w 0 1 || rsv w 6 5 || rsv w 16 11 then .error .reservedBit else if rsv w 1 5 then .error .fieldValue else .ok (.gidx (fld w 11 5))
  | 10, w => if rsv w 0 1 then .error .reservedBit else if rsv w 1 5 then .error .fieldValue else .ok (.gather (fld w 21 6) (fld w 16 5) (fld w 11 5) (fld w 6 5))
  | 11, w => if rsv w 0 1 || rsv w 6 21 then .error .reservedBit else if rsv w 1 5 then .error .fieldValue else .ok (.gend)
  | _, _ => .error .opcode

/-- Slot 7. -/
noncomputable def decodeCpy (w : Nat) : Except Reject Instr := decodeCpyRow (w / 2 ^ 27 % 32) w

/-- The operation that a word holds in a slot, or the reason it holds none. Field values that R311 reserves are left
to WellFormed, but for those that no operand of an operation could hold. -/
noncomputable def decodeSlot : Nat → Nat → Except Reject Instr
  | 0, w => decodeCtl w
  | 1, w => decodeInt w
  | 2, w => decodeAdr w
  | 3, w => decodeVec w
  | 4, w => decodeIvl w
  | 5, w => decodeMem w
  | 6, w => decodeMtx w
  | 7, w => decodeCpy w
  | _, _ => .error .opcode

/-- The number of set bits of the low n bits of a word. -/
def popCount : Nat → Nat → Nat
  | 0, _ => 0
  | n + 1, w => w % 2 + popCount n (w / 2)

/-- Which slot a word of the opcode table is read in. The table numbers the words of all eight slots alike, so one
word can be a word of several slots: of the slots whose decoder accepts it, the one taken has the most set bits in its
opcode field, the lowest-numbered among equals. This is a convention of this model, not of the part, where the slot is
the word's place in the bundle (R108). -/
noncomputable def tableSlot (w : Nat) : Option Nat :=
  let score (s m : Nat) : Nat := match decodeSlot s w with
    | .ok _ => 1 + popCount 32 (w &&& m)
    | .error _ => 0
  let pick (best : Nat × Nat) (c : Nat × Nat) : Nat × Nat := if best.2 < c.2 then c else best
  let best := [(0, score 0 0x23E00000), (1, score 1 0xFF000000), (2, score 2 0xFC000000), (3, score 3 0xFE000000),
    (4, score 4 0xFE000000), (5, score 5 0xFC000000), (6, score 6 0xFC000000), (7, score 7 0xF8000000)].foldl pick (8, 0)
  if best.2 = 0 then none else some best.1

/-- The instruction that the decoder reads from a word numbered as the opcode table numbers it. -/
noncomputable def decodeTableWord (nbits w : Nat) : Option Instr :=
  if nbits ≠ 32 then none else
  match tableSlot w with
  | none => none
  | some s => match decodeSlot s w with
    | .ok i => some i
    | .error _ => none

/-- The slot an operation is encoded in; an event has none. -/
def slotOf : Instr → Option Nat
  | .nopCtl _ _ _ _ => some 0
  | .prep _ _ _ _ _ _ => some 0
  | .prepc _ _ _ _ _ _ => some 0
  | .prepr _ _ _ _ _ => some 0
  | .prepi _ _ _ _ _ _ _ => some 0
  | .loop _ _ _ _ _ _ _ => some 0
  | .loopi _ _ _ _ _ _ _ => some 0
  | .budget _ _ _ _ _ => some 0
  | .mark _ _ _ _ _ => some 0
  | .sync _ _ _ _ _ => some 0
  | .spawn _ _ _ _ _ _ _ => some 0
  | .susp _ _ _ _ _ => some 0
  | .qnew _ _ _ _ _ _ => some 0
  | .qwait _ _ _ _ => some 0
  | .qborrow _ _ _ _ _ => some 0
  | .qsplit _ _ _ _ _ => some 0
  | .qjoin _ _ _ _ _ => some 0
  | .qret _ _ _ _ => some 0
  | .waitte _ _ _ _ _ _ => some 0
  | .drainw _ _ _ _ => some 0
  | .trap _ _ _ _ _ => some 0
  | .rft _ _ => some 0
  | .nopInt => some 1
  | .add _ _ _ _ _ _ => some 1
  | .addN _ _ _ _ _ _ => some 1
  | .addP _ _ _ _ _ _ => some 1
  | .sub _ _ _ _ _ _ => some 1
  | .subN _ _ _ _ _ _ => some 1
  | .subP _ _ _ _ _ _ => some 1
  | .mul _ _ _ _ _ _ => some 1
  | .mulN _ _ _ _ _ _ => some 1
  | .mulP _ _ _ _ _ _ => some 1
  | .min _ _ _ _ _ _ => some 1
  | .minN _ _ _ _ _ _ => some 1
  | .minP _ _ _ _ _ _ => some 1
  | .max _ _ _ _ _ _ => some 1
  | .maxN _ _ _ _ _ _ => some 1
  | .maxP _ _ _ _ _ _ => some 1
  | .abs _ _ _ _ => some 1
  | .absN _ _ _ _ => some 1
  | .absP _ _ _ _ => some 1
  | .neg _ _ _ _ => some 1
  | .negN _ _ _ _ => some 1
  | .negP _ _ _ _ => some 1
  | .mov _ _ _ _ => some 1
  | .movN _ _ _ _ => some 1
  | .movP _ _ _ _ => some 1
  | .addi _ _ _ _ => some 1
  | .addiN _ _ _ _ => some 1
  | .addiP _ _ _ _ => some 1
  | .muli _ _ _ _ => some 1
  | .muliN _ _ _ _ => some 1
  | .muliP _ _ _ _ => some 1
  | .and _ _ _ _ _ _ => some 1
  | .or _ _ _ _ _ _ => some 1
  | .xor _ _ _ _ _ _ => some 1
  | .shl _ _ _ _ _ _ => some 1
  | .shr _ _ _ _ _ _ => some 1
  | .sar _ _ _ _ _ _ => some 1
  | .eq _ _ _ _ _ _ => some 1
  | .eqN _ _ _ _ _ => some 1
  | .eqP _ _ _ _ _ => some 1
  | .ne _ _ _ _ _ _ => some 1
  | .neN _ _ _ _ _ => some 1
  | .neP _ _ _ _ _ => some 1
  | .lt _ _ _ _ _ _ => some 1
  | .ltN _ _ _ _ _ => some 1
  | .ltP _ _ _ _ _ => some 1
  | .le _ _ _ _ _ _ => some 1
  | .leN _ _ _ _ _ => some 1
  | .leP _ _ _ _ _ => some 1
  | .eqi _ _ _ _ => some 1
  | .eqiN _ _ _ => some 1
  | .eqiP _ _ _ => some 1
  | .nei _ _ _ _ => some 1
  | .neiN _ _ _ => some 1
  | .neiP _ _ _ => some 1
  | .lti _ _ _ _ => some 1
  | .ltiN _ _ _ => some 1
  | .ltiP _ _ _ => some 1
  | .lei _ _ _ _ => some 1
  | .leiN _ _ _ => some 1
  | .leiP _ _ _ => some 1
  | .gti _ _ _ _ => some 1
  | .gtiN _ _ _ => some 1
  | .gtiP _ _ _ => some 1
  | .gei _ _ _ _ => some 1
  | .geiN _ _ _ => some 1
  | .geiP _ _ _ => some 1
  | .dlo _ _ _ _ => some 1
  | .dhi _ _ _ _ => some 1
  | .dsize _ _ _ _ => some 1
  | .dmid _ _ _ _ => some 1
  | .dset _ _ _ _ _ _ => some 1
  | .dfull _ _ => some 1
  | .single _ _ _ _ => some 1
  | .div _ _ _ _ _ _ => some 1
  | .rem _ _ _ _ _ _ => some 1
  | .ckpt _ => some 1
  | .roll _ => some 1
  | .commit _ => some 1
  | .nopAdr => some 2
  | .adda _ _ _ _ => some 2
  | .suba _ _ _ _ => some 2
  | .mula _ _ _ _ => some 2
  | .anda _ _ _ _ => some 2
  | .ora _ _ _ _ => some 2
  | .xora _ _ _ _ => some 2
  | .shla _ _ _ _ => some 2
  | .shra _ _ _ _ => some 2
  | .sara _ _ _ _ => some 2
  | .addai _ _ _ _ => some 2
  | .li _ _ _ => some 2
  | .shlai _ _ _ _ => some 2
  | .cmpa _ _ _ _ _ => some 2
  | .cmpai _ _ _ _ _ => some 2
  | .plogic _ _ _ _ => some 2
  | .pset _ _ => some 2
  | .arm _ _ _ => some 2
  | .armm _ _ => some 2
  | .mlogic _ _ _ _ _ => some 2
  | .mcnt _ _ _ => some 2
  | .mfirst _ _ _ => some 2
  | .mfill _ _ _ => some 2
  | .mfromp _ _ _ => some 2
  | .movka _ _ _ => some 2
  | .movak _ _ _ => some 2
  | .sela _ _ _ _ _ => some 2
  | .ldelta _ _ _ _ => some 2
  | .getlc _ _ _ => some 2
  | .movs _ _ _ => some 2
  | .movg _ _ _ => some 2
  | .nopVec => some 3
  | .vaddF _ _ _ _ _ _ => some 3
  | .vsubF _ _ _ _ _ _ => some 3
  | .vmulF _ _ _ _ _ _ => some 3
  | .vfmaF _ _ _ _ _ _ => some 3
  | .vfmsF _ _ _ _ _ _ => some 3
  | .vminF _ _ _ _ _ _ => some 3
  | .vmaxF _ _ _ _ _ _ => some 3
  | .vabsF _ _ _ _ => some 3
  | .vnegF _ _ _ _ => some 3
  | .vrcpF _ _ _ _ => some 3
  | .vrsqF _ _ _ _ => some 3
  | .vexp2F _ _ _ _ => some 3
  | .vlog2F _ _ _ _ => some 3
  | .vcmpeqF _ _ _ _ _ _ => some 3
  | .vcmpltF _ _ _ _ _ _ => some 3
  | .vcmpleF _ _ _ _ _ _ => some 3
  | .vaddI _ _ _ _ _ _ => some 3
  | .vsubI _ _ _ _ _ _ => some 3
  | .vmulI _ _ _ _ _ _ => some 3
  | .vminI _ _ _ _ _ _ => some 3
  | .vmaxI _ _ _ _ _ _ => some 3
  | .vand _ _ _ _ _ _ => some 3
  | .vor _ _ _ _ _ _ => some 3
  | .vxor _ _ _ _ _ _ => some 3
  | .vshl _ _ _ _ _ _ => some 3
  | .vshr _ _ _ _ _ _ => some 3
  | .vsar _ _ _ _ _ _ => some 3
  | .vcmpeqI _ _ _ _ _ _ => some 3
  | .vcmpltI _ _ _ _ _ _ => some 3
  | .vcvtFi _ _ _ _ => some 3
  | .vcvtIf _ _ _ _ => some 3
  | .vpkbf _ _ _ _ _ _ => some 3
  | .vunbf _ _ _ _ _ => some 3
  | .vcvtn _ _ _ _ _ => some 3
  | .vcvtw _ _ _ _ _ => some 3
  | .vmov _ _ _ _ => some 3
  | .vsel _ _ _ _ _ _ => some 3
  | .vbca _ _ _ _ => some 3
  | .vbck _ _ _ _ => some 3
  | .vperm _ _ _ _ _ _ => some 3
  | .vext _ _ _ _ _ => some 3
  | .vins _ _ _ _ _ => some 3
  | .viota _ _ => some 3
  | .vsumx _ _ _ _ => some 3
  | .vmaxr _ _ _ _ => some 3
  | .vminr _ _ _ _ => some 3
  | .vsumi _ _ _ _ => some 3
  | .nopIvl => some 4
  | .qadd _ _ _ _ => some 4
  | .qsub _ _ _ _ => some 4
  | .qmul _ _ _ _ => some 4
  | .qfma _ _ _ _ _ => some 4
  | .qdiv _ _ _ _ => some 4
  | .qsqr _ _ _ => some 4
  | .qsqrt _ _ _ => some 4
  | .qrelu _ _ _ => some 4
  | .qmax _ _ _ _ => some 4
  | .qmin _ _ _ _ => some 4
  | .qneg _ _ _ => some 4
  | .qabs _ _ _ => some 4
  | .qexp _ _ _ => some 4
  | .qmeet _ _ _ _ => some 4
  | .qhull _ _ _ _ => some 4
  | .qmid _ _ _ => some 4
  | .qwid _ _ _ => some 4
  | .qbis _ _ _ => some 4
  | .qmake _ _ _ _ _ => some 4
  | .qpoint _ _ _ _ => some 4
  | .qlo _ _ _ _ => some 4
  | .qhi _ _ _ _ => some 4
  | .qent _ _ => some 4
  | .qemp _ _ => some 4
  | .qbca _ _ _ => some 4
  | .qcmp _ _ _ _ _ => some 4
  | .qtest _ _ _ _ _ => some 4
  | .qaddC _ _ _ _ => some 4
  | .qsubC _ _ _ _ => some 4
  | .qmulC _ _ _ _ => some 4
  | .qfmaC _ _ _ _ _ => some 4
  | .qsqrC _ _ _ => some 4
  | .qreluC _ _ _ => some 4
  | .qmaxC _ _ _ _ => some 4
  | .qexpC _ _ _ => some 4
  | .qleC _ _ _ => some 4
  | .qstat _ _ _ => some 4
  | .nopMem => some 5
  | .ldsV _ _ _ _ => some 5
  | .stsV _ _ _ _ => some 5
  | .ldsQ _ _ _ _ => some 5
  | .stsQ _ _ _ _ => some 5
  | .ldsK _ _ _ _ => some 5
  | .stsK _ _ _ _ => some 5
  | .ldsA _ _ _ _ => some 5
  | .stsA _ _ _ _ => some 5
  | .ldsVx _ _ _ _ => some 5
  | .stsVx _ _ _ _ => some 5
  | .ldgA _ _ _ _ _ => some 5
  | .stgA _ _ _ _ _ => some 5
  | .ldgV _ _ _ _ _ => some 5
  | .stgV _ _ _ _ _ => some 5
  | .ldgK _ _ _ _ _ => some 5
  | .ldgKN _ _ _ _ _ => some 5
  | .aadd _ _ _ _ _ => some 5
  | .amax _ _ _ _ _ => some 5
  | .amin _ _ _ _ _ => some 5
  | .axch _ _ _ _ _ => some 5
  | .acas _ _ _ _ _ => some 5
  | .amaxf _ _ _ _ _ => some 5
  | .amaxrst _ _ _ _ => some 5
  | .xadd _ _ _ => some 5
  | .xaddv _ _ _ => some 5
  | .xrd _ _ _ _ => some 5
  | .xrdv _ _ _ _ => some 5
  | .xclr _ _ _ => some 5
  | .fenceAcq _ _ => some 5
  | .fenceRel _ _ => some 5
  | .fenceFull _ _ => some 5
  | .push _ _ _ => some 5
  | .pusht _ _ _ _ => some 5
  | .pushqw _ _ _ _ => some 5
  | .pop _ _ _ => some 5
  | .pushr _ _ _ => some 5
  | .popr _ _ _ => some 5
  | .cbinv _ _ => some 5
  | .nopMtx => some 6
  | .claim _ _ => some 6
  | .release _ => some 6
  | .ldw _ _ _ => some 6
  | .swpw => some 6
  | .acc _ _ _ _ => some 6
  | .accz _ _ _ _ => some 6
  | .drain _ _ _ _ _ => some 6
  | .drainF32 _ _ _ => some 6
  | .nopCpy => some 7
  | .cg2s _ _ _ _ => some 7
  | .cg2sDc _ _ _ => some 7
  | .cs2g _ _ _ _ => some 7
  | .cs2gDc _ _ _ => some 7
  | .cg2o _ _ _ _ => some 7
  | .cs2o _ _ _ _ => some 7
  | .cg2g _ _ _ _ => some 7
  | .cg2gDc _ _ _ => some 7
  | .cxred _ _ _ _ => some 7
  | .cxredDc _ _ _ => some 7
  | .tset _ _ => some 7
  | .tdrain _ _ => some 7
  | .gidx _ => some 7
  | .gather _ _ _ _ => some 7
  | .gend => some 7
  | .loadLanding _ _ => none
  | .writeDrained _ _ => none
  | .divRemWrite _ _ => none
  | .scatterGatherDone _ _ => none
  | .copySectorLands _ _ _ => none
  | .gatherRowLands _ _ => none
  | .pageWalk _ _ _ => none
  | .pageResponse _ _ _ _ => none
  | .overlayLoaded _ => none
  | .overlayPrefetch _ _ => none
  | .park _ => none
  | .budgetovr _ => none
  | .barrierRestart _ => none
  | .enginesEmpty _ => none
  | .dispatch _ => none
  | .gangDispatch _ _ => none
  | .spawnAcceptance _ => none
  | .queueDelivery _ _ => none
  | .entryReturn _ _ => none
  | .hearthQnew _ => none
  | .hearthBorrow _ => none
  | .hearthReturn _ => none
  | .hearthQwait _ => none
  | .queueWindowWrite _ _ _ => none
  | .bindpasid _ => none
  | .preempt _ => none
  | .preemptHalt _ => none
  | .preemptCompletion => none
  | .inval _ => none
  | .qmode _ => none
  | .descinv _ => none
  | .temper _ => none
  | .route _ => none
  | .attest _ => none
  | .fring _ => none
  | .kill _ => none
  | .reset _ => none
  | .elog _ => none
  | .badcmd _ => none
  | .frp _ => none
  | .erp _ => none
  | .registerWrite _ _ => none
  | .dstat _ _ => none
  | .debugStopRequest _ => none
  | .debugResume _ => none
  | .debuggerRegisterWrite _ _ _ => none
  | .debugMemoryAccess _ _ => none
  | .sampleRecord _ => none
  | .spdmRequest _ => none
  | .hostMemoryAccess _ _ => none
  | .peerRequest _ _ => none
  | .boot => none
  | .functionLevelReset => none
  | .temperTick => none
  | .boostStep _ => none
  | .patrolScrub _ _ => none
  | .flitCrcRetry _ => none
  | .linkRetrain _ => none
  | .portDown _ => none
  | .portUp _ => none
  | .registerStateLost _ => none
  | .coreLogicError _ => none
  | .fabricError _ => none
  | .unassignedEncoding _ _ _ => none
  | .evictionCompletes _ => none
  | .imageRestored _ => none

/-- A word with fields put in place: each value is added shifted to its lowest bit. -/
def place (w : Nat) : List (Nat × Nat) → Nat
  | [] => w
  | (v, lo) :: rest => place (w + v * 2 ^ lo) rest

/-- The word of an operation: the fixed bits of its row and each field at its place (R122, R139). An event has no word
and gives 0. -/
def encode : Instr → Nat
  | .nopCtl e y x t => place 0x0 [(e.toNat, 31), (y.toNat, 30), (x.toNat, 28), (t.toNat, 26)]
  | .prep e y x t b o => place 0x200000 [(e.toNat, 31), (y.toNat, 30), (x.toNat, 28), (t.toNat, 26), (b.toNat, 19), (o.toNat, 0)]
  | .prepc e y x t b o => place 0x400000 [(e.toNat, 31), (y.toNat, 30), (x.toNat, 28), (t.toNat, 26), (b.toNat, 19), (o.toNat, 0)]
  | .prepr e y x t b => place 0x600000 [(e.toNat, 31), (y.toNat, 30), (x.toNat, 28), (t.toNat, 26), (b.toNat, 19)]
  | .prepi e y x t b s o => place 0x800000 [(e.toNat, 31), (y.toNat, 30), (x.toNat, 28), (t.toNat, 26), (b.toNat, 19), (s.toNat, 14), (o.toNat, 0)]
  | .loop e y x t v n l => place 0xa00000 [(e.toNat, 31), (y.toNat, 30), (x.toNat, 28), (t.toNat, 26), (v.toNat, 19), (n.toNat, 14), (l.toNat, 0)]
  | .loopi e y x t v c l => place 0xc00000 [(e.toNat, 31), (y.toNat, 30), (x.toNat, 28), (t.toNat, 26), (v.toNat, 19), (c.toNat, 10), (l.toNat, 0)]
  | .budget e y x t c => place 0xe00000 [(e.toNat, 31), (y.toNat, 30), (x.toNat, 28), (t.toNat, 26), (c.toNat, 0)]
  | .mark e y x t c => place 0x21000000 [(e.toNat, 31), (y.toNat, 30), (x.toNat, 28), (t.toNat, 26), (c.toNat, 0)]
  | .sync e y x t s => place 0x1200000 [(e.toNat, 31), (y.toNat, 30), (x.toNat, 28), (t.toNat, 26), (s.toNat, 0)]
  | .spawn e y x t p r q => place 0x1400000 [(e.toNat, 31), (y.toNat, 30), (x.toNat, 28), (t.toNat, 26), (p.toNat, 15), (r.toNat, 10), (q.toNat, 4)]
  | .susp y x t r q => place 0x1600000 [(y.toNat, 30), (x.toNat, 28), (t.toNat, 26), (r.toNat, 16), (q.toNat, 10)]
  | .qnew e y x t q w => place 0x1800000 [(e.toNat, 31), (y.toNat, 30), (x.toNat, 28), (t.toNat, 26), (q.toNat, 16), (w.toNat, 11)]
  | .qwait y x t q => place 0x1a00000 [(y.toNat, 30), (x.toNat, 28), (t.toNat, 26), (q.toNat, 16)]
  | .qborrow e y x t n => place 0x1c00000 [(e.toNat, 31), (y.toNat, 30), (x.toNat, 28), (t.toNat, 26), (n.toNat, 0)]
  | .qsplit e y x t d => place 0x1e00000 [(e.toNat, 31), (y.toNat, 30), (x.toNat, 28), (t.toNat, 26), (d.toNat, 16)]
  | .qjoin e y x t s => place 0x2000000 [(e.toNat, 31), (y.toNat, 30), (x.toNat, 28), (t.toNat, 26), (s.toNat, 16)]
  | .qret e y x t => place 0x2200000 [(e.toNat, 31), (y.toNat, 30), (x.toNat, 28), (t.toNat, 26)]
  | .waitte e y x t n h => place 0x2400000 [(e.toNat, 31), (y.toNat, 30), (x.toNat, 28), (t.toNat, 26), (n.toNat, 15), (h.toNat, 14)]
  | .drainw e y x t => place 0x2600000 [(e.toNat, 31), (y.toNat, 30), (x.toNat, 28), (t.toNat, 26)]
  | .trap e y x t c => place 0x2800000 [(e.toNat, 31), (y.toNat, 30), (x.toNat, 28), (t.toNat, 26), (c.toNat, 0)]
  | .rft e y => place 0x2a00000 [(e.toNat, 31), (y.toNat, 30)]
  | .nopInt => place 0x0 []
  | .add g d a b f h => place 0x4000000 [(g.toNat, 20), (d.toNat, 14), (a.toNat, 8), (b.toNat, 2), (f.toNat, 1), (h.toNat, 0)]
  | .addN g d a b f h => place 0x5000000 [(g.toNat, 20), (d.toNat, 14), (a.toNat, 8), (b.toNat, 2), (f.toNat, 1), (h.toNat, 0)]
  | .addP g d a b f h => place 0x6000000 [(g.toNat, 20), (d.toNat, 14), (a.toNat, 8), (b.toNat, 2), (f.toNat, 1), (h.toNat, 0)]
  | .sub g d a b f h => place 0x8000000 [(g.toNat, 20), (d.toNat, 14), (a.toNat, 8), (b.toNat, 2), (f.toNat, 1), (h.toNat, 0)]
  | .subN g d a b f h => place 0x9000000 [(g.toNat, 20), (d.toNat, 14), (a.toNat, 8), (b.toNat, 2), (f.toNat, 1), (h.toNat, 0)]
  | .subP g d a b f h => place 0xa000000 [(g.toNat, 20), (d.toNat, 14), (a.toNat, 8), (b.toNat, 2), (f.toNat, 1), (h.toNat, 0)]
  | .mul g d a b f h => place 0xc000000 [(g.toNat, 20), (d.toNat, 14), (a.toNat, 8), (b.toNat, 2), (f.toNat, 1), (h.toNat, 0)]
  | .mulN g d a b f h => place 0xd000000 [(g.toNat, 20), (d.toNat, 14), (a.toNat, 8), (b.toNat, 2), (f.toNat, 1), (h.toNat, 0)]
  | .mulP g d a b f h => place 0xe000000 [(g.toNat, 20), (d.toNat, 14), (a.toNat, 8), (b.toNat, 2), (f.toNat, 1), (h.toNat, 0)]
  | .min g d a b f h => place 0x10000000 [(g.toNat, 20), (d.toNat, 14), (a.toNat, 8), (b.toNat, 2), (f.toNat, 1), (h.toNat, 0)]
  | .minN g d a b f h => place 0x11000000 [(g.toNat, 20), (d.toNat, 14), (a.toNat, 8), (b.toNat, 2), (f.toNat, 1), (h.toNat, 0)]
  | .minP g d a b f h => place 0x12000000 [(g.toNat, 20), (d.toNat, 14), (a.toNat, 8), (b.toNat, 2), (f.toNat, 1), (h.toNat, 0)]
  | .max g d a b f h => place 0x14000000 [(g.toNat, 20), (d.toNat, 14), (a.toNat, 8), (b.toNat, 2), (f.toNat, 1), (h.toNat, 0)]
  | .maxN g d a b f h => place 0x15000000 [(g.toNat, 20), (d.toNat, 14), (a.toNat, 8), (b.toNat, 2), (f.toNat, 1), (h.toNat, 0)]
  | .maxP g d a b f h => place 0x16000000 [(g.toNat, 20), (d.toNat, 14), (a.toNat, 8), (b.toNat, 2), (f.toNat, 1), (h.toNat, 0)]
  | .abs g d a f => place 0x18000000 [(g.toNat, 20), (d.toNat, 14), (a.toNat, 8), (f.toNat, 1)]
  | .absN g d a f => place 0x19000000 [(g.toNat, 20), (d.toNat, 14), (a.toNat, 8), (f.toNat, 1)]
  | .absP g d a f => place 0x1a000000 [(g.toNat, 20), (d.toNat, 14), (a.toNat, 8), (f.toNat, 1)]
  | .neg g d a f => place 0x1c000000 [(g.toNat, 20), (d.toNat, 14), (a.toNat, 8), (f.toNat, 1)]
  | .negN g d a f => place 0x1d000000 [(g.toNat, 20), (d.toNat, 14), (a.toNat, 8), (f.toNat, 1)]
  | .negP g d a f => place 0x1e000000 [(g.toNat, 20), (d.toNat, 14), (a.toNat, 8), (f.toNat, 1)]
  | .mov g d a f => place 0x20000000 [(g.toNat, 20), (d.toNat, 14), (a.toNat, 8), (f.toNat, 1)]
  | .movN g d a f => place 0x21000000 [(g.toNat, 20), (d.toNat, 14), (a.toNat, 8), (f.toNat, 1)]
  | .movP g d a f => place 0x22000000 [(g.toNat, 20), (d.toNat, 14), (a.toNat, 8), (f.toNat, 1)]
  | .addi g d a i => place 0x24000000 [(g.toNat, 20), (d.toNat, 14), (a.toNat, 8), (i.toNat, 0)]
  | .addiN g d a i => place 0x25000000 [(g.toNat, 20), (d.toNat, 14), (a.toNat, 8), (i.toNat, 0)]
  | .addiP g d a i => place 0x26000000 [(g.toNat, 20), (d.toNat, 14), (a.toNat, 8), (i.toNat, 0)]
  | .muli g d a i => place 0x28000000 [(g.toNat, 20), (d.toNat, 14), (a.toNat, 8), (i.toNat, 0)]
  | .muliN g d a i => place 0x29000000 [(g.toNat, 20), (d.toNat, 14), (a.toNat, 8), (i.toNat, 0)]
  | .muliP g d a i => place 0x2a000000 [(g.toNat, 20), (d.toNat, 14), (a.toNat, 8), (i.toNat, 0)]
  | .and g d a b f h => place 0x2c000000 [(g.toNat, 20), (d.toNat, 14), (a.toNat, 8), (b.toNat, 2), (f.toNat, 1), (h.toNat, 0)]
  | .or g d a b f h => place 0x30000000 [(g.toNat, 20), (d.toNat, 14), (a.toNat, 8), (b.toNat, 2), (f.toNat, 1), (h.toNat, 0)]
  | .xor g d a b f h => place 0x34000000 [(g.toNat, 20), (d.toNat, 14), (a.toNat, 8), (b.toNat, 2), (f.toNat, 1), (h.toNat, 0)]
  | .shl g d a b f h => place 0x38000000 [(g.toNat, 20), (d.toNat, 14), (a.toNat, 8), (b.toNat, 2), (f.toNat, 1), (h.toNat, 0)]
  | .shr g d a b f h => place 0x3c000000 [(g.toNat, 20), (d.toNat, 14), (a.toNat, 8), (b.toNat, 2), (f.toNat, 1), (h.toNat, 0)]
  | .sar g d a b f h => place 0x40000000 [(g.toNat, 20), (d.toNat, 14), (a.toNat, 8), (b.toNat, 2), (f.toNat, 1), (h.toNat, 0)]
  | .eq g d a b f h => place 0x44000000 [(g.toNat, 20), (d.toNat, 14), (a.toNat, 8), (b.toNat, 2), (f.toNat, 1), (h.toNat, 0)]
  | .eqN g a b f h => place 0x45000000 [(g.toNat, 20), (a.toNat, 8), (b.toNat, 2), (f.toNat, 1), (h.toNat, 0)]
  | .eqP g a b f h => place 0x46000000 [(g.toNat, 20), (a.toNat, 8), (b.toNat, 2), (f.toNat, 1), (h.toNat, 0)]
  | .ne g d a b f h => place 0x48000000 [(g.toNat, 20), (d.toNat, 14), (a.toNat, 8), (b.toNat, 2), (f.toNat, 1), (h.toNat, 0)]
  | .neN g a b f h => place 0x49000000 [(g.toNat, 20), (a.toNat, 8), (b.toNat, 2), (f.toNat, 1), (h.toNat, 0)]
  | .neP g a b f h => place 0x4a000000 [(g.toNat, 20), (a.toNat, 8), (b.toNat, 2), (f.toNat, 1), (h.toNat, 0)]
  | .lt g d a b f h => place 0x4c000000 [(g.toNat, 20), (d.toNat, 14), (a.toNat, 8), (b.toNat, 2), (f.toNat, 1), (h.toNat, 0)]
  | .ltN g a b f h => place 0x4d000000 [(g.toNat, 20), (a.toNat, 8), (b.toNat, 2), (f.toNat, 1), (h.toNat, 0)]
  | .ltP g a b f h => place 0x4e000000 [(g.toNat, 20), (a.toNat, 8), (b.toNat, 2), (f.toNat, 1), (h.toNat, 0)]
  | .le g d a b f h => place 0x50000000 [(g.toNat, 20), (d.toNat, 14), (a.toNat, 8), (b.toNat, 2), (f.toNat, 1), (h.toNat, 0)]
  | .leN g a b f h => place 0x51000000 [(g.toNat, 20), (a.toNat, 8), (b.toNat, 2), (f.toNat, 1), (h.toNat, 0)]
  | .leP g a b f h => place 0x52000000 [(g.toNat, 20), (a.toNat, 8), (b.toNat, 2), (f.toNat, 1), (h.toNat, 0)]
  | .eqi g d a i => place 0x54000000 [(g.toNat, 20), (d.toNat, 14), (a.toNat, 8), (i.toNat, 0)]
  | .eqiN g a i => place 0x55000000 [(g.toNat, 20), (a.toNat, 8), (i.toNat, 0)]
  | .eqiP g a i => place 0x56000000 [(g.toNat, 20), (a.toNat, 8), (i.toNat, 0)]
  | .nei g d a i => place 0x58000000 [(g.toNat, 20), (d.toNat, 14), (a.toNat, 8), (i.toNat, 0)]
  | .neiN g a i => place 0x59000000 [(g.toNat, 20), (a.toNat, 8), (i.toNat, 0)]
  | .neiP g a i => place 0x5a000000 [(g.toNat, 20), (a.toNat, 8), (i.toNat, 0)]
  | .lti g d a i => place 0x5c000000 [(g.toNat, 20), (d.toNat, 14), (a.toNat, 8), (i.toNat, 0)]
  | .ltiN g a i => place 0x5d000000 [(g.toNat, 20), (a.toNat, 8), (i.toNat, 0)]
  | .ltiP g a i => place 0x5e000000 [(g.toNat, 20), (a.toNat, 8), (i.toNat, 0)]
  | .lei g d a i => place 0x60000000 [(g.toNat, 20), (d.toNat, 14), (a.toNat, 8), (i.toNat, 0)]
  | .leiN g a i => place 0x61000000 [(g.toNat, 20), (a.toNat, 8), (i.toNat, 0)]
  | .leiP g a i => place 0x62000000 [(g.toNat, 20), (a.toNat, 8), (i.toNat, 0)]
  | .gti g d a i => place 0x64000000 [(g.toNat, 20), (d.toNat, 14), (a.toNat, 8), (i.toNat, 0)]
  | .gtiN g a i => place 0x65000000 [(g.toNat, 20), (a.toNat, 8), (i.toNat, 0)]
  | .gtiP g a i => place 0x66000000 [(g.toNat, 20), (a.toNat, 8), (i.toNat, 0)]
  | .gei g d a i => place 0x68000000 [(g.toNat, 20), (d.toNat, 14), (a.toNat, 8), (i.toNat, 0)]
  | .geiN g a i => place 0x69000000 [(g.toNat, 20), (a.toNat, 8), (i.toNat, 0)]
  | .geiP g a i => place 0x6a000000 [(g.toNat, 20), (a.toNat, 8), (i.toNat, 0)]
  | .dlo g d a f => place 0x6c000000 [(g.toNat, 20), (d.toNat, 14), (a.toNat, 8), (f.toNat, 1)]
  | .dhi g d a f => place 0x70000000 [(g.toNat, 20), (d.toNat, 14), (a.toNat, 8), (f.toNat, 1)]
  | .dsize g d a f => place 0x74000000 [(g.toNat, 20), (d.toNat, 14), (a.toNat, 8), (f.toNat, 1)]
  | .dmid g d a f => place 0x78000000 [(g.toNat, 20), (d.toNat, 14), (a.toNat, 8), (f.toNat, 1)]
  | .dset g d a b f h => place 0x7c000000 [(g.toNat, 20), (d.toNat, 14), (a.toNat, 8), (b.toNat, 2), (f.toNat, 1), (h.toNat, 0)]
  | .dfull g d => place 0x80000000 [(g.toNat, 20), (d.toNat, 14)]
  | .single g d a f => place 0x84000000 [(g.toNat, 20), (d.toNat, 14), (a.toNat, 8), (f.toNat, 1)]
  | .div g d a b f h => place 0x88000000 [(g.toNat, 20), (d.toNat, 14), (a.toNat, 8), (b.toNat, 2), (f.toNat, 1), (h.toNat, 0)]
  | .rem g d a b f h => place 0x8c000000 [(g.toNat, 20), (d.toNat, 14), (a.toNat, 8), (b.toNat, 2), (f.toNat, 1), (h.toNat, 0)]
  | .ckpt g => place 0x90000000 [(g.toNat, 20)]
  | .roll g => place 0x94000000 [(g.toNat, 20)]
  | .commit g => place 0x98000000 [(g.toNat, 20)]
  | .nopAdr => place 0x0 []
  | .adda g d a b => place 0x4000000 [(g.toNat, 22), (d.toNat, 17), (a.toNat, 12), (b.toNat, 7)]
  | .suba g d a b => place 0x8000000 [(g.toNat, 22), (d.toNat, 17), (a.toNat, 12), (b.toNat, 7)]
  | .mula g d a b => place 0xc000000 [(g.toNat, 22), (d.toNat, 17), (a.toNat, 12), (b.toNat, 7)]
  | .anda g d a b => place 0x10000000 [(g.toNat, 22), (d.toNat, 17), (a.toNat, 12), (b.toNat, 7)]
  | .ora g d a b => place 0x14000000 [(g.toNat, 22), (d.toNat, 17), (a.toNat, 12), (b.toNat, 7)]
  | .xora g d a b => place 0x18000000 [(g.toNat, 22), (d.toNat, 17), (a.toNat, 12), (b.toNat, 7)]
  | .shla g d a b => place 0x1c000000 [(g.toNat, 22), (d.toNat, 17), (a.toNat, 12), (b.toNat, 7)]
  | .shra g d a b => place 0x20000000 [(g.toNat, 22), (d.toNat, 17), (a.toNat, 12), (b.toNat, 7)]
  | .sara g d a b => place 0x24000000 [(g.toNat, 22), (d.toNat, 17), (a.toNat, 12), (b.toNat, 7)]
  | .addai g d a i => place 0x28000000 [(g.toNat, 22), (d.toNat, 17), (a.toNat, 12), (i.toNat, 0)]
  | .li g d i => place 0x2c000000 [(g.toNat, 22), (d.toNat, 17), (i.toNat, 0)]
  | .shlai g d a i => place 0x30000000 [(g.toNat, 22), (d.toNat, 17), (a.toNat, 12), (i.toNat, 0)]
  | .cmpa g p a b c => place 0x34000000 [(g.toNat, 22), (p.toNat, 17), (a.toNat, 12), (b.toNat, 7), (c.toNat, 4)]
  | .cmpai g p a c i => place 0x38000000 [(g.toNat, 22), (p.toNat, 17), (a.toNat, 12), (c.toNat, 9), (i.toNat, 0)]
  | .plogic d a b f => place 0x3c000000 [(d.toNat, 19), (a.toNat, 12), (b.toNat, 5), (f.toNat, 2)]
  | .pset d v => place 0x40000000 [(d.toNat, 19), (v.toNat, 17)]
  | .arm b s p => place 0x44000000 [(b.toNat, 24), (s.toNat, 17), (p.toNat, 16)]
  | .armm b s => place 0x48000000 [(b.toNat, 24), (s.toNat, 20)]
  | .mlogic g d a b f => place 0x4c000000 [(g.toNat, 22), (d.toNat, 18), (a.toNat, 14), (b.toNat, 10), (f.toNat, 7)]
  | .mcnt g d s => place 0x50000000 [(g.toNat, 22), (d.toNat, 17), (s.toNat, 13)]
  | .mfirst g d s => place 0x54000000 [(g.toNat, 22), (d.toNat, 17), (s.toNat, 13)]
  | .mfill g d s => place 0x58000000 [(g.toNat, 22), (d.toNat, 18), (s.toNat, 12)]
  | .mfromp g d s => place 0x5c000000 [(g.toNat, 22), (d.toNat, 18), (s.toNat, 11)]
  | .movka g d s => place 0x60000000 [(g.toNat, 22), (d.toNat, 17), (s.toNat, 11)]
  | .movak g d s => place 0x64000000 [(g.toNat, 22), (d.toNat, 16), (s.toNat, 11)]
  | .sela g d a b p => place 0x68000000 [(g.toNat, 22), (d.toNat, 17), (a.toNat, 12), (b.toNat, 7), (p.toNat, 0)]
  | .ldelta g v t s => place 0x6c000000 [(g.toNat, 22), (v.toNat, 20), (t.toNat, 15), (s.toNat, 10)]
  | .getlc g d v => place 0x70000000 [(g.toNat, 22), (d.toNat, 17), (v.toNat, 15)]
  | .movs g d r => place 0x74000000 [(g.toNat, 22), (d.toNat, 17), (r.toNat, 0)]
  | .movg g s r => place 0x78000000 [(g.toNat, 22), (s.toNat, 12), (r.toNat, 0)]
  | .nopVec => place 0x0 []
  | .vaddF g d a b f h => place 0x2000000 [(g.toNat, 20), (d.toNat, 14), (a.toNat, 8), (b.toNat, 2), (f.toNat, 1), (h.toNat, 0)]
  | .vsubF g d a b f h => place 0x4000000 [(g.toNat, 20), (d.toNat, 14), (a.toNat, 8), (b.toNat, 2), (f.toNat, 1), (h.toNat, 0)]
  | .vmulF g d a b f h => place 0x6000000 [(g.toNat, 20), (d.toNat, 14), (a.toNat, 8), (b.toNat, 2), (f.toNat, 1), (h.toNat, 0)]
  | .vfmaF g d a b f h => place 0x8000000 [(g.toNat, 20), (d.toNat, 14), (a.toNat, 8), (b.toNat, 2), (f.toNat, 1), (h.toNat, 0)]
  | .vfmsF g d a b f h => place 0xa000000 [(g.toNat, 20), (d.toNat, 14), (a.toNat, 8), (b.toNat, 2), (f.toNat, 1), (h.toNat, 0)]
  | .vminF g d a b f h => place 0xc000000 [(g.toNat, 20), (d.toNat, 14), (a.toNat, 8), (b.toNat, 2), (f.toNat, 1), (h.toNat, 0)]
  | .vmaxF g d a b f h => place 0xe000000 [(g.toNat, 20), (d.toNat, 14), (a.toNat, 8), (b.toNat, 2), (f.toNat, 1), (h.toNat, 0)]
  | .vabsF g d a f => place 0x10000000 [(g.toNat, 20), (d.toNat, 14), (a.toNat, 8), (f.toNat, 1)]
  | .vnegF g d a f => place 0x12000000 [(g.toNat, 20), (d.toNat, 14), (a.toNat, 8), (f.toNat, 1)]
  | .vrcpF g d a f => place 0x14000000 [(g.toNat, 20), (d.toNat, 14), (a.toNat, 8), (f.toNat, 1)]
  | .vrsqF g d a f => place 0x16000000 [(g.toNat, 20), (d.toNat, 14), (a.toNat, 8), (f.toNat, 1)]
  | .vexp2F g d a f => place 0x18000000 [(g.toNat, 20), (d.toNat, 14), (a.toNat, 8), (f.toNat, 1)]
  | .vlog2F g d a f => place 0x1a000000 [(g.toNat, 20), (d.toNat, 14), (a.toNat, 8), (f.toNat, 1)]
  | .vcmpeqF g d a b f h => place 0x1c000000 [(g.toNat, 20), (d.toNat, 14), (a.toNat, 8), (b.toNat, 2), (f.toNat, 1), (h.toNat, 0)]
  | .vcmpltF g d a b f h => place 0x1e000000 [(g.toNat, 20), (d.toNat, 14), (a.toNat, 8), (b.toNat, 2), (f.toNat, 1), (h.toNat, 0)]
  | .vcmpleF g d a b f h => place 0x20000000 [(g.toNat, 20), (d.toNat, 14), (a.toNat, 8), (b.toNat, 2), (f.toNat, 1), (h.toNat, 0)]
  | .vaddI g d a b f h => place 0x30000000 [(g.toNat, 20), (d.toNat, 14), (a.toNat, 8), (b.toNat, 2), (f.toNat, 1), (h.toNat, 0)]
  | .vsubI g d a b f h => place 0x32000000 [(g.toNat, 20), (d.toNat, 14), (a.toNat, 8), (b.toNat, 2), (f.toNat, 1), (h.toNat, 0)]
  | .vmulI g d a b f h => place 0x34000000 [(g.toNat, 20), (d.toNat, 14), (a.toNat, 8), (b.toNat, 2), (f.toNat, 1), (h.toNat, 0)]
  | .vminI g d a b f h => place 0x36000000 [(g.toNat, 20), (d.toNat, 14), (a.toNat, 8), (b.toNat, 2), (f.toNat, 1), (h.toNat, 0)]
  | .vmaxI g d a b f h => place 0x38000000 [(g.toNat, 20), (d.toNat, 14), (a.toNat, 8), (b.toNat, 2), (f.toNat, 1), (h.toNat, 0)]
  | .vand g d a b f h => place 0x3a000000 [(g.toNat, 20), (d.toNat, 14), (a.toNat, 8), (b.toNat, 2), (f.toNat, 1), (h.toNat, 0)]
  | .vor g d a b f h => place 0x3c000000 [(g.toNat, 20), (d.toNat, 14), (a.toNat, 8), (b.toNat, 2), (f.toNat, 1), (h.toNat, 0)]
  | .vxor g d a b f h => place 0x3e000000 [(g.toNat, 20), (d.toNat, 14), (a.toNat, 8), (b.toNat, 2), (f.toNat, 1), (h.toNat, 0)]
  | .vshl g d a b f h => place 0x40000000 [(g.toNat, 20), (d.toNat, 14), (a.toNat, 8), (b.toNat, 2), (f.toNat, 1), (h.toNat, 0)]
  | .vshr g d a b f h => place 0x42000000 [(g.toNat, 20), (d.toNat, 14), (a.toNat, 8), (b.toNat, 2), (f.toNat, 1), (h.toNat, 0)]
  | .vsar g d a b f h => place 0x44000000 [(g.toNat, 20), (d.toNat, 14), (a.toNat, 8), (b.toNat, 2), (f.toNat, 1), (h.toNat, 0)]
  | .vcmpeqI g d a b f h => place 0x46000000 [(g.toNat, 20), (d.toNat, 14), (a.toNat, 8), (b.toNat, 2), (f.toNat, 1), (h.toNat, 0)]
  | .vcmpltI g d a b f h => place 0x48000000 [(g.toNat, 20), (d.toNat, 14), (a.toNat, 8), (b.toNat, 2), (f.toNat, 1), (h.toNat, 0)]
  | .vcvtFi g d a f => place 0x50000000 [(g.toNat, 20), (d.toNat, 14), (a.toNat, 8), (f.toNat, 1)]
  | .vcvtIf g d a f => place 0x52000000 [(g.toNat, 20), (d.toNat, 14), (a.toNat, 8), (f.toNat, 1)]
  | .vpkbf g d a b f h => place 0x54000000 [(g.toNat, 20), (d.toNat, 14), (a.toNat, 8), (b.toNat, 2), (f.toNat, 1), (h.toNat, 0)]
  | .vunbf g d a k f => place 0x56000000 [(g.toNat, 20), (d.toNat, 14), (a.toNat, 8), (k.toNat, 2), (f.toNat, 1)]
  | .vcvtn g d a n f => place 0x58000000 [(g.toNat, 20), (d.toNat, 14), (a.toNat, 8), (n.toNat, 2), (f.toNat, 1)]
  | .vcvtw g d a n f => place 0x5a000000 [(g.toNat, 20), (d.toNat, 14), (a.toNat, 8), (n.toNat, 2), (f.toNat, 1)]
  | .vmov g d a f => place 0x60000000 [(g.toNat, 20), (d.toNat, 14), (a.toNat, 8), (f.toNat, 1)]
  | .vsel g d a b f h => place 0x63000000 [(g.toNat, 20), (d.toNat, 14), (a.toNat, 8), (b.toNat, 2), (f.toNat, 1), (h.toNat, 0)]
  | .vbca g d a f => place 0x64000000 [(g.toNat, 20), (d.toNat, 14), (a.toNat, 8), (f.toNat, 1)]
  | .vbck g d a f => place 0x66000000 [(g.toNat, 20), (d.toNat, 14), (a.toNat, 8), (f.toNat, 1)]
  | .vperm g d a b f h => place 0x68000000 [(g.toNat, 20), (d.toNat, 14), (a.toNat, 8), (b.toNat, 2), (f.toNat, 1), (h.toNat, 0)]
  | .vext g d a n f => place 0x6a000000 [(g.toNat, 20), (d.toNat, 14), (a.toNat, 8), (n.toNat, 2), (f.toNat, 1)]
  | .vins g d a n f => place 0x6c000000 [(g.toNat, 20), (d.toNat, 14), (a.toNat, 8), (n.toNat, 2), (f.toNat, 1)]
  | .viota g d => place 0x6e000000 [(g.toNat, 20), (d.toNat, 14)]
  | .vsumx g d a f => place 0x70000000 [(g.toNat, 20), (d.toNat, 14), (a.toNat, 8), (f.toNat, 1)]
  | .vmaxr g d a f => place 0x72000000 [(g.toNat, 20), (d.toNat, 14), (a.toNat, 8), (f.toNat, 1)]
  | .vminr g d a f => place 0x74000000 [(g.toNat, 20), (d.toNat, 14), (a.toNat, 8), (f.toNat, 1)]
  | .vsumi g d a f => place 0x76000000 [(g.toNat, 20), (d.toNat, 14), (a.toNat, 8), (f.toNat, 1)]
  | .nopIvl => place 0x0 []
  | .qadd g d a b => place 0x2000000 [(g.toNat, 20), (d.toNat, 15), (a.toNat, 10), (b.toNat, 5)]
  | .qsub g d a b => place 0x4000000 [(g.toNat, 20), (d.toNat, 15), (a.toNat, 10), (b.toNat, 5)]
  | .qmul g d a b => place 0x6000000 [(g.toNat, 20), (d.toNat, 15), (a.toNat, 10), (b.toNat, 5)]
  | .qfma g d a b c => place 0x8000000 [(g.toNat, 20), (d.toNat, 15), (a.toNat, 10), (b.toNat, 5), (c.toNat, 0)]
  | .qdiv g d a b => place 0xa000000 [(g.toNat, 20), (d.toNat, 15), (a.toNat, 10), (b.toNat, 5)]
  | .qsqr g d a => place 0xc000000 [(g.toNat, 20), (d.toNat, 15), (a.toNat, 10)]
  | .qsqrt g d a => place 0xe000000 [(g.toNat, 20), (d.toNat, 15), (a.toNat, 10)]
  | .qrelu g d a => place 0x10000000 [(g.toNat, 20), (d.toNat, 15), (a.toNat, 10)]
  | .qmax g d a b => place 0x12000000 [(g.toNat, 20), (d.toNat, 15), (a.toNat, 10), (b.toNat, 5)]
  | .qmin g d a b => place 0x14000000 [(g.toNat, 20), (d.toNat, 15), (a.toNat, 10), (b.toNat, 5)]
  | .qneg g d a => place 0x16000000 [(g.toNat, 20), (d.toNat, 15), (a.toNat, 10)]
  | .qabs g d a => place 0x18000000 [(g.toNat, 20), (d.toNat, 15), (a.toNat, 10)]
  | .qexp g d a => place 0x1a000000 [(g.toNat, 20), (d.toNat, 15), (a.toNat, 10)]
  | .qmeet g d a b => place 0x20000000 [(g.toNat, 20), (d.toNat, 15), (a.toNat, 10), (b.toNat, 5)]
  | .qhull g d a b => place 0x22000000 [(g.toNat, 20), (d.toNat, 15), (a.toNat, 10), (b.toNat, 5)]
  | .qmid g d a => place 0x24000000 [(g.toNat, 20), (d.toNat, 15), (a.toNat, 10)]
  | .qwid g d a => place 0x26000000 [(g.toNat, 20), (d.toNat, 15), (a.toNat, 10)]
  | .qbis g d a => place 0x28000000 [(g.toNat, 20), (d.toNat, 15), (a.toNat, 10)]
  | .qmake g d a b h => place 0x30000000 [(g.toNat, 20), (d.toNat, 15), (a.toNat, 10), (b.toNat, 5), (h.toNat, 0)]
  | .qpoint g d a h => place 0x32000000 [(g.toNat, 20), (d.toNat, 15), (a.toNat, 10), (h.toNat, 0)]
  | .qlo g d a h => place 0x34000000 [(g.toNat, 20), (d.toNat, 15), (a.toNat, 10), (h.toNat, 0)]
  | .qhi g d a h => place 0x36000000 [(g.toNat, 20), (d.toNat, 15), (a.toNat, 10), (h.toNat, 0)]
  | .qent g d => place 0x38000000 [(g.toNat, 20), (d.toNat, 15)]
  | .qemp g d => place 0x3a000000 [(g.toNat, 20), (d.toNat, 15)]
  | .qbca g d a => place 0x3c000000 [(g.toNat, 20), (d.toNat, 15), (a.toNat, 10)]
  | .qcmp g d a b c => place 0x40000000 [(g.toNat, 20), (d.toNat, 15), (a.toNat, 10), (b.toNat, 5), (c.toNat, 0)]
  | .qtest g d a b c => place 0x42000000 [(g.toNat, 20), (d.toNat, 15), (a.toNat, 10), (b.toNat, 5), (c.toNat, 0)]
  | .qaddC g d a b => place 0x50000000 [(g.toNat, 20), (d.toNat, 15), (a.toNat, 10), (b.toNat, 5)]
  | .qsubC g d a b => place 0x52000000 [(g.toNat, 20), (d.toNat, 15), (a.toNat, 10), (b.toNat, 5)]
  | .qmulC g d a b => place 0x54000000 [(g.toNat, 20), (d.toNat, 15), (a.toNat, 10), (b.toNat, 5)]
  | .qfmaC g d a b c => place 0x56000000 [(g.toNat, 20), (d.toNat, 15), (a.toNat, 10), (b.toNat, 5), (c.toNat, 0)]
  | .qsqrC g d a => place 0x58000000 [(g.toNat, 20), (d.toNat, 15), (a.toNat, 10)]
  | .qreluC g d a => place 0x5a000000 [(g.toNat, 20), (d.toNat, 15), (a.toNat, 10)]
  | .qmaxC g d a b => place 0x5c000000 [(g.toNat, 20), (d.toNat, 15), (a.toNat, 10), (b.toNat, 5)]
  | .qexpC g d a => place 0x5e000000 [(g.toNat, 20), (d.toNat, 15), (a.toNat, 10)]
  | .qleC g a b => place 0x60000000 [(g.toNat, 20), (a.toNat, 10), (b.toNat, 5)]
  | .qstat g d c => place 0x70000000 [(g.toNat, 20), (d.toNat, 15), (c.toNat, 0)]
  | .nopMem => place 0x0 []
  | .ldsV g r b f => place 0x4000000 [(g.toNat, 22), (r.toNat, 16), (b.toNat, 11), (f.toNat, 0)]
  | .stsV g r b f => place 0x8000000 [(g.toNat, 22), (r.toNat, 16), (b.toNat, 11), (f.toNat, 0)]
  | .ldsQ g r b f => place 0xc000000 [(g.toNat, 22), (r.toNat, 16), (b.toNat, 11), (f.toNat, 0)]
  | .stsQ g r b f => place 0x10000000 [(g.toNat, 22), (r.toNat, 16), (b.toNat, 11), (f.toNat, 0)]
  | .ldsK g r b f => place 0x14000000 [(g.toNat, 22), (r.toNat, 16), (b.toNat, 11), (f.toNat, 0)]
  | .stsK g r b f => place 0x18000000 [(g.toNat, 22), (r.toNat, 16), (b.toNat, 11), (f.toNat, 0)]
  | .ldsA g r b f => place 0x1c000000 [(g.toNat, 22), (r.toNat, 16), (b.toNat, 11), (f.toNat, 0)]
  | .stsA g r b f => place 0x20000000 [(g.toNat, 22), (r.toNat, 16), (b.toNat, 11), (f.toNat, 0)]
  | .ldsVx g r b i => place 0x24000000 [(g.toNat, 22), (r.toNat, 16), (b.toNat, 11), (i.toNat, 5)]
  | .stsVx g r b i => place 0x28000000 [(g.toNat, 22), (r.toNat, 16), (b.toNat, 11), (i.toNat, 5)]
  | .ldgA g r b o f => place 0x40000000 [(g.toNat, 22), (r.toNat, 16), (b.toNat, 11), (o.toNat, 8), (f.toNat, 0)]
  | .stgA g r b o f => place 0x44000000 [(g.toNat, 22), (r.toNat, 16), (b.toNat, 11), (o.toNat, 8), (f.toNat, 0)]
  | .ldgV g r b o f => place 0x48000000 [(g.toNat, 22), (r.toNat, 16), (b.toNat, 11), (o.toNat, 8), (f.toNat, 0)]
  | .stgV g r b o f => place 0x4c000000 [(g.toNat, 22), (r.toNat, 16), (b.toNat, 11), (o.toNat, 8), (f.toNat, 0)]
  | .ldgK g r b o f => place 0x50000000 [(g.toNat, 22), (r.toNat, 16), (b.toNat, 11), (o.toNat, 8), (f.toNat, 1)]
  | .ldgKN g r b o f => place 0x50000001 [(g.toNat, 22), (r.toNat, 16), (b.toNat, 11), (o.toNat, 8), (f.toNat, 1)]
  | .aadd g d b s o => place 0x60000000 [(g.toNat, 22), (d.toNat, 17), (b.toNat, 12), (s.toNat, 7), (o.toNat, 4)]
  | .amax g d b s o => place 0x64000000 [(g.toNat, 22), (d.toNat, 17), (b.toNat, 12), (s.toNat, 7), (o.toNat, 4)]
  | .amin g d b s o => place 0x68000000 [(g.toNat, 22), (d.toNat, 17), (b.toNat, 12), (s.toNat, 7), (o.toNat, 4)]
  | .axch g d b s o => place 0x6c000000 [(g.toNat, 22), (d.toNat, 17), (b.toNat, 12), (s.toNat, 7), (o.toNat, 4)]
  | .acas g d b s o => place 0x70000000 [(g.toNat, 22), (d.toNat, 17), (b.toNat, 12), (s.toNat, 7), (o.toNat, 4)]
  | .amaxf g d b s o => place 0x74000000 [(g.toNat, 22), (d.toNat, 17), (b.toNat, 12), (s.toNat, 7), (o.toNat, 4)]
  | .amaxrst g d b o => place 0x78000000 [(g.toNat, 22), (d.toNat, 17), (b.toNat, 12), (o.toNat, 4)]
  | .xadd g b s => place 0x80000000 [(g.toNat, 22), (b.toNat, 12), (s.toNat, 7)]
  | .xaddv g b s => place 0x84000000 [(g.toNat, 22), (b.toNat, 12), (s.toNat, 6)]
  | .xrd g d b m => place 0x88000000 [(g.toNat, 22), (d.toNat, 17), (b.toNat, 12), (m.toNat, 10)]
  | .xrdv g d b m => place 0x8c000000 [(g.toNat, 22), (d.toNat, 16), (b.toNat, 11), (m.toNat, 9)]
  | .xclr g b c => place 0x90000000 [(g.toNat, 22), (b.toNat, 12), (c.toNat, 5)]
  | .fenceAcq g s => place 0xa0000000 [(g.toNat, 22), (s.toNat, 0)]
  | .fenceRel g s => place 0xa0000008 [(g.toNat, 22), (s.toNat, 0)]
  | .fenceFull g s => place 0xa0000010 [(g.toNat, 22), (s.toNat, 0)]
  | .push g q s => place 0xc0000000 [(g.toNat, 22), (q.toNat, 16), (s.toNat, 11)]
  | .pusht g q s t => place 0xc4000000 [(g.toNat, 22), (q.toNat, 16), (s.toNat, 11), (t.toNat, 6)]
  | .pushqw g q s w => place 0xc8000000 [(g.toNat, 22), (q.toNat, 16), (s.toNat, 11), (w.toNat, 6)]
  | .pop g q d => place 0xcc000000 [(g.toNat, 22), (q.toNat, 16), (d.toNat, 11)]
  | .pushr g q r => place 0xd0000000 [(g.toNat, 22), (q.toNat, 16), (r.toNat, 11)]
  | .popr g q r => place 0xd4000000 [(g.toNat, 22), (q.toNat, 16), (r.toNat, 11)]
  | .cbinv g b => place 0xe0000000 [(g.toNat, 22), (b.toNat, 12)]
  | .nopMtx => place 0x0 []
  | .claim o f => place 0x4000000 [(o.toNat, 14), (f.toNat, 10)]
  | .release o => place 0x8000000 [(o.toNat, 14)]
  | .ldw n o r => place 0xc000000 [(n.toNat, 19), (o.toNat, 14), (r.toNat, 5)]
  | .swpw => place 0x10000000 []
  | .acc n o r m => place 0x14000000 [(n.toNat, 19), (o.toNat, 14), (r.toNat, 5), (m.toNat, 3)]
  | .accz n o r m => place 0x18000000 [(n.toNat, 19), (o.toNat, 14), (r.toNat, 5), (m.toNat, 3)]
  | .drain n f r m e => place 0x1c000000 [(n.toNat, 19), (f.toNat, 14), (r.toNat, 5), (m.toNat, 3), (e.toNat, 2)]
  | .drainF32 n r e => place 0x1c000002 [(n.toNat, 19), (r.toNat, 5), (e.toNat, 2)]
  | .nopCpy => place 0x0 []
  | .cg2s t d s l => place 0x8000000 [(t.toNat, 21), (d.toNat, 16), (s.toNat, 11), (l.toNat, 6)]
  | .cg2sDc d s l => place 0x8000001 [(d.toNat, 16), (s.toNat, 11), (l.toNat, 6)]
  | .cs2g t d s l => place 0x10000000 [(t.toNat, 21), (d.toNat, 16), (s.toNat, 11), (l.toNat, 6)]
  | .cs2gDc d s l => place 0x10000001 [(d.toNat, 16), (s.toNat, 11), (l.toNat, 6)]
  | .cg2o ⟨f, t⟩ d s l => place 0x18000000 [(f.toNat, 0), (t.toNat, 21), (d.toNat, 16), (s.toNat, 11), (l.toNat, 6)]
  | .cs2o ⟨f, t⟩ d s l => place 0x20000000 [(f.toNat, 0), (t.toNat, 21), (d.toNat, 16), (s.toNat, 11), (l.toNat, 6)]
  | .cg2g t d s l => place 0x28000000 [(t.toNat, 21), (d.toNat, 16), (s.toNat, 11), (l.toNat, 6)]
  | .cg2gDc d s l => place 0x28000001 [(d.toNat, 16), (s.toNat, 11), (l.toNat, 6)]
  | .cxred t d s l => place 0x30000000 [(t.toNat, 21), (d.toNat, 16), (s.toNat, 11), (l.toNat, 6)]
  | .cxredDc d s l => place 0x30000001 [(d.toNat, 16), (s.toNat, 11), (l.toNat, 6)]
  | .tset t l => place 0x38000000 [(t.toNat, 21), (l.toNat, 6)]
  | .tdrain t l => place 0x40000000 [(t.toNat, 21), (l.toNat, 6)]
  | .gidx s => place 0x48000000 [(s.toNat, 11)]
  | .gather t d s l => place 0x50000000 [(t.toNat, 21), (d.toNat, 16), (s.toNat, 11), (l.toNat, 6)]
  | .gend => place 0x58000000 []
  | .loadLanding _ _ => 0
  | .writeDrained _ _ => 0
  | .divRemWrite _ _ => 0
  | .scatterGatherDone _ _ => 0
  | .copySectorLands _ _ _ => 0
  | .gatherRowLands _ _ => 0
  | .pageWalk _ _ _ => 0
  | .pageResponse _ _ _ _ => 0
  | .overlayLoaded _ => 0
  | .overlayPrefetch _ _ => 0
  | .park _ => 0
  | .budgetovr _ => 0
  | .barrierRestart _ => 0
  | .enginesEmpty _ => 0
  | .dispatch _ => 0
  | .gangDispatch _ _ => 0
  | .spawnAcceptance _ => 0
  | .queueDelivery _ _ => 0
  | .entryReturn _ _ => 0
  | .hearthQnew _ => 0
  | .hearthBorrow _ => 0
  | .hearthReturn _ => 0
  | .hearthQwait _ => 0
  | .queueWindowWrite _ _ _ => 0
  | .bindpasid _ => 0
  | .preempt _ => 0
  | .preemptHalt _ => 0
  | .preemptCompletion => 0
  | .inval _ => 0
  | .qmode _ => 0
  | .descinv _ => 0
  | .temper _ => 0
  | .route _ => 0
  | .attest _ => 0
  | .fring _ => 0
  | .kill _ => 0
  | .reset _ => 0
  | .elog _ => 0
  | .badcmd _ => 0
  | .frp _ => 0
  | .erp _ => 0
  | .registerWrite _ _ => 0
  | .dstat _ _ => 0
  | .debugStopRequest _ => 0
  | .debugResume _ => 0
  | .debuggerRegisterWrite _ _ _ => 0
  | .debugMemoryAccess _ _ => 0
  | .sampleRecord _ => 0
  | .spdmRequest _ => 0
  | .hostMemoryAccess _ _ => 0
  | .peerRequest _ _ => 0
  | .boot => 0
  | .functionLevelReset => 0
  | .temperTick => 0
  | .boostStep _ => 0
  | .patrolScrub _ _ => 0
  | .flitCrcRetry _ => 0
  | .linkRetrain _ => 0
  | .portDown _ => 0
  | .portUp _ => 0
  | .registerStateLost _ => 0
  | .coreLogicError _ => 0
  | .fabricError _ => 0
  | .unassignedEncoding _ _ _ => 0
  | .evictionCompletes _ => 0
  | .imageRestored _ => 0

/-- The eight slot words of a bundle (R108), each little-endian (R4): slot n is the word at byte 4n. -/
def bundleWord (bytes : List Byte) (n : Nat) : Nat :=
  (bytes.getD (4 * n) 0).toNat + (bytes.getD (4 * n + 1) 0).toNat * 2 ^ 8 +
  (bytes.getD (4 * n + 2) 0).toNat * 2 ^ 16 + (bytes.getD (4 * n + 3) 0).toNat * 2 ^ 24

/-- The four bytes of a slot word, lowest address first (R4, R108). -/
def wordBytes (w : Nat) : List Byte :=
  [BitVec.ofNat 8 w, BitVec.ofNat 8 (w / 2 ^ 8), BitVec.ofNat 8 (w / 2 ^ 16), BitVec.ofNat 8 (w / 2 ^ 24)]

end Sys2Proof
end

