-- ==== Sys2Proof/Machine/Bits.lean ====
section
/-! DEFINITION. Byte order, lanes and sign extension (R4, R63, R194, R205): the one place where wider values are put
together from bytes and lanes. -/

namespace Sys2Proof.Machine

/-- The number a list of bytes holds, lowest address first (R4). -/
def leNat : List Byte → Nat
  | [] => 0
  | b :: t => b.toNat + 256 * leNat t

/-- The n bytes of a number, lowest address first (R4). -/
def leBytes : Nat → Nat → List Byte
  | 0, _ => []
  | n + 1, x => BitVec.ofNat 8 x :: leBytes n (x / 256)

/-- n values of w bits packed, value i at bits [wi + w - 1 : wi]. -/
def packNat (w : Nat) (f : Nat → Nat) : Nat → Nat
  | 0 => 0
  | n + 1 => packNat w f n + f n * 2 ^ (w * n)

/-- Lane i of a v register (R194). -/
def laneV (x : VecV) (i : Nat) : W32 := x.extractLsb' (32 * i) 32

/-- Lane i of a q register (R99, R113). -/
def laneQ (x : VecV) (i : Nat) : W64 := x.extractLsb' (64 * i) 64

/-- A v register from its lanes. -/
def mkV (f : Nat → W32) : VecV := BitVec.ofNat 2048 (packNat 32 (fun i => (f i).toNat) 64)

/-- A q register from its lanes. -/
def mkQ (f : Nat → W64) : VecV := BitVec.ofNat 2048 (packNat 64 (fun i => (f i).toNat) 32)

/-- Bit i of a word. -/
def bitOf {n : Nat} (x : BitVec n) (i : Nat) : Bool := x.getLsbD i

/-- A mask of n bits from a test of each bit. -/
def mkMask (n : Nat) (f : Nat → Bool) : BitVec n := BitVec.ofNat n (packNat 1 (fun i => if f i then 1 else 0) n)

/-- New lanes where the mask is set, old lanes elsewhere (R115, R195). -/
def mergeV (lanes : W64) (old new : VecV) : VecV := mkV fun i => if bitOf lanes i then laneV new i else laneV old i

/-- As mergeV, for the 32 lanes of a q register (R113). -/
def mergeQ (lanes : W32) (old new : VecV) : VecV := mkQ fun i => if bitOf lanes i then laneQ new i else laneQ old i

/-- Sign extension of a narrower field to 64 bits (R181). -/
def sext64 {n : Nat} (x : BitVec n) : W64 := x.signExtend 64

/-- Zero extension to 64 bits. -/
def zext64 {n : Nat} (x : BitVec n) : W64 := x.zeroExtend 64

/-- The low 32 bits of a 64-bit word. -/
def low32 (x : W64) : W32 := x.extractLsb' 0 32

/-- The number of set bits among the low n bits. -/
def countOnes {w : Nat} (x : BitVec w) : Nat → Nat
  | 0 => 0
  | n + 1 => countOnes x n + if bitOf x n then 1 else 0

/-- The index of the lowest set bit from i on, or i + fuel when none is set. -/
def lowestSet {w : Nat} (x : BitVec w) : Nat → Nat → Nat
  | 0, i => i
  | fuel + 1, i => if bitOf x i then i else lowestSet x fuel (i + 1)

/-- The field [lo + n - 1 : lo] of a 512-bit record at a byte offset (R4, R23). -/
def recField (r : BitVec 512) (byte n : Nat) : BitVec n := r.extractLsb' (8 * byte) n

/-- A record with a field of n bits replaced at a byte offset. -/
def recSet (r : BitVec 512) (byte n : Nat) (x : Nat) : BitVec 512 :=
  BitVec.ofNat 512 (r.toNat - (r.toNat / 2 ^ (8 * byte) % 2 ^ n) * 2 ^ (8 * byte) + (x % 2 ^ n) * 2 ^ (8 * byte))

/-- Whether p holds for some i below n. -/
def anyBelow (p : Nat → Bool) : Nat → Bool
  | 0 => false
  | n + 1 => p n || anyBelow p n

/-- Whether p holds for every i below n. -/
def allBelow (p : Nat → Bool) : Nat → Bool
  | 0 => true
  | n + 1 => p n && allBelow p n

end Sys2Proof.Machine
end

