-- ==== Sys2Proof/Machine/Sets.lean ====
section
/-! DEFINITION. Finite sets of integers for the domain unit (R81 to R87): runs of consecutive integers, arithmetic
progressions, and sets given by bounds and a membership test. -/

namespace Sys2Proof.Machine

/-- A set as disjoint runs [lo, hi], rising and not adjacent. -/
abbrev Runs := List (Int × Int)

/-- Adds the run [l, h]. -/
def Runs.add (l h : Int) : Runs → Runs
  | [] => [(l, h)]
  | (a, b) :: t =>
    if h + 1 < a then (l, h) :: (a, b) :: t
    else if b + 1 < l then (a, b) :: Runs.add l h t
    else Runs.add (min l a) (max h b) t

/-- The union of a list of runs in any order; an empty run (lo above hi) adds nothing. -/
def Runs.of (rs : List (Int × Int)) : Runs := rs.foldl (fun acc r => if r.1 ≤ r.2 then acc.add r.1 r.2 else acc) []

/-- Membership. -/
def Runs.mem (x : Int) (rs : Runs) : Bool := rs.any fun r => r.1 ≤ x && x ≤ r.2

/-- The smallest member. -/
def Runs.min? (rs : Runs) : Option Int := rs.head?.map (·.1)

/-- The largest member. -/
def Runs.max? (rs : Runs) : Option Int := rs.getLast?.map (·.2)

/-- The number of members. -/
def Runs.card (rs : Runs) : Nat := (rs.foldl (fun n r => n + (r.2 - r.1 + 1)) (0 : Int)).toNat

/-- Intersection. -/
def Runs.inter (xs ys : Runs) : Runs :=
  Runs.of (xs.flatMap fun x => ys.map fun y => (max x.1 y.1, min x.2 y.2))

/-- Union. -/
def Runs.union (xs ys : Runs) : Runs := Runs.of (xs ++ ys)

/-- {x + y}. -/
def Runs.sum (xs ys : Runs) : Runs := Runs.of (xs.flatMap fun x => ys.map fun y => (x.1 + y.1, x.2 + y.2))

/-- {-x}. -/
def Runs.neg (xs : Runs) : Runs := Runs.of (xs.map fun x => (-x.2, -x.1))

/-- {min(x, y)}. -/
def Runs.minSet (xs ys : Runs) : Runs :=
  Runs.of (xs.flatMap fun x => ys.map fun y => (min x.1 y.1, min x.2 y.2))

/-- {|x|}. -/
def Runs.abs (xs : Runs) : Runs :=
  Runs.of (xs.flatMap fun x => [(max x.1 0, x.2), (max (-x.2) 0, -x.1)])

/-- The members that are at least l. -/
def Runs.above (l : Int) (xs : Runs) : Runs := Runs.of (xs.map fun x => (max x.1 l, x.2))

/-- The members that are at most h. -/
def Runs.below (h : Int) (xs : Runs) : Runs := Runs.of (xs.map fun x => (x.1, min x.2 h))

/-- The members other than v. -/
def Runs.without (v : Int) (xs : Runs) : Runs :=
  Runs.of (xs.flatMap fun x => [(x.1, min x.2 (v - 1)), (max x.1 (v + 1), x.2)])

/-- The members of a run in rising order, at most fuel of them. -/
def runMembers : Nat → Int → Int → List Int
  | 0, _, _ => []
  | n + 1, l, h => if l ≤ h then l :: runMembers n (l + 1) h else []

/-- Every member, in rising order. -/
def Runs.members (xs : Runs) : List Int := xs.flatMap fun r => runMembers (r.2 - r.1 + 1).toNat r.1 r.2

/-- A set to take a hull of: bounds within which its members lie, and membership. -/
structure PSet where
  lo : Int
  hi : Int
  mem : Int → Bool

/-- The empty set. -/
def PSet.empty : PSet := { lo := 0, hi := -1, mem := fun _ => false }

/-- A set of runs. -/
def PSet.ofRuns (rs : Runs) : PSet :=
  match rs.min?, rs.max? with
  | some l, some h => { lo := l, hi := h, mem := fun x => rs.mem x }
  | _, _ => PSet.empty

/-- Intersection. -/
def PSet.inter (x y : PSet) : PSet :=
  { lo := max x.lo y.lo, hi := min x.hi y.hi, mem := fun v => x.mem v && y.mem v }

/-- The first of x, x + 1, … that p accepts, among fuel of them. -/
def findUp (p : Int → Bool) : Nat → Int → Option Int
  | 0, _ => none
  | n + 1, x => if p x then some x else findUp p n (x + 1)

/-- The first of x, x - 1, … that p accepts, among fuel of them. -/
def findDown (p : Int → Bool) : Nat → Int → Option Int
  | 0, _ => none
  | n + 1, x => if p x then some x else findDown p n (x - 1)

/-- The smallest member. -/
def PSet.min? (s : PSet) : Option Int := findUp s.mem (s.hi - s.lo + 1).toNat s.lo

/-- The largest member. -/
def PSet.max? (s : PSet) : Option Int := findDown s.mem (s.hi - s.lo + 1).toNat s.hi

/-- The integer square root by bits from 2^(k-1) down. -/
def isqrtFrom (n : Nat) : Nat → Nat → Nat
  | 0, acc => acc
  | k + 1, acc => if (acc + 2 ^ k) * (acc + 2 ^ k) ≤ n then isqrtFrom n k (acc + 2 ^ k) else isqrtFrom n k acc

/-- floor(√n). -/
def isqrt (n : Nat) : Nat := isqrtFrom n (Nat.log2 n / 2 + 1) 0

/-- An arithmetic progression lo, lo + step, …, up to hi at most. -/
structure AP where
  lo : Int
  hi : Int
  step : Int
  deriving DecidableEq, Repr

/-- Membership in a progression. -/
def AP.mem (p : AP) (x : Int) : Bool := p.lo ≤ x && x ≤ p.hi && (x - p.lo) % p.step == 0

/-- The last term. -/
def AP.last (p : AP) : Int := p.lo + (p.hi - p.lo) / p.step * p.step

/-- A union of progressions. -/
def PSet.ofAPs (ps : List AP) : PSet :=
  let qs := ps.filter fun p => p.lo ≤ p.hi
  match qs with
  | [] => PSet.empty
  | p :: t =>
    { lo := t.foldl (fun m q => min m q.lo) p.lo, hi := t.foldl (fun m q => max m q.last) p.last,
      mem := fun x => qs.any fun q => q.mem x }

/-- The value of [-2^31, 2^31 - 1] congruent to z modulo 2^32 (R84). -/
def wrap32 (z : Int) : Int := (z + 2 ^ 31) % 2 ^ 32 - 2 ^ 31

/-- The part of a progression within block k of 2^32 values, wrapped (R84). -/
def AP.block (p : AP) (k : Int) : AP :=
  let b := k * 2 ^ 32 - 2 ^ 31
  let first := if p.lo ≥ b then p.lo else p.lo + (b - p.lo + p.step - 1) / p.step * p.step
  { lo := first - k * 2 ^ 32, hi := min p.hi (b + 2 ^ 32 - 1) - k * 2 ^ 32, step := p.step }

/-- The wrapped image of a progression, block by block. -/
def AP.wrapFrom (p : AP) : Nat → Int → List AP
  | 0, _ => []
  | n + 1, k => p.block k :: AP.wrapFrom p n (k + 1)

/-- The wrapped image of a progression (R84). -/
def AP.wrap (p : AP) : List AP :=
  if p.hi < p.lo then [] else
  let k0 := (p.lo + 2 ^ 31) / 2 ^ 32
  let k1 := (p.hi + 2 ^ 31) / 2 ^ 32
  AP.wrapFrom p (k1 - k0 + 1).toNat k0

end Sys2Proof.Machine
end

