-- ==== Sys2Proof/Machine/Real.lean ====
section
/-! DEFINITION. Exact values and their rounding (R7, R89, R90): magnitudes as n / d * 2^e, one rounding step for every
binary format, FP32 and BF16 patterns. -/

namespace Sys2Proof.Machine

/-- The rounding codes of R90. -/
inductive Rm where
  | rne | rdn | rup | rtz
  deriving DecidableEq, Repr

/-- The mode of a 2-bit rounding code (R90). -/
def rmOf (c : BitVec 2) : Rm :=
  if c = 0 then .rne else if c = 1 then .rdn else if c = 2 then .rup else .rtz

/-- A floating-point value: NaN with its payload [21:0], an infinity, or a signed magnitude m * 2^e (R89, R91). -/
inductive FVal where
  | nan (payload : Nat)
  | inf (neg : Bool)
  | fin (neg : Bool) (m : Nat) (e : Int)
  deriving DecidableEq, Repr

/-- floor(log2(n / d)) for n, d > 0. -/
def floorLog (n d : Nat) : Int :=
  let l : Int := (Nat.log2 n : Int) - (Nat.log2 d : Int)
  if (if 0 ≤ l then d * 2 ^ l.toNat ≤ n else d ≤ n * 2 ^ (-l).toNat) then l else l - 1

/-- Whether a quotient q with remainder r over d is rounded away from zero (R90). -/
def roundsAway (rm : Rm) (neg : Bool) (q r d : Nat) : Bool :=
  match rm with
  | .rne => 2 * r > d || (2 * r == d && q % 2 == 1)
  | .rdn => neg && r > 0
  | .rup => !neg && r > 0
  | .rtz => false

/-- n / d * 2^e in units of 2^u, rounded to an integer. -/
def roundUnits (rm : Rm) (neg : Bool) (n d : Nat) (e u : Int) : Nat :=
  let num := if u ≤ e then n * 2 ^ (e - u).toNat else n
  let den := if u ≤ e then d else d * 2 ^ (u - e).toNat
  let q := num / den
  if roundsAway rm neg q (num % den) den then q + 1 else q

/-- The unit in which a magnitude is rounded to p significand bits, not below 2^umin. -/
def unitOf (n d : Nat) (e : Int) (p : Nat) (umin : Int) : Int := max (floorLog n d + e - (p - 1 : Nat)) umin

/-- The magnitude code of n / d * 2^e in a binary format with p significand bits and least unit 2^umin: the exponent
field and the fraction as one number, exponent range unbounded above. -/
def magCode (rm : Rm) (neg : Bool) (n d : Nat) (e : Int) (p : Nat) (umin : Int) : Nat :=
  if n = 0 then 0
  else
    let u := unitOf n d e p umin
    (u - umin).toNat * 2 ^ (p - 1) + roundUnits rm neg n d e u

/-- Whether an overflowing result goes to infinity rather than to the largest finite value (R90, R105). -/
def overflowsToInf (rm : Rm) (neg : Bool) : Bool :=
  match rm with
  | .rne => true
  | .rdn => neg
  | .rup => !neg
  | .rtz => false

/-- The FP32 pattern of a signed exact magnitude, and whether it overflowed (R89, R90). -/
def packF32 (rm : Rm) (neg : Bool) (n d : Nat) (e : Int) : W32 × Bool :=
  let c := magCode rm neg n d e 24 (-149)
  let s : Nat := if neg then 2 ^ 31 else 0
  if c < 0x7F800000 then (BitVec.ofNat 32 (s + c), false)
  else (BitVec.ofNat 32 (s + if overflowsToInf rm neg then 0x7F800000 else 0x7F7FFFFF), true)

/-- The value of an FP32 pattern (R89). -/
def unpackF32 (x : W32) : FVal :=
  let n := x.toNat
  let neg := n / 2 ^ 31 == 1
  let ex : Nat := n / 2 ^ 23 % 256
  let fr : Nat := n % 2 ^ 23
  if ex = 255 then (if fr = 0 then .inf neg else .nan (fr % 2 ^ 22))
  else if ex = 0 then .fin neg fr (-149)
  else .fin neg (fr + 2 ^ 23) ((ex : Int) - 150)

/-- The quiet NaN with sign 0 and a payload (R91). -/
def quietNaN (payload : Nat) : W32 := BitVec.ofNat 32 (0x7FC00000 + payload % 2 ^ 22)

/-- The NaN of an invalid operation (R91). -/
def invalidNaN : W32 := 0x7FC00000

/-- An infinity. -/
def infF32 (neg : Bool) : W32 := if neg then 0xFF800000 else 0x7F800000

/-- The smallest payload among the NaNs of a list (R91). -/
def nanOf : List FVal → Option Nat
  | [] => none
  | .nan p :: t => match nanOf t with
    | some q => some (min p q)
    | none => some p
  | _ :: t => nanOf t

/-- A signed integer times 2^e as an FP32 pattern; an exact zero is +0. -/
def packInt (rm : Rm) (m e : Int) : W32 × Bool := packF32 rm (m < 0) m.natAbs 1 e

/-- A signed magnitude as an integer. -/
def signedMag (neg : Bool) (m : Nat) : Int := if neg then -(m : Int) else m

/-- x * 2^a + y * 2^b as an integer and an exponent. -/
def addExact (x a y b : Int) : Int × Int :=
  let e := min a b
  (x * 2 ^ (a - e).toNat + y * 2 ^ (b - e).toNat, e)

/-- A finite value as a signed integer times 2^e. -/
def FVal.exact? : FVal → Option (Int × Int)
  | .fin neg m e => some (signedMag neg m, e)
  | _ => none

/-- Addition of two non-NaN values with one rounding, RNE; the sign of an exact zero is the IEEE sign (R196). -/
def addVals (x y : FVal) : W32 :=
  match nanOf [x, y] with
  | some p => quietNaN p
  | none =>
    match x, y with
    | .inf s, .inf t => if s = t then infF32 s else invalidNaN
    | .inf s, _ => infF32 s
    | _, .inf t => infF32 t
    | .fin s m e, .fin t n f =>
      let r := addExact (signedMag s m) e (signedMag t n) f
      if r.1 = 0 then (if s && t then 0x80000000 else 0) else (packInt .rne r.1 r.2).1
    | _, _ => invalidNaN

/-- The product of two non-NaN values, or none when it is 0 * infinity (R91). -/
def mulExact (x y : FVal) : Option FVal :=
  match x, y with
  | .inf s, .inf t => some (.inf (s != t))
  | .inf s, .fin t n _ => if n = 0 then none else some (.inf (s != t))
  | .fin s m _, .inf t => if m = 0 then none else some (.inf (s != t))
  | .fin s m e, .fin t n f => some (.fin (s != t) (m * n) (e + f))
  | _, _ => none

/-- A value rounded to FP32, RNE. -/
def FVal.toF32 : FVal → W32
  | .nan p => quietNaN p
  | .inf s => infF32 s
  | .fin s m e => (packF32 .rne s m 1 e).1

/-- The negation of a value. -/
def FVal.negate : FVal → FVal
  | .nan p => .nan p
  | .inf s => .inf (!s)
  | .fin s m e => .fin (!s) m e

/-- VADD.F (R196). -/
def fAdd (a b : W32) : W32 := addVals (unpackF32 a) (unpackF32 b)

/-- VSUB.F (R196). -/
def fSub (a b : W32) : W32 := addVals (unpackF32 a) (unpackF32 b).negate

/-- VMUL.F (R196). -/
def fMul (a b : W32) : W32 :=
  let x := unpackF32 a
  let y := unpackF32 b
  match nanOf [x, y] with
  | some p => quietNaN p
  | none => match mulExact x y with
    | some v => v.toF32
    | none => invalidNaN

/-- d + a b, or d - a b, with one rounding (R90, R196). -/
def fFma (sub : Bool) (d a b : W32) : W32 :=
  let x := unpackF32 a
  let y := unpackF32 b
  let z := unpackF32 d
  match nanOf [x, y, z] with
  | some p => quietNaN p
  | none => match mulExact x y with
    | some v => addVals z (if sub then v.negate else v)
    | none => invalidNaN

/-- The order of non-NaN patterns with -0 below +0: a key that rises with the value (R196). -/
def orderKey (x : W32) : Int := if x.toNat < 2 ^ 31 then (x.toNat : Int) else 2 ^ 31 - 1 - (x.toNat : Int)

/-- VMIN.F, -0 below +0 (R196). -/
def fMin (a b : W32) : W32 :=
  match nanOf [unpackF32 a, unpackF32 b] with
  | some p => quietNaN p
  | none => if orderKey a ≤ orderKey b then a else b

/-- VMAX.F, +0 above -0 (R196). -/
def fMax (a b : W32) : W32 :=
  match nanOf [unpackF32 a, unpackF32 b] with
  | some p => quietNaN p
  | none => if orderKey a ≤ orderKey b then b else a

/-- Whether a pattern is a NaN. -/
def isNaN (x : W32) : Bool := (nanOf [unpackF32 x]).isSome

/-- Order of two non-NaN patterns as values, -0 equal to +0 (R198). -/
def valueKey (x : W32) : Int := if x.toNat < 2 ^ 31 then (x.toNat : Int) else 2 ^ 31 - (x.toNat : Int)

def fEq (a b : W32) : Bool := !isNaN a && !isNaN b && valueKey a == valueKey b
def fLt (a b : W32) : Bool := !isNaN a && !isNaN b && valueKey a < valueKey b
def fLe (a b : W32) : Bool := !isNaN a && !isNaN b && valueKey a ≤ valueKey b

/-- The exact sum of values, rounded once, RNE; NaN first, then opposed infinities (R106, R203). -/
def fSumX (xs : List W32) : W32 :=
  let vs := xs.map unpackF32
  match nanOf vs with
  | some p => quietNaN p
  | none =>
    let pinf := vs.any (· = .inf false)
    let ninf := vs.any (· = .inf true)
    if pinf && ninf then invalidNaN
    else if pinf then infF32 false
    else if ninf then infF32 true
    else
      let s := vs.foldl (fun (acc : Int × Int) v => match v.exact? with
        | some (m, e) => addExact acc.1 acc.2 m e
        | none => acc) (0, 0)
      (packInt .rne s.1 s.2).1

/-- The largest or smallest of a list under the order of R203, from a start value. -/
def fReduce (f : W32 → W32 → W32) (start : W32) (xs : List W32) : W32 :=
  match nanOf (xs.map unpackF32) with
  | some p => quietNaN p
  | none => xs.foldl f start

/-! ### BF16 (R92) -/

/-- The FP32 value of a BF16 pattern, exactly. -/
def bfToF32 (x : BitVec 16) : W32 := BitVec.ofNat 32 (x.toNat * 2 ^ 16)

/-- The magnitude code of a value in BF16: 8 significand bits, least unit 2^-133. -/
def bfCode (rm : Rm) (neg : Bool) (n d : Nat) (e : Int) : Nat := magCode rm neg n d e 8 (-133)

/-- A NaN kept in BF16: sign, fraction bits [22:16], the quiet bit set (R92). -/
def bfNaN (x : W32) : BitVec 16 := BitVec.ofNat 16 (x.toNat / 2 ^ 16) ||| 0x0040

/-- FP32 to BF16 with overflow to infinity, and whether a finite operand became infinite (R92, R200). -/
def f32ToBf (x : W32) : BitVec 16 × Bool :=
  match unpackF32 x with
  | .nan _ => (bfNaN x, false)
  | .inf s => (if s then 0xFF80 else 0x7F80, false)
  | .fin s m e =>
    let c := bfCode .rne s m 1 e
    let sg : Nat := if s then 2 ^ 15 else 0
    if c < 0x7F80 then (BitVec.ofNat 16 (sg + c), false) else (BitVec.ofNat 16 (sg + 0x7F80), true)

/-- FP32 to BF16 as a narrow format: finite overflow saturates and counts (R97). -/
def f32ToBfSat (rm : Rm) (x : W32) : BitVec 16 × Bool :=
  match unpackF32 x with
  | .nan _ => (bfNaN x, false)
  | .inf s => (if s then 0xFF80 else 0x7F80, false)
  | .fin s m e =>
    let c := bfCode rm s m 1 e
    let sg : Nat := if s && c != 0 then 2 ^ 15 else 0
    if c < 0x7F80 then (BitVec.ofNat 16 (sg + c), false) else (BitVec.ofNat 16 (sg + 0x7F7F), true)

/-! ### Integer conversions (R200) -/

/-- int32 nearest an FP32 value, ties to even, and whether it saturated or was a NaN (R98, R200). -/
def f32ToInt (x : W32) : W32 × Bool :=
  match unpackF32 x with
  | .nan _ => (0, true)
  | .inf s => (if s then 0x80000000 else 0x7FFFFFFF, true)
  | .fin s m e =>
    let n := roundUnits .rne s m 1 e 0
    if s then (if n ≤ 2 ^ 31 then (BitVec.ofInt 32 (-(n : Int)), false) else (0x80000000, true))
    else (if n ≤ 2 ^ 31 - 1 then (BitVec.ofNat 32 n, false) else (0x7FFFFFFF, true))

/-- FP32 nearest an int32 (R200). -/
def intToF32 (x : W32) : W32 := (packInt .rne x.toInt 0).1

end Sys2Proof.Machine
end

