-- ==== Sys2Proof/Machine/Table.lean ====
section
/-! DEFINITION. Finite tables as plain data: a list of (key, value) pairs with keys strictly rising and no entry equal
to the value that an unlisted key has. Register files, scratchpad, accumulator rows and memory are such tables, so equal
contents are equal data. -/

namespace Sys2Proof.Machine

/-- A table from natural numbers: sorted pairs. -/
abbrev Tbl (α : Type) := List (Nat × α)

/-- The value at a key; an unlisted key has the value d. -/
def Tbl.get {α : Type} (d : α) : Tbl α → Nat → α
  | [], _ => d
  | (k, x) :: t, n => if n = k then x else Tbl.get d t n

/-- The entry of a key, if listed. -/
def Tbl.find {α : Type} : Tbl α → Nat → Option α
  | [], _ => none
  | (k, x) :: t, n => if n = k then some x else Tbl.find t n

/-- The table without any entry of a key. -/
def Tbl.erase {α : Type} : Tbl α → Nat → Tbl α
  | [], _ => []
  | (k, x) :: t, n => if n = k then Tbl.erase t n else (k, x) :: Tbl.erase t n

/-- The table with an entry for a key. -/
def Tbl.put {α : Type} : Tbl α → Nat → α → Tbl α
  | [], n, x => [(n, x)]
  | (k, y) :: t, n, x =>
    if n < k then (n, x) :: (k, y) :: t else if n = k then (n, x) :: t else (k, y) :: Tbl.put t n x

/-- Writes a key, listing no entry that equals the value of an unlisted key. -/
def Tbl.set {α : Type} [DecidableEq α] (d : α) (t : Tbl α) (n : Nat) (x : α) : Tbl α :=
  if x = d then Tbl.erase t n else Tbl.put t n x

/-- Keys strictly rising, every key above lo. -/
def Tbl.sortedFrom {α : Type} : Option Nat → Tbl α → Bool
  | _, [] => true
  | none, (k, _) :: t => Tbl.sortedFrom (some k) t
  | some lo, (k, _) :: t => lo < k && Tbl.sortedFrom (some k) t

/-- The canonical form: keys strictly rising and no entry equal to d. -/
def Tbl.wf {α : Type} [DecidableEq α] (d : α) (t : Tbl α) : Bool :=
  Tbl.sortedFrom none t && t.all (fun e => e.2 != d)

/-- Changes the value at a listed key. -/
def Tbl.update {α : Type} (f : α → α) : Tbl α → Nat → Tbl α
  | [], _ => []
  | (k, x) :: t, n => if n = k then (k, f x) :: t else (k, x) :: Tbl.update f t n

/-- A set of natural numbers as a rising list: adds a member. -/
def insertNat (n : Nat) : List Nat → List Nat
  | [] => [n]
  | m :: t => if n < m then n :: m :: t else if n = m then m :: t else m :: insertNat n t

/-- A set of natural numbers as a rising list: removes a member. -/
def removeNat (n : Nat) : List Nat → List Nat
  | [] => []
  | m :: t => if n = m then t else m :: removeNat n t

end Sys2Proof.Machine
end

