-- ==== Sys2Proof/Machine/State.lean ====
section
/-! DEFINITION. The state of the package as plain data: contexts with all they hold (R18, R111), cores (R9, R11),
cluster schedulers (R34), memory and translation (R52, R70), the package interface (R281), error and fault rings
(R322, R357), debug and trace registers (R292, R294), and the state after reset. -/

namespace Sys2Proof.Machine

/-- Why the machine stops. -/
inductive Fault where
  /-- Raised by DEBUG_MEMORY_ACCESS, PEER_REQUEST and PATROL_SCRUB at an offset beyond the 512 GiB of
  device DRAM (R279), and by HOST_MEMORY_ACCESS beyond 64 bits of address, which do not exist. Safe: no state follows. -/
  | noSuchAddress (addr : Nat)
  deriving DecidableEq, Repr

/-- Why a step has no meaning. -/
inductive Refusal where
  /-- Raised by an arm of exec that has no meaning yet. Safe. -/
  | notModelled (mnemonic : String)
  /-- Raised by an event whose occasion has not arisen in this state: the access it names is not outstanding, no record
  waits, no request is queued. Such an event does not happen on the part either. Safe. -/
  | notPending
  deriving DecidableEq, Repr

/-! ### Contexts -/

/-- Relations of the standing store and of the relational forms (R160, R162, R167). -/
inductive RelOp where
  | add | sub | mul | min | max | abs | neg | mov | addi | muli
  | eq | ne | lt | le | eqi | nei | lti | lei | gti | gei
  deriving DecidableEq, Repr

/-- A relation: its opcode, its operand registers and its immediate (R167). -/
structure Rel where
  op : RelOp
  d : BitVec 6
  a : BitVec 6
  b : BitVec 6
  imm : BitVec 8
  deriving DecidableEq, Repr

/-- A loop level (R128): whether it is active, start and end offset, remaining count, and the deltas of a1 to a31. -/
structure Loop where
  active : Bool
  start : W32
  last : W32
  count : W32
  delta : Tbl W32
  deriving DecidableEq, Repr

/-- The state of a target buffer (R124). -/
inductive BufState where
  | empty | prepared | armedTaken | armedNot
  deriving DecidableEq, Repr

/-- Which PREP loaded a target buffer (R124, R125). -/
inductive PrepKind where
  | prep | prepc | prepr | prepi
  deriving DecidableEq, Repr

/-- A target buffer: its state, target, kind, and the MCC at which its PREP bundle issued (R22, R119, R124). -/
structure TBuf where
  st : BufState
  target : W32
  kind : PrepKind
  at_ : W64
  deriving DecidableEq, Repr

/-- A result on its way to a register or to other state of the context (R119, R121). -/
inductive Eff where
  /-- An assign write of a k register. -/
  | k (r : BitVec 6) (x : Dom)
  /-- A producer whose set is empty: FAIL naming the register (R83, R166). -/
  | kFail (r : BitVec 6)
  | a (r : BitVec 5) (x : W64)
  | p (r : BitVec 7) (x : BitVec 2)
  /-- The lanes of a mask register that are written, and their bits. -/
  | m (r : BitVec 4) (lanes bits : W64)
  | v (r : BitVec 6) (lanes : W64) (x : VecV)
  | q (r : BitVec 5) (lanes : W32) (x : VecV)
  /-- Overflows to count into VOVF (R98). -/
  | vovf (n : Nat)
  /-- Overflows of a DRAIN row to count into OVFC where its bytes are written (R98, R119). -/
  | ovfc (n : Nat)
  /-- The epilogue word of a DRAIN: OVFC as it stands where the word is written, and its place (R98, R238). -/
  | epi (off : Nat)
  /-- A MOVG (R192). -/
  | sys (n : BitVec 12) (x : W64)
  /-- A narrowing: each operand register and its new domain (R85). -/
  | narrow (ws : List (BitVec 6 × Dom))
  /-- A relational form that leaves an operand empty (R166). -/
  | narrowFail (r : BitVec 6)
  /-- A post (R168). -/
  | post (rel : Rel)
  | ckpt | roll | commit
  /-- QSTAT's clear of QPROG (true) or QEMPTY (R214). -/
  | qclear (prog : Bool) (mask : W32)
  /-- A contractor: its registers' new lanes, the executing lanes, the lanes in which any operand's bits change, the
  lanes it empties, the first operand (R213). -/
  | contract (ws : List (BitVec 5 × VecV)) (lanes prog emptied : W32) (first : BitVec 5)
  /-- The FAIL alone of a contractor whose QEMPTY bits a debugger's write has cancelled (R213, R296). -/
  | qfail (emptied : W32) (first : BitVec 5)
  /-- A scratchpad store (R219); `poisoned` carries the mark of its data (R343). -/
  | scr (off : Nat) (bytes : List Byte) (poisoned : Bool)
  | prep (b : BitVec 2) (kind : PrepKind) (target : W32)
  | arm (b : BitVec 2) (taken : Bool)
  | loop (lv : BitVec 2) (start last count : W32)
  | ldelta (lv : BitVec 2) (r : BitVec 5) (x : W32)
  /-- BUDGET (R143). -/
  | budget (c : W32)
  /-- A new value of MYW from the CTL slot (R152), and PUSHQW's subtraction (R228). -/
  | myw (x : W64)
  | mywSub (x : W64)
  | qdi (x : W32)
  /-- TSET or TDRAIN (R245): the new entry. -/
  | te (n : BitVec 6) (x : W32)
  /-- A cause that arises at the end of the bundle: code and TINFO (R305). -/
  | cause (code : Byte) (tinfo : W64)
  /-- A fixed-latency LDS that read a poisoned bank word: MEMERR at the write point (R344). -/
  | poisoned (addr : W64)
  deriving DecidableEq, Repr

/-- A result in flight: bundles still to issue before it lands (1: at the end of the bundle now issuing), slot, bundle
clock and offset of its bundle, and whether the snapshot held it (R119, R154, R334). -/
structure Flight where
  dist : Nat
  slot : Nat
  bclk : W64
  off : W32
  snap : Bool
  eff : Eff
  deriving DecidableEq, Repr

/-- A boundary cause (R303): code, REASON for system causes (R324), slot, object and offset for TPC, TINFO, the virtual
address and access kind for the fault report (R322), the bundle clock at which what raises it issued (R305, R326). -/
structure Cause where
  code : Byte
  reason : Byte
  slot : Nat
  off : W32
  tinfo : W64
  va : W64
  kind : Byte
  seq : Nat := 0
  deriving DecidableEq, Repr

/-- What a context does after the last bundle it issued: goes on, ENDs, SUSPs with a deadline and a queue, or waits at
QWAIT on a block address (R32, R33, R148). `next` is the next bundle of R148. -/
inductive Stop where
  | none
  | ending
  | susp (deadline : W64) (qid : BitVec 6) (next : W32)
  | qwait (block : W64) (next : W32)
  deriving DecidableEq, Repr

/-- Where a trapped context continues (R154): at a bundle, or with a pending END, SUSP or QWAIT (R149). -/
inductive Resume where
  | at_ (off : W32)
  | stop (st : Stop) (off : W32)
  deriving DecidableEq, Repr

/-- A push to a value queue (R227, R228): queue, payload, weight, ticket, poison (R343). -/
structure Push where
  qid : BitVec 6
  payload : BitVec 512
  weight : W64
  ticket : W64
  poisoned : Bool
  deriving DecidableEq, Repr

/-- How far a SYNC has come (R41, R145): nothing, arrived and waiting, released by the last arrival, its bundle issued
before the restart cycle, released after the restart cycle has passed. -/
inductive Barrier where
  | none
  | arrived
  | released
  | issued
  | late
  deriving DecidableEq, Repr

/-- What the tail bits and the operations leave for the end of the bundle (R125, R128, R129, R149, R229). -/
structure Tail where
  /-- The target of a taken transfer. -/
  taken : Option W32
  /-- S + len of a LOOP whose count is zero. -/
  skip : Option W32
  /-- A push, whose stamp is WIC at the end of the bundle. -/
  push : Option Push
  yield : Bool
  stop : Stop
  drainw : Bool
  rft : Bool
  deriving DecidableEq, Repr

/-- Registers of a context (R111), with one bit per register that is empty (R116). -/
structure Regs where
  k : Tbl Dom
  a : Tbl W64
  p : Tbl (BitVec 2)
  m : Tbl W64
  v : Tbl VecV
  q : Tbl VecV
  ke : W64
  ae : W64
  ve : W64
  qe : W64
  deriving DecidableEq, Repr

/-- System registers that a context keeps (R138); the others are read from where their state lies. `wdcShift` is by how much a debugger's write has
moved WDC from what has drained (R296), the model's own. -/
structure Sys where
  tvec : W32
  tcause : W32
  tpc : W64
  tinfo : W64
  tslot : W32
  pbudget : W32
  qctl : W32
  qprog : W32
  qempty : W32
  fmt : Tbl W32
  drp : W32
  ovfc : W32
  vovf : W32
  rxw : W64
  myw : W64
  qdi : W32
  qbsz : W64
  dupw : W32
  driftt : W32
  lastdrift : W64
  wic : W64
  wdcShift : W64 := 0
  deriving DecidableEq, Repr

/-- Control flow: position, bundle clock (R21), target buffers, loop levels, return stack in core and spilled, newest
first (R126), results in flight, causes waiting for the boundary, the tail of the bundle in issue, a stop that waits,
the DRAINW wait (R146), what the last bundle did (R328), and whether the next bundle is exempt from breakpoints
(R298). `landed` names the registers written at the last bundle-clock point: class bit of DUPW, number, slot, bundle clock of the issue (R121). -/
structure Flow where
  pc : W32
  bclk : W64
  bufs : Tbl TBuf
  loops : Tbl Loop
  rstack : List W32
  spilled : List W32
  flights : List Flight
  landed : List (Nat × Nat × Nat × W64)
  causes : List Cause
  tail : Tail
  stop : Stop
  drain : Option W64
  last : Option W32
  lastTx : Bool
  lastLoop : Bool
  exempt : Bool
  barrier : Barrier
  deriving DecidableEq, Repr

/-- The Swage: standing store, wake queue, PUSED (R167, R169), checkpoints (height and trail length, newest first) and
trail (register and old value, newest first; R174, R175), registers narrowed at this point, and whether a propagation is
due or in course, and if so whether it has begun: until then what narrows at its point joins it (R169). -/
structure Swage where
  store : List Rel
  queue : List Nat
  pused : Nat
  ckpts : List (Nat × Nat)
  trail : List (BitVec 6 × Dom)
  narrowed : List (BitVec 6)
  busy : Bool
  begun : Bool := false
  deriving DecidableEq, Repr

/-- The handler shadow (R154): target buffers, loop levels and the return stack with its spilled entries; and the wait of a DRAINW that the
program's next bundle has still to make (R146). -/
structure Shadow where
  bufs : Tbl TBuf
  loops : Tbl Loop
  rstack : List W32
  spilled : List W32
  drain : Option W64
  deriving DecidableEq, Repr

/-- Trap state: handler mode, whether the handler has issued a MOVG to TPC, the resume point, the pipeline snapshot, the
shadow and the held causes (R154, R155, R305). -/
structure TrapSt where
  handler : Bool
  tpcMoved : Bool
  resume : Resume
  snapshot : List Flight
  shadow : Option Shadow
  held : List Cause
  deriving DecidableEq, Repr

/-- An outstanding operation of the MEM slot on global memory (R221 to R225). -/
inductive AccOp where
  | ldgA (r : BitVec 5)
  | ldgV (r : BitVec 6)
  | ldgK (r : BitVec 6) (narrow : Bool)
  | store (bytes : List Byte)
  /-- An atomic: opcode 0x18 + op, destination, operand, compare value. -/
  | atomic (op : BitVec 3) (d : BitVec 5) (x cmp : W64)
  | xadd (x : W32)
  | xaddv (x : VecV)
  | xrd (d : BitVec 5) (rm : BitVec 2)
  | xrdv (d : BitVec 6) (rm : BitVec 2)
  | xclr (n : Nat)
  /-- A fence that still holds later accesses: kind 0 acquire, 1 release, 2 full (R225). -/
  | fence (kind : BitVec 2)
  deriving DecidableEq, Repr

/-- How far an outstanding access or sector has come: it waits to perform, it waits on a page request (R73), it has
failed with a cause and a reason and is a pending entry (R326). -/
inductive Phase where
  | waiting
  | paged
  | failed (code reason : Byte)
  deriving DecidableEq, Repr

/-- An outstanding access: number in program order, bundle offset and bundle clock of its issue, virtual address, the
operation, ORD code, its number among the counted writes (R218), cells of an XA vector operation already done and the values that an XRDV has
read from them (R224), phase; of a write of the path that a later one has passed, the places at which it has come to its cluster (R254). -/
structure Acc where
  id : Nat
  off : W32
  bclk : W64
  va : BitVec 57
  op : AccOp
  ord : BitVec 3
  wic : Option W64
  done : Nat
  lanes : VecV := 0
  phase : Phase
  placed : List (Nat × Nat) := []
  deriving DecidableEq, Repr

/-- The copies of R243 and R244. -/
inductive CopyKind where
  | g2s | s2g | g2o | s2o | g2g | xred
  deriving DecidableEq, Repr

/-- An engine thread of the Tongs (R241, R242): order number, bundle clock and offset of its bundle, tile entry or
dependence counter, destination, source, length, stride, format value bound to the slot, sectors not landed, whether it stopped issuing
(R329), source bytes captured from scratchpad at issue with their poison marks (R59), number among the counted
writes, and whether it goes on by the quench of a reset though its context is not on its core (R352). -/
structure Copy where
  id : Nat
  bclk : W64
  off : W32
  kind : CopyKind
  te : Option (BitVec 6)
  dc : Option (BitVec 16)
  dst : W64
  src : W64
  len : Nat
  stride : Nat
  fmt : W32
  left : List Nat
  paged : List Nat
  failed : Option (Byte × Byte × W64)
  data : List Byte
  poison : List Nat
  wic : Option W64
  quench : Bool := false
  deriving DecidableEq, Repr

/-- A gather (R246): order number, bundle clock and offset of its bundle, entry, ring base, table base, row size, ring
rows, queued indices, number of rows landed, whether GEND has issued, phase, and what the bytes were that its issuer has overwritten since, whose
new values it must not observe: place and byte (R256). -/
structure Gather where
  id : Nat
  bclk : W64
  off : W32
  te : BitVec 6
  ring : W64
  base : W64
  row : Nat
  rows : Nat
  queue : List W32
  landed : Nat
  closed : Bool
  phase : Phase
  hidden : Tbl Byte
  deriving DecidableEq, Repr

/-- A DIV or REM whose result is still to be written (R164): the bundle clock of its issue, offset, destination, the
result, or none for a division by zero. -/
structure DivOp where
  id : Nat
  bclk : W64
  off : W32
  d : BitVec 6
  result : Option W32
  deriving DecidableEq, Repr

/-- An LDS.VX, or an STS.VX with the index register (R220), not yet complete: order number, bundle clock and MCC of its
issue; of an LDS.VX also the first poisoned bank word that it has read, as its offset, and whether it is a pending fault entry for that
(R326, R344). -/
structure Scatter where
  id : Nat
  bclk : W64
  at_ : W64
  off : W32
  r : BitVec 6
  index : Option (BitVec 6)
  offs : List Nat
  data : VecV
  bad : Option Nat := none
  failed : Bool := false
  deriving DecidableEq, Repr

/-- An operation sent to the Hearth or to the Bellows in program order (R150, R151, R259). -/
inductive HOp where
  /-- QNEW: block address, TOTAL. -/
  | qnew (block : W64) (total : W64)
  /-- A borrow of m units (R44); one that a split asks for is one step with the rise of MYW (R45). -/
  | borrow (block : W64) (m : W64) (split : Bool)
  /-- A return of weight with or without the faulted flag, once counted writes up to `stamp` have drained (R150). -/
  | ret (block : W64) (w : W64) (faulted : Bool) (stamp : W64)
  /-- QWAIT: the block the return goes to, the weight, the block waited on (R153), and the WAITER word that names the record written
(R44). -/
  | qwait (home : Option W64) (w : W64) (block : W64) (stamp : W64) (waiter : W64)
  /-- A record offered by SPAWN to a queue of the home cluster (R31, R147, R259). -/
  | offer (qid : BitVec 6) (rec : BitVec 512) (stamp : W64)
  /-- A push to a value queue that has to wait for operations before it (R229, R259, R267). -/
  | push (p : Push) (stamp : W64)
  deriving DecidableEq, Repr

/-- An operation on the way, with the order number that the next operation of its context had when it was sent (R250, R267). -/
structure Sent where
  id : Nat
  op : HOp
  deriving DecidableEq, Repr

/-- A write that has come before earlier ones of its context: its order number, the core from which it came, whether it is an engine's, which
only the contexts of that core see in order with every earlier write, or one of the write path, which those of the cluster see in order with
earlier ones of the path, and where it lies (R254, R267). -/
structure Ahead where
  id : Nat
  core : Nat
  coreOnly : Bool
  ps : List (Nat × Nat)
  deriving DecidableEq, Repr

/-- A waiting POP or POPR: context, register, scratchpad offset for POPR (R228); `failed` marks a pending fault entry: it has met a poisoned
entry, and rereads when its context resumes (R326, R344). -/
structure Waiter where
  ctx : Nat
  r : BitVec 5
  off : Option Nat
  id : Nat
  bclk : W64
  pc : W32
  failed : Bool := false
  deriving DecidableEq, Repr

/-- The memory side of a context: scratchpad by 64-byte bank word (R55, R56), accumulator rows (R55), their poison
marks by bank word and those of the trail (R342, R343), tile entries (R60), outstanding accesses, engine threads, gathers, unfinished divisions and scatters,
Hearth operations in order, the next order number, late values to discard (R296), contents and poison marks of claimed
slots while evicted (R65), the writes that have come before earlier ones (R254, R267), and, of an image from which a run is replayed, the POPs that are to
be issued again with the other pending operations: cluster, queue, POP (R336, R354). -/
structure MemSide where
  scr : Tbl (BitVec 512)
  scrPoison : List Nat
  acc : Tbl Row
  accPoison : List Nat
  trailPoison : List Nat
  te : Tbl W32
  outs : List Acc
  copies : List Copy
  gathers : List Gather
  divs : List DivOp
  scats : List Scatter
  hearth : List Sent
  nextId : Nat
  discard : List (RegClass × Nat × Nat)
  savedOm : Tbl (Tbl VecV × Tbl (BitVec 256))
  savedPoison : List Nat
  ahead : List Ahead := []
  pops : List (Nat × Nat × Waiter) := []
  deriving DecidableEq, Repr

/-- One line of a weight plane or of an operand slot: format value, row bytes, scale bytes, poison mark (R232, R343). -/
structure Line where
  fmt : W32
  row : BitVec 4096
  side : BitVec 512
  poison : Bool
  deriving DecidableEq, Repr

/-- The class of a plane or slot (R232). -/
inductive MClass where
  | bf16 | b8 | b4
  deriving DecidableEq, Repr

/-- A weight plane: its class and its lines that are not zero (R235). -/
structure Plane where
  cls : MClass
  lines : Tbl Line
  deriving DecidableEq, Repr

/-- An exact column sum (R237, R107): num * 2^exp, infinities met, smallest NaN payload met, invalid product met. -/
structure XSum where
  num : Int
  exp : Int
  pinf : Bool
  ninf : Bool
  nan : Option Nat
  invalid : Bool
  deriving DecidableEq, Repr

/-- A beat in the array: bundles until it lands, row, whether ACCZ, rounding code, column sums, poison (R237, R343). -/
structure Beat where
  dist : Nat
  row : Nat
  zero : Bool
  rm : BitVec 2
  sums : List XSum
  poison : Bool
  deriving DecidableEq, Repr

/-- A multi-beat command that holds slot 6 (R231). -/
inductive MtxCmd where
  /-- ACC and ACCZ, with the format value of the slot as the command's issue read it (R7). -/
  | acc (om : BitVec 5) (row : Nat) (zero : Bool) (rm : BitVec 2) (fmt : W32)
  /-- DRAIN: format value or F32, next scratchpad offset, EPI, whether its first row is still to convert (R98). -/
  | drain (row : Nat) (f32 : Bool) (fmt : W32) (rm : BitVec 2) (off : Nat) (epi : Bool) (first : Bool)
  deriving DecidableEq, Repr

/-- An LDW that streams (R235): slot with its format value at issue (R7), next plane line, lines left. -/
structure Ldw where
  om : BitVec 5
  fmt : W32
  line : Nat
  left : Nat
  deriving DecidableEq, Repr

/-- The Anvil's state that belongs to a context (R233): planes, the running command and its beats left, the streaming
LDW, the beats in the array. -/
structure Anvil where
  act : Plane
  shadow : Plane
  run : Option (MtxCmd × Nat)
  ldw : Option Ldw
  beats : List Beat
  deriving DecidableEq, Repr

/-- Slice budget (R27, R319): declared budget, counter, whether the slice's first bundle has issued, its MCC, whether
the counter has reached zero, the overrun mark, and whether the counter was loaded again in this cycle, from the next of which on it counts. -/
structure Budget where
  declared : W32
  counter : W32
  started : Bool
  sliceStart : W64
  spent : Bool
  mark : Bool
  reloaded : Bool := false
  deriving DecidableEq, Repr

/-- An accepted-work operation as the journal keeps it (R353, R356): its kind and the queue, cell or domain it names. -/
structure AccKey where
  kind : Nat
  target : Nat
  deriving DecidableEq, Repr

/-- A delivery held in the journal (R353): queue, payload, weight. -/
structure Delivery where
  qid : Nat
  payload : BitVec 512
  weight : W64
  deriving DecidableEq, Repr

/-- The run of a context (R351, R353): its last record, the operations accepted so far, those of the run it replays
that are still to be matched, the weight account and the block of the domain that it belongs to, deliveries held and deliveries still to be made
again. -/
structure Run where
  record : BitVec 512
  accepted : List AccKey
  suppress : List AccKey
  account : W64
  home : Option W64
  held : List Delivery
  again : List Delivery
  deriving DecidableEq, Repr

/-- A tagged bundle (R302): its record without the payload, its bundle clock, the MCC of its issue, the slots whose
operations have not landed, each with the first bundle clock at which it can have, and the cycles of the others. -/
structure Tag where
  head : BitVec 512
  bclk : W64
  at_ : W64
  wait : List (Nat × Nat)
  times : Tbl Nat
  deriving DecidableEq, Repr

/-- Debug registers of a context (R294), bundle history and detailed trace (R301), sampling (R302), requested stops. -/
structure Dbg where
  dctl : W32
  bk : Tbl W64
  wa : Tbl W64
  wc : Tbl W32
  dtlen : BitVec 16
  speriod : BitVec 16
  dstat : W64
  dwaddr : W64
  hist : List (BitVec 512)
  detail : Nat
  count : Nat
  tags : List Tag
  /-- Stops to be taken at the next boundary: REASON, INDEX, watch address, slot, offset. -/
  pend : List (Nat × Nat × W64 × Nat × W32)
  deriving DecidableEq, Repr

/-- What a context is doing (R18 to R22, R28, R47, R49, R295). -/
inductive Status where
  /-- It is the one its core runs. -/
  | running
  /-- It was dispatched from a record and waits for its image (R336). -/
  | restoring
  /-- Resident and ready: yielded or unparked. -/
  | ready
  /-- Resident and parked on a stall (R22). -/
  | parked
  /-- Resident and stopped for the debugger (R295). -/
  | stopped
  /-- Resident and suspended in QWAIT (R47). -/
  | qwait
  /-- Being evicted: why (0 room, 1 pre-emption, 2 system trap, 3 QWAIT), with the fault report to send (R19, R321). -/
  | evicting (why : Nat) (report : Option (BitVec 512))
  /-- Halted and resident after an eviction whose save slot could not be reached (R335). -/
  | halted (why : Nat)
  /-- Its image lies in its save slot. -/
  | evicted
  /-- Discarded by a reset; accepted writes and outgoing copies still complete (R352, R353). -/
  | ghost
  deriving DecidableEq, Repr

/-- Who a context is: PASID, WORLD, save slot, object index, hash, length, and base address of its code as last read (R286), share and its division, home cluster and
HOMEQ, DEADLINE and ticket, gang, core, status, whether it waits for the Hearth, the mark of R20, unresumable (R344),
block address of its domain (R43), stop kept for resumption (R295), whether it has diverged from the run it replays (R356), whether its
image and ingots lie in its save slot (R19), the WAITER word under which the Hearth has it registered (R44, R153), the virtual address that the
domain table gave for its block (R43, R344). -/
structure Ident where
  pasid : BitVec 20
  world : Bool
  slot : Nat
  obj : BitVec 16
  hash : BitVec 128
  clen : Nat
  base : W64
  share : Nat
  part : W32
  homeq : BitVec 6
  home : Nat
  deadline : W64
  ticket : W64
  gang : Option Nat
  core : Nat
  status : Status
  atQwait : Bool
  marked : Bool
  unresumable : Bool
  block : Option W64
  stopped : Bool
  killed : Bool
  stored : Bool
  waiter : W64 := 0
  homeVa : W64 := 0
  deriving DecidableEq, Repr

/-- A context (R18). -/
structure Context where
  id : Ident
  regs : Regs
  sys : Sys
  flow : Flow
  swage : Swage
  trap : TrapSt
  mem : MemSide
  anvil : Anvil
  budget : Budget
  run : Run
  dbg : Dbg
  deriving DecidableEq, Repr

/-! ### Cores and clusters -/

/-- An overlay in an instruction store: object hash, index, its bundles, its poisoned lines, the number of its last fetch
(R66, R344). -/
structure Overlay where
  hash : BitVec 128
  index : Nat
  code : Tbl (BitVec 256)
  poison : List Nat
  used : Nat
  deriving DecidableEq, Repr

/-- A core (R9, R10, R11): the context it runs, the entry it makes room for (R19, R37: cluster, queue, ticket), operand memory rows and side areas with poison
marks (R63, R64, R343), overlays, Anvil owner (R233), cycles of a switch left (R18), cycles the bundle has waited and on
which source (R22), issue credit of the clock (R14), the MCC of the last issue and of the last
attempt to issue (R317), and the overlay loads that its contexts
wait for: context, overlay index, phase, and the trace queue, oldest record first (R293). -/
structure Core where
  cur : Option Nat
  room : Option (Nat × Nat × W64)
  om : Tbl (Tbl VecV × Tbl (BitVec 256))
  omPoison : List Nat
  overlays : List Overlay
  owner : Option Nat
  switch : Nat
  waited : Nat
  source : Nat
  credit : Nat
  lastIssue : W64
  tried : Option W64
  fetch : List (Nat × Nat × Phase)
  trace : List (BitVec 512)
  deriving DecidableEq, Repr

/-- What an entry of a scheduling queue is: a fresh record, or the record of an evicted context (R36). -/
inductive EntryBody where
  | fresh (rec : BitVec 512)
  | resume (ctx : Nat) (rec : BitVec 512)
  deriving DecidableEq, Repr

/-- An entry of a scheduling queue: body, rank, the pusher's stamp (R259), whether it is spilled (R34), replay state
(R352), gang binding. -/
structure Entry where
  body : EntryBody
  deadline : W64
  ticket : W64
  stamp : Option (Nat × W64)
  spilled : Bool
  replay : Option Run
  bound : Option Nat
  /-- The gang of a discarded member that is replayed, and the context that member was. -/
  gang : Option (Nat × Nat)
  deriving DecidableEq, Repr

/-- An entry of a value queue: payload, weight, stamp, ticket, PASID of its place, whether it is spilled (R227, R35). -/
structure VEntry where
  payload : BitVec 512
  weight : W64
  stamp : Nat × W64
  ticket : W64
  pasid : BitVec 20
  spilled : Bool
  poisoned : Bool
  deriving DecidableEq, Repr

/-- A value queue: whether it is in ticket mode, next ticket, entries in acceptance order, waiting POPs (R227). -/
structure VQueue where
  ticketMode : Bool
  nt : W64
  entries : List VEntry
  waiters : List Waiter
  deriving DecidableEq, Repr

/-- A cluster: ticket counter (R36), modes and entries of its scheduling queues, value queues, Temper state: permits,
PMAX, clock step (0 nominal, 1 at 1.1 GHz, 2 boosted), µs left in the step (R289, R290). -/
structure Cluster where
  ticket : W64
  mode : Tbl (BitVec 2)
  sched : Tbl (List Entry)
  value : Tbl VQueue
  pc : Nat
  pmax : Nat
  clock : BitVec 2
  stepLeft : Nat
  deriving DecidableEq, Repr

/-- A dispatched gang (R39, R41): scope, members in core order, members that have arrived, restart cycle. -/
structure Gang where
  stack : Bool
  members : List Nat
  arrived : List Nat
  restart : Option W64
  deriving DecidableEq, Repr

/-! ### The package -/

/-- The binding of a PASID (R284). -/
structure Bind where
  walkd : W64
  objt : W64
  qdt : W64
  dept : W64
  save : W64
  ovfl : W64
  objn : Nat
  qdn : Nat
  saven : Nat
  ovfn : Nat
  /-- The walk descriptor as the walkers hold it (R262). -/
  desc : Option (BitVec 256)
  deriving DecidableEq, Repr

/-- A translation held by a TLB (R13, R70, R74): which TLB, that of core n or 1024 + that of a cluster, PASID, the walk descriptor of the
binding it was walked by (R284), virtual base, log2 of the page size, physical base, W, NX, whether D is set. -/
structure Tlb where
  unit : Nat
  pasid : BitVec 20
  walkd : W64
  base : Nat
  size : Nat
  pa : Nat
  w : Bool
  nx : Bool
  dirty : Bool
  deriving DecidableEq, Repr

/-- Whose read of a table, block or save slot by the device itself waits on a page request (R43, R73): nobody's; that of the bundle of a context at a
bundle clock and pc; that of a save slot's image; that of the fetch of an overlay; that of an entry of a queue; that of the first write that waits at the
windows of a cluster through a port; that of the command at the head of the mailbox. -/
inductive Reader where
  | none
  | ctx (uid : Nat) (bclk : W64) (pc : W32)
  | image (uid : Nat)
  | fetch (core uid : Nat)
  | entry (g q : Nat) (ticket : W64)
  | window (port : BitVec 1) (cluster : Nat)
  | command
  deriving DecidableEq, Repr

/-- An outstanding page request (R73): PASID, 4 KiB page, kind, whether issued for a permission, stack. -/
structure PageReq where
  stack : Nat
  pasid : BitVec 20
  page : Nat
  kind : AccKind
  perm : Bool
  /-- A successful response has come and the walk is to be made again. -/
  answered : Bool
  /-- The reads by the device itself that wait on it too. -/
  readers : List Reader
  deriving DecidableEq, Repr

/-- What one reader has learned of a page request of its stack: that it was answered, or the code and REASON that it ended in (R325, R327, R348). -/
structure Heard where
  reader : Reader
  stack : Nat
  pasid : BitVec 20
  page : Nat
  kind : AccKind
  ended : Option (Byte × Byte)
  deriving DecidableEq, Repr

/-- A binding that BINDPASID has replaced: the operations of a context numbered below go on with it (R284). -/
structure Prior where
  uid : Nat
  below : Nat
  bind : Bind
  deriving DecidableEq, Repr

/-- A mailbox command (R281): code and operands. -/
structure Cmd where
  code : Byte
  ops : CmdOps
  deriving DecidableEq, Repr

/-- A PREEMPT in course (R283): target, list buffer, capacity, cores still to halt, contexts still to be evicted,
entries written, records unlisted. -/
structure Preempt where
  target : W64
  buffer : Nat
  capacity : Nat
  cores : List Nat
  waiting : List Nat
  listed : Nat
  pending : List W64
  deriving DecidableEq, Repr

/-- A ring of the device that system software reads: physical base, size, write and read index, records held back
(R322, R357). -/
structure Ring where
  named : Bool
  base : Nat
  size : Nat
  wp : W32
  rp : W32
  held : List (BitVec 512)
  lost : W32
  /-- The addresses that the secure view shows where the log keeps them secret, by index (R350, R357). -/
  secret : Tbl Nat
  deriving DecidableEq, Repr

/-- The trace ring of a stack (R292). -/
structure Trace where
  base : W64
  size : W32
  wp : W32
  mode : BitVec 1
  lost : W32
  deriving DecidableEq, Repr

/-- A debug template of a PASID (R294). -/
structure Template where
  dctl : W32
  bk : Tbl W64
  wa : Tbl W64
  wc : Tbl W32
  dtlen : BitVec 16
  speriod : BitVec 16
  deriving DecidableEq, Repr

/-- A link port (R347, R348): up, CRC failures in a row, the sequence number of the flit that failed last. -/
structure Port where
  up : Bool
  retries : Nat
  seq : W64
  deriving DecidableEq, Repr

/-- The package interface: whether boot has finished or failed (R288), a package failure (R349), commands accepted and
not completed, counts, the completion last written, a command not accepted since (R281, R282), PREEMPT in course. -/
structure Mailbox where
  booted : Bool
  bootFailed : Bool
  failed : Bool
  queue : List Cmd
  accepted : BitVec 16
  completed : BitVec 16
  completion : BitVec 512
  overrun : Bool
  preempt : Option Preempt
  /-- Records that a full list buffer left unlisted, with the target of their PREEMPT (R283). -/
  unlisted : List (W64 × W64)
  msix : Tbl Nat
  aer : Nat
  doe : List Byte
  deriving DecidableEq, Repr

/-- Translation: PASID bindings and those replaced, TLB entries, page requests, control-block copies, and the lines by PASID that a CBINV
has named, which the next read takes from memory (R226, R262, R284). -/
structure Mmu where
  binds : Tbl Bind
  prior : List Prior
  tlb : List Tlb
  reqs : List PageReq
  copies : Tbl (BitVec 512)
  afresh : List (Nat × Nat) := []
  /-- What the device's own reads have learned of their page requests and not yet walked on. -/
  heard : List Heard := []
  deriving DecidableEq, Repr

/-- Configuration that firmware and the host set: secure regions and cores (R76), SDEBUG (R291), region bases by port (R279),
route entries (R287), ports (R347). -/
structure Fabric where
  secure : List Nat
  secureCores : List Nat
  sdebug : Bool
  bar0 : Tbl W64
  bar2 : Tbl W64
  hdm : Tbl W64
  routes : Tbl (W64 × BitVec 16)
  ports : Tbl Port
  deriving DecidableEq, Repr

/-- What a slot operation did in the step now taken: nothing yet, performed, waited on a stall source (R22), or was
trapped in a stage of R304. The step reads it to decide the outcome of the bundle. -/
inductive Verdict where
  | idle
  | performed
  | waits (source : Nat)
  | trapped (stage : Nat)
  deriving DecidableEq, Repr

/-- An error in a storage structure for which the opcode table has no event (R342, R345): a bank word of scratchpad, of the accumulators
or of the trail of a context, a row of operand memory by 128 * slot + line, a line of a weight plane, an overlay of an instruction store (the n-th), a
dirty line of a cluster's L2 slice at its eviction, a line of DRAM or a dirty one of an L2 slice at a demand access, or one that was corrected, by
unit, place and, for DRAM and L2, line. -/
inductive Flaw where
  | bank (uid word : Nat)
  | accWord (uid word : Nat)
  | trailWord (uid word : Nat)
  | operandRow (core line : Nat)
  | planeLine (uid : Nat) (active : Bool) (line : Nat)
  | overlay (core n : Nat)
  | cacheLine (cluster line : Nat)
  | demandLine (line : Nat)
  | corrected (unit place line : Nat)
  deriving DecidableEq, Repr

/-- Who moves next, when the run that is looked at says so: a core issues or goes on, an event happens, an input
arrives, the oldest record of a core's trace queue enters its ring (R293), a storage structure
fails, or one MCC cycle passes. With nothing said, the free choice of Config decides. -/
inductive Move where
  | core (n : Nat)
  | event (i : Instr)
  | record (n : Nat)
  | flaw (x : Flaw)
  | tick
  deriving DecidableEq, Repr

/-- The package. `live` is the context checked out for the step, `issue` the same context as the operations of the
bundle read it (R110), `uid` and `core` say which, `beside` the operand slot that the bundle's MTX command begins to read (R239); `tick` numbers the free choices (the model's own); `micros` counts the µs
that Temper has acted on (R289). -/
structure State where
  live : Context
  issue : Context
  uid : Nat
  core : Nat
  verdict : Verdict
  beside : Option Nat
  mcc : W64
  tick : Nat
  micros : Nat
  script : List Move
  /-- Window writes whose checks wait for a page: port, offset, bytes (R30, R262). -/
  inputs : List (BitVec 1 × Nat × List Byte)
  ctxs : Tbl Context
  /-- Contexts as last written to their save slots, for as long as a run may be replayed from there (R19, R352). -/
  images : Tbl Context
  nextUid : Nat
  cores : Tbl Core
  clusters : Tbl Cluster
  gangs : Tbl Gang
  mem : List Host.Cell
  poison : List Nat
  mmu : Mmu
  mail : Mailbox
  faults : Ring
  errors : Ring
  traces : Tbl Trace
  templates : Tbl Template
  fabric : Fabric
  /-- Answers to host, peer and debug reads, in order (R69, R287, R291). -/
  answers : List (List Byte)
  deriving DecidableEq, Repr

/-! ### Reset values -/

/-- The domain of every integer of 32 bits (R80). -/
def domTop : Dom := 0xFFFFFFFFFFFFFFFF7FFFFFFF80000000

/-- NaI in every lane (R99). -/
def naiReg : VecV := (List.replicate 32 (0x7FC000027FC00002 : W64)).foldl (fun acc w => (acc <<< 64) ||| w.zeroExtend 2048) 0

/-- An empty target buffer (R111, R124). -/
def TBuf.none : TBuf := { st := .empty, target := 0, kind := .prep, at_ := 0 }

/-- An inactive loop level with every delta 0 (R111). -/
def Loop.none : Loop := { active := false, start := 0, last := 0, count := 0, delta := [] }

/-- No tail effect. -/
def Tail.none : Tail :=
  { taken := Option.none, skip := Option.none, push := Option.none, yield := false, stop := Stop.none, drainw := false,
    rft := false }

/-- Registers at a fresh start (R111): every register at the value an unlisted entry reads as, and full. -/
def Regs.fresh : Regs :=
  { k := [], a := [], p := [], m := [], v := [], q := [], ke := 0, ae := 0, ve := 0, qe := 0 }

/-- System registers at a fresh start (R138). -/
def Sys.fresh : Sys :=
  { tvec := 0xFFFFFFFF, tcause := 0, tpc := 0, tinfo := 0, tslot := 0, pbudget := 4096, qctl := 0, qprog := 0,
    qempty := 0, fmt := [], drp := 0, ovfc := 0, vovf := 0, rxw := 0, myw := 0, qdi := 0xFFFFFFFF, qbsz := 65536,
    dupw := 0, driftt := 0, lastdrift := 0, wic := 0 }

/-- Control flow at a fresh start (R111). -/
def Flow.fresh : Flow :=
  { pc := 0, bclk := 0, bufs := [], loops := [], rstack := [], spilled := [], flights := [], landed := [], causes := [],
    tail := Tail.none, stop := .none, drain := .none, last := .none, lastTx := false, lastLoop := false,
    exempt := false, barrier := .none }

def Swage.fresh : Swage :=
  { store := [], queue := [], pused := 0, ckpts := [], trail := [], narrowed := [], busy := false }

def TrapSt.fresh : TrapSt :=
  { handler := false, tpcMoved := false, resume := .at_ 0, snapshot := [], shadow := none, held := [] }

def MemSide.fresh : MemSide :=
  { scr := [], scrPoison := [], acc := [], accPoison := [], trailPoison := [], te := [], outs := [], copies := [], gathers := [],
    divs := [], scats := [], hearth := [], nextId := 0, discard := [], savedOm := [], savedPoison := [], ahead := [] }

/-- Both planes zero, of class BF16 (R235). -/
def Anvil.fresh : Anvil :=
  { act := { cls := .bf16, lines := [] }, shadow := { cls := .bf16, lines := [] }, run := none, ldw := none,
    beats := [] }

def Budget.fresh : Budget :=
  { declared := 0xFFFFFFFF, counter := 0xFFFFFFFF, started := false, sliceStart := 0, spent := false, mark := false }

def Run.fresh : Run := { record := 0, accepted := [], suppress := [], account := 0, home := none, held := [], again := [] }

/-- Debug registers at reset (R294): WC's LOG2 is 3. -/
def Dbg.fresh : Dbg :=
  { dctl := 0, bk := [], wa := [], wc := [], dtlen := 0, speriod := 0, dstat := 0, dwaddr := 0, hist := [], detail := 0,
    count := 0, tags := [], pend := [] }

def Ident.fresh : Ident :=
  { pasid := 0, world := false, slot := 0, obj := 0, hash := 0, clen := 0, base := 0, share := 1, part := 1, homeq := 0, home := 0,
    deadline := 0xFFFFFFFFFFFFFFFF, ticket := 0, gang := none, core := 0, status := .running, atQwait := false,
    marked := false, unresumable := false, block := none, stopped := false, killed := false, stored := false, waiter := 0 }

/-- A context at a fresh start, before its record has given it anything (R111). -/
def Context.fresh : Context :=
  { id := .fresh, regs := .fresh, sys := .fresh, flow := .fresh, swage := .fresh, trap := .fresh, mem := .fresh,
    anvil := .fresh, budget := .fresh, run := .fresh, dbg := .fresh }

/-- The poison mark of the side-area bytes of row l of operand memory, beside mark l of its row bytes: the unit of a row is whole again when both
have been replaced (R342, R343). -/
def sideMark (l : Nat) : Nat := 4096 + l

/-- The operand slot of a mark. -/
def markSlot (m : Nat) : Nat := m % 4096 / 128

/-- An idle core (R288: every ingot, slot and store zeroed). -/
def Core.fresh : Core :=
  { cur := none, room := none, om := [], omPoison := [], overlays := [], owner := none, switch := 0, waited := 0, source := 0,
    credit := 0, lastIssue := 0, tried := none, fetch := [], trace := [] }

def VQueue.fresh : VQueue := { ticketMode := false, nt := 0, entries := [], waiters := [] }

/-- A cluster at reset: ticket counter 0 (R36), ordinary and FIFO modes (R39, R227), PC = PMAX = 2000 (R289). DESIGN CHOICE: the Temper defaults that
the configuration image brings are these (R288, log 178). -/
def Cluster.fresh : Cluster :=
  { ticket := 0, mode := [], sched := [], value := [], pc := 2000, pmax := 2000, clock := 0, stepLeft := 0 }

def Ring.fresh : Ring := { named := false, base := 0, size := 0, wp := 0, rp := 0, held := [], lost := 0, secret := [] }

def Trace.fresh : Trace := { base := 0, size := 0, wp := 0, mode := 0, lost := 0 }

def Template.fresh : Template := { dctl := 0, bk := [], wa := [], wc := [], dtlen := 0, speriod := 0 }

def Port.fresh : Port := { up := false, retries := 0, seq := 0 }

def Mailbox.fresh : Mailbox :=
  { booted := false, bootFailed := false, failed := false, queue := [], accepted := 0, completed := 0, completion := 0,
    overrun := false, preempt := none, unlisted := [], msix := [], aer := 0, doe := [] }

def Mmu.fresh : Mmu := { binds := [], prior := [], tlb := [], reqs := [], copies := [] }

def Fabric.fresh : Fabric :=
  { secure := [], secureCores := [], sdebug := false, bar0 := [], bar2 := [], hdm := [], routes := [], ports := [] }

/-- The package right after reset: nothing runs, memory lists nothing, and the boot of R288 is still to come. -/
def State.reset : State :=
  { live := .fresh, issue := .fresh, uid := 0, core := 0, verdict := .idle, beside := none, mcc := 0, tick := 0, micros := 0, script := [],
    inputs := [], ctxs := [], images := [], nextUid := 1, cores := [], clusters := [], gangs := [], mem := [], poison := [],
    mmu := .fresh, mail := .fresh, faults := .fresh, errors := .fresh, traces := [], templates := [],
    fabric := .fresh, answers := [] }

end Sys2Proof.Machine
end

