-- ==== Sys2Proof/Machine/Exact.lean ====
section
/-! DEFINITION. Exact accumulation: XA cells (R103 to R105) and the column sums of the Anvil (R106, R107, R237). -/

namespace Sys2Proof.Machine

/-! ### XA cells (R103) -/

/-- The contents XCLR writes: the reset column of R103. -/
def xaCleared : BitVec 512 := BitVec.ofNat 512 (0x003FFFFF * 2 ^ 384)

/-- N as a signed integer. -/
def xaN (c : BitVec 512) : Int := (recField c 0 320).toInt

/-- One addition (R104). -/
def xaAdd (c : BitVec 512) (x : W32) : BitVec 512 :=
  let c := recSet c 52 48 ((recField c 52 48).toNat + 1)
  let flags : BitVec 64 := recField c 40 64
  match unpackF32 x with
  | .nan p =>
    let c := recSet c 40 64 (flags ||| 4).toNat
    recSet c 48 22 (min (recField c 48 22).toNat p)
  | .inf neg => recSet c 40 64 (flags ||| if neg then 2 else 1).toNat
  | .fin neg m e => recSet c 0 320 ((xaN c + signedMag neg m * 2 ^ (e + 149).toNat) % 2 ^ 320).toNat

/-- A read with a rounding code: the FP32 result and the cell with FLAGS[3] as the read leaves it (R105). -/
def xaRead (c : BitVec 512) (rm : Rm) : W32 × BitVec 512 :=
  let flags : BitVec 64 := recField c 40 64
  let r : W32 × Bool :=
    if bitOf flags 2 then (quietNaN (recField c 48 22).toNat, false)
    else if bitOf flags 0 && bitOf flags 1 then (0x7FC00001, false)
    else if bitOf flags 0 then (infF32 false, false)
    else if bitOf flags 1 then (infF32 true, false)
    else packInt rm (xaN c) (-149)
  (r.1, recSet c 40 64 (if r.2 then flags ||| 8 else flags &&& ~~~8).toNat)

/-! ### Column sums (R106, R107) -/

/-- The empty sum. -/
def XSum.zero : XSum := { num := 0, exp := 0, pinf := false, ninf := false, nan := none, invalid := false }

/-- The smaller of two payloads, if any. -/
def minPayload : Option Nat → Option Nat → Option Nat
  | none, y => y
  | x, none => x
  | some p, some q => some (min p q)

/-- Adds a value. -/
def XSum.addVal (s : XSum) : FVal → XSum
  | .nan p => { s with nan := minPayload s.nan (some p) }
  | .inf neg => if neg then { s with ninf := true } else { s with pinf := true }
  | .fin neg m e =>
    if m = 0 then s
    else
      let t := addExact s.num s.exp (signedMag neg m) e
      { s with num := t.1, exp := t.2 }

/-- Adds a product (R107): NaN inputs count as inputs of the whole beat, 0 × ∞ makes it invalid. -/
def XSum.addProduct (s : XSum) (x y : FVal) : XSum :=
  match nanOf [x, y] with
  | some p => { s with nan := minPayload s.nan (some p) }
  | none => match mulExact x y with
    | some v => s.addVal v
    | none => { s with invalid := true }

/-- The column sum rounded once, an exact zero being +0 in every mode (R106, R107). -/
def XSum.round (s : XSum) (rm : Rm) : W32 :=
  match s.nan with
  | some p => quietNaN p
  | none =>
    if s.invalid || (s.pinf && s.ninf) then invalidNaN
    else if s.pinf then infF32 false
    else if s.ninf then infF32 true
    else (packInt rm s.num s.exp).1

/-- A beat's column applied to the accumulator value in one rounding; ACCZ leaves the old value out (R106, R237). -/
def XSum.into (s : XSum) (zero : Bool) (rm : Rm) (acc : W32) : W32 :=
  if zero then s.round rm else (s.addVal (unpackF32 acc)).round rm

end Sys2Proof.Machine
end

