-- ==== Sys2Proof/Machine/Domain.lean ====
section
/-! DEFINITION. Domain arithmetic: the set a k register denotes, hulls, the assign forms and the relational forms
(R80 to R87, R160 to R163). Every result is the hull of an exact set. -/

namespace Sys2Proof.Machine

/-- LO of a domain, signed (R80). -/
def domLo (d : Dom) : Int := (d.extractLsb' 0 32).toInt

/-- HI of a domain, signed (R80). -/
def domHi (d : Dom) : Int := (d.extractLsb' 32 32).toInt

/-- MASK of a domain (R80). -/
def domMask (d : Dom) : Nat := (d.extractLsb' 64 64).toNat

/-- A domain from its fields (R80). -/
def domMake (lo hi : Int) (mask : Nat) : Dom :=
  BitVec.ofNat 128 (mask % 2 ^ 64 * 2 ^ 64 + (BitVec.ofInt 32 hi).toNat * 2 ^ 32 + (BitVec.ofInt 32 lo).toNat)

/-- The runs of the set bits of a mask whose bit 0 stands for x; cur is the start of a run in course. -/
def maskRuns : Nat → Nat → Int → Option Int → Runs
  | 0, _, x, some s => [(s, x - 1)]
  | 0, _, _, none => []
  | n + 1, m, x, cur =>
    if m % 2 = 1 then maskRuns n (m / 2) (x + 1) (some (cur.getD x))
    else match cur with
      | some s => (s, x - 1) :: maskRuns n (m / 2) (x + 1) none
      | none => maskRuns n (m / 2) (x + 1) none

/-- The window of a domain: its members at LO + 0 to LO + 63 (R81, R86). -/
def domWindow (d : Dom) : Runs :=
  if (domHi d) < (domLo d) then [] else maskRuns (min ((domHi d) - (domLo d)) 63 + 1).toNat (domMask d) (domLo d) none

/-- The set a pattern denotes (R81). -/
def domRuns (d : Dom) : Runs :=
  if (domHi d) ≤ (domLo d) + 63 then (domWindow d) else (domWindow d).add ((domLo d) + 64) (domHi d)

/-- The canonical domain with given bounds and membership (R82). -/
def hullOf (lo hi : Int) (mem : Int → Bool) : Dom :=
  domMake lo hi (packBits 64)
where
  packBits : Nat → Nat
    | 0 => 0
    | n + 1 => packBits n + if lo + n ≤ hi && mem (lo + n) then 2 ^ n else 0

/-- hull(T), or none for the empty set (R82). -/
def hull (s : PSet) : Option Dom :=
  match s.min?, s.max? with
  | some l, some h => some (hullOf l h s.mem)
  | _, _ => none

/-- The hull of a set of runs. -/
def hullRuns (rs : Runs) : Option Dom := hull (PSet.ofRuns rs)

/-- The singleton {v} of a 32-bit value (R82). -/
def domSingle (v : Int) : Dom := domMake v v 1

/-- The only member, when a domain has exactly one. -/
def domMember? (d : Dom) : Option Int :=
  match (domRuns d) with
  | [(a, b)] => if a = b then some a else none
  | _ => none

/-! ### Products modulo 2^32 -/

/-- The smallest t ≥ 0 with l ≤ (a t) mod m ≤ r, for 0 < l ≤ r < m, by Euclid's scheme. -/
def firstIn : Nat → Nat → Nat → Nat → Nat → Option Nat
  | 0, _, _, _, _ => none
  | fuel + 1, a, m, l, r =>
    if a = 0 then none
    else
      let c := (l + a - 1) / a
      if c * a ≤ r then some c
      else match firstIn fuel (m % a) a ((a - r % a) % a) ((a - l % a) % a) with
        | none => none
        | some y => some ((l + m * y + a - 1) / a)

/-- Whether (a t + b) mod m ≤ v for some t below n. -/
def someBelow (a b m n v : Nat) : Bool :=
  if b ≤ v then n > 0
  else match firstIn 128 a m (m - b) (m - b + v) with
    | some t => t < n
    | none => false

/-- The smallest value of (a t + b) mod m over t below n, by bisection: the answer has its high bits in acc. -/
def minMod (a b m n : Nat) : Nat → Nat → Nat
  | 0, acc => acc
  | k + 1, acc => if someBelow a b m n (acc + 2 ^ k - 1) then minMod a b m n k acc else minMod a b m n k (acc + 2 ^ k)

/-- The smallest wrapped product x y for l ≤ x ≤ h. -/
def mulWrapMin (l h y : Int) : Int :=
  let m : Nat := 2 ^ 32
  (minMod (y % m).toNat ((l * y + 2 ^ 31) % m).toNat m (h - l + 1).toNat 32 0 : Int) - 2 ^ 31

/-- The largest wrapped product x y for l ≤ x ≤ h. -/
def mulWrapMax (l h y : Int) : Int :=
  let m : Nat := 2 ^ 32
  2 ^ 31 - 1 - (minMod (-y % m).toNat ((2 ^ 31 - 1 - l * y) % m).toNat m (h - l + 1).toNat 32 0 : Int)

/-- The inverse of an odd number modulo a power of two, by Newton's iteration. -/
def oddInverse : Nat → Nat → Nat → Nat
  | 0, _, x => x
  | n + 1, y, x => oddInverse n y (x * (2 ^ 33 + 2 - y * x % 2 ^ 32) % 2 ^ 32)

/-- Whether x y is congruent to v modulo 2^32 for some l ≤ x ≤ h. -/
def mulWrapMem (l h y v : Int) : Bool :=
  let m : Nat := 2 ^ 32
  let yn := (y % m).toNat
  let vn := (v % m).toNat
  let g := Nat.gcd yn m
  if vn % g ≠ 0 then false
  else
    let k : Int := (m / g : Nat)
    let x0 : Int := ((vn / g) * oddInverse 6 (yn / g) 1 : Nat) % k
    let first := l + (x0 - l) % k
    first ≤ h

/-- Whether p accepts some member of a run, scanning upward. -/
def runAny (p : Int → Bool) (r : Int × Int) : Bool := (findUp p (r.2 - r.1 + 1).toNat r.1).isSome

/-- The products of the bounds of two sets: their least and greatest. -/
def corners (xs ys : Runs) : Int × Int :=
  match xs.min?, xs.max?, ys.min?, ys.max? with
  | some a, some b, some c, some d =>
    (min (min (a * c) (a * d)) (min (b * c) (b * d)), max (max (a * c) (a * d)) (max (b * c) (b * d)))
  | _, _, _, _ => (0, -1)

/-- The image {wrap32(x y)} (R84). -/
def mulImage (xs ys : Runs) : PSet :=
  let (big, small) := if ys.card ≤ xs.card then (xs, ys) else (ys, xs)
  let mem := fun v => small.any (runAny fun y => big.any fun r => mulWrapMem r.1 r.2 y v)
  let c := corners xs ys
  if xs.card * ys.card ≤ 4096 then
    PSet.ofRuns (Runs.of (xs.members.flatMap fun x => ys.members.map fun y => (wrap32 (x * y), wrap32 (x * y))))
  else if -2 ^ 31 ≤ c.1 && c.2 ≤ 2 ^ 31 - 1 then { lo := c.1, hi := c.2, mem := mem }
  else if small.card ≤ 4096 then
    { lo := small.members.foldl (fun acc y => big.foldl (fun acc r => min acc (mulWrapMin r.1 r.2 y)) acc) (2 ^ 31 - 1)
      hi := small.members.foldl (fun acc y => big.foldl (fun acc r => max acc (mulWrapMax r.1 r.2 y)) acc) (-2 ^ 31)
      mem := mem }
  else { lo := -2 ^ 31, hi := 2 ^ 31 - 1, mem := mem }

/-! ### Bitwise images, digit by digit -/

/-- Signed runs as runs of 32-bit patterns. -/
def patterns (xs : Runs) : List (Nat × Nat) :=
  xs.flatMap fun r =>
    (if 0 ≤ r.2 then [((max r.1 0).toNat, r.2.toNat)] else []) ++
    (if r.1 < 0 then [((r.1 + 2 ^ 32).toNat, (min r.2 (-1) + 2 ^ 32).toNat)] else [])

/-- One bit of a bounded number: given which bounds are still tight (bit 0 the lower, bit 1 the upper) and the digit,
the tightness that follows, or none when the digit leaves the bounds. -/
def tighten (t lo hi digit : Nat) : Option Nat :=
  if (t % 2 = 1 ∧ digit < lo) ∨ (t / 2 = 1 ∧ digit > hi) then none
  else some ((if t % 2 = 1 ∧ digit = lo then 1 else 0) + (if t / 2 = 1 ∧ digit = hi then 2 else 0))

/-- The states (x tightness, y tightness) reachable with result bit `want` at bit position i. -/
def digitStep (op : Nat → Nat → Nat) (x y : Nat × Nat) (i want : Nat) (states : List (Nat × Nat)) : List (Nat × Nat) :=
  let bit (n : Nat) : Nat := n / 2 ^ i % 2
  (states.flatMap fun s => [(0, 0), (0, 1), (1, 0), (1, 1)].flatMap fun d =>
    if op d.1 d.2 = want then
      match tighten s.1 (bit x.1) (bit x.2) d.1, tighten s.2 (bit y.1) (bit y.2) d.2 with
      | some a, some b => [(a, b)]
      | _, _ => []
    else []).eraseDups

/-- The least (or greatest) result pattern in signed order, from bit n - 1 down: `first` is the digit tried first. -/
def digitBest (op : Nat → Nat → Nat) (x y : Nat × Nat) (least : Bool) : Nat → List (Nat × Nat) → Nat → Nat
  | 0, _, acc => acc
  | n + 1, st, acc =>
    let first := if (n = 31) = least then 1 else 0
    match digitStep op x y n first st with
    | [] => digitBest op x y least n (digitStep op x y n (1 - first) st) (acc + (1 - first) * 2 ^ n)
    | st' => digitBest op x y least n st' (acc + first * 2 ^ n)

/-- Whether the result pattern v occurs. -/
def digitMem (op : Nat → Nat → Nat) (x y : Nat × Nat) (v : Nat) : Nat → List (Nat × Nat) → Bool
  | 0, st => !st.isEmpty
  | n + 1, st => digitMem op x y v n (digitStep op x y n (v / 2 ^ n % 2) st)

/-- A 32-bit pattern as a signed value. -/
def signed32 (n : Nat) : Int := (BitVec.ofNat 32 n).toInt

/-- The image of a bitwise operation on 32-bit patterns (R161). -/
def bitImage (op : Nat → Nat → Nat) (xs ys : Runs) : PSet :=
  let ps := (patterns xs).flatMap fun x => (patterns ys).map fun y => (x, y)
  let best (least : Bool) (p : (Nat × Nat) × (Nat × Nat)) := signed32 (digitBest op p.1 p.2 least 32 [(3, 3)] 0)
  match ps with
  | [] => PSet.empty
  | p :: t =>
    { lo := t.foldl (fun m q => min m (best true q)) (best true p)
      hi := t.foldl (fun m q => max m (best false q)) (best false p)
      mem := fun v => ps.any fun q => digitMem op q.1 q.2 (v % 2 ^ 32).toNat 32 [(3, 3)] }

/-- The digit functions of AND, OR and XOR. -/
def digitAnd (a b : Nat) : Nat := a * b
def digitOr (a b : Nat) : Nat := a + b - a * b
def digitXor (a b : Nat) : Nat := (a + b) % 2

/-! ### Shifts -/

/-- The shift counts y[4:0] that a set of members gives (R84). -/
def shiftCounts (ys : Runs) : List Nat :=
  (List.range 32).filter fun s => ys.any fun r => r.1 + ((s : Int) - r.1) % 32 ≤ r.2

/-- The image of SHL, SHR or SAR (R161). -/
def shlImage (xs ys : Runs) : PSet :=
  PSet.ofAPs ((shiftCounts ys).flatMap fun s => xs.flatMap fun r =>
    let k : Int := 2 ^ (32 - s)
    let l := r.1 % k
    if r.2 - r.1 + 1 ≥ k then [{ lo := -2 ^ 31, hi := 2 ^ 31 - 2 ^ s, step := 2 ^ s }]
    else AP.wrap { lo := l * 2 ^ s, hi := (l + (r.2 - r.1)) * 2 ^ s, step := 2 ^ s })

def shrImage (xs ys : Runs) : PSet :=
  PSet.ofRuns (Runs.of ((shiftCounts ys).flatMap fun s => (patterns xs).flatMap fun p =>
    (AP.wrap { lo := p.1 / 2 ^ s, hi := p.2 / 2 ^ s, step := 1 }).map fun q => (q.lo, q.hi)))

def sarImage (xs ys : Runs) : PSet :=
  PSet.ofRuns (Runs.of ((shiftCounts ys).flatMap fun s => xs.map fun r => (r.1 / 2 ^ s, r.2 / 2 ^ s)))

/-! ### Assign forms -/

/-- Runs of exact values, wrapped to 32 bits (R84). -/
def wrapRuns (rs : Runs) : PSet :=
  PSet.ofRuns (Runs.of (rs.flatMap fun r => (AP.wrap { lo := r.1, hi := r.2, step := 1 }).map fun q => (q.lo, q.hi)))

/-- The image of the members under x times an immediate, wrapped (R160). -/
def muliImage (xs : Runs) (imm : Int) : PSet :=
  PSet.ofAPs (xs.flatMap fun r =>
    if imm = 0 then [{ lo := 0, hi := 0, step := 1 }]
    else if 0 < imm then AP.wrap { lo := r.1 * imm, hi := r.2 * imm, step := imm }
    else AP.wrap { lo := r.2 * imm, hi := r.1 * imm, step := -imm })

/-- The image of an arithmetic assign form (R160); the immediate forms take ys = {imm}. -/
def assignImage (op : RelOp) (xs ys : Runs) (imm : Int) : PSet :=
  match op with
  | .add => wrapRuns (xs.sum ys)
  | .sub => wrapRuns (xs.sum ys.neg)
  | .mul => mulImage xs ys
  | .min => PSet.ofRuns (xs.minSet ys)
  | .max => PSet.ofRuns (xs.neg.minSet ys.neg).neg
  | .abs => wrapRuns xs.abs
  | .neg => wrapRuns xs.neg
  | .mov => PSet.ofRuns xs
  | .addi => wrapRuns (xs.sum [(imm, imm)])
  | .muli => muliImage xs imm
  | _ => PSet.empty

/-- A predicate value (R88). -/
def predF : BitVec 2 := 0
def predT : BitVec 2 := 1
def predU : BitVec 2 := 2

/-- T when `all`, F when `no`, U otherwise. -/
def verdict3 (all no : Bool) : BitVec 2 := if all then predT else if no then predF else predU

/-- An assign comparison over two sets (R84, R162). -/
def compareSets (op : RelOp) (xs ys : Runs) : BitVec 2 :=
  match xs.min?, xs.max?, ys.min?, ys.max? with
  | some a, some b, some c, some d =>
    let same := a == b && c == d && a == c
    let apart := (xs.inter ys).isEmpty
    match op with
    | .eq | .eqi => verdict3 same apart
    | .ne | .nei => verdict3 apart same
    | .lt | .lti => verdict3 (b < c) (a ≥ d)
    | .le | .lei => verdict3 (b ≤ c) (a > d)
    | .gti => verdict3 (a > d) (b ≤ c)
    | .gei => verdict3 (a ≥ d) (b < c)
    | _ => predU
  | _, _, _, _ => predU

/-! ### Relational forms -/

/-- ceil(z / x) for positive x. -/
def ceilDiv (z x : Int) : Int := -((-z) / x)

/-- The x in [l, h] with x y in [z1, z2], for y not 0. -/
def quotients (y l h : Int) (z : Int × Int) : Int × Int :=
  if 0 < y then (max l (ceilDiv z.1 y), min h (z.2 / y)) else (max l (ceilDiv (-z.2) (-y)), min h (-z.1 / -y))

/-- Whether x times some member of ys lies in zs. -/
def hasPartner (ys zs : Runs) (x : Int) : Bool :=
  if x = 0 then zs.mem 0 && !ys.isEmpty
  else ys.any fun r => zs.any fun z => let q := quotients x r.1 r.2 z; q.1 ≤ q.2

/-- The least x of [l, h] with a partner y in ys, taken over the members y of small magnitude. -/
def leastByPartner (ys zs : Runs) (l h : Int) : Option Int :=
  ((ys.inter [(-46341, -1), (1, 46341)]).members).foldl (fun acc y =>
    zs.foldl (fun acc z =>
      let q := quotients y l h z
      if q.1 ≤ q.2 then some (match acc with | some m => min m q.1 | none => q.1) else acc) acc) none

/-- The least x of [l, h] with a partner (R86). Beyond 46341 = ceil(sqrt(2^31)) in magnitude a partner is small. -/
def leastFactor (ys zs : Runs) (l h : Int) : Option Int :=
  if h < l then none
  else if ys.mem 0 && zs.mem 0 then some l
  else
    let s : Int := 46341
    match leastByPartner ys zs l (min h (-s - 1)) with
    | some x => some x
    | none =>
      let l' := max l (-s)
      match findUp (hasPartner ys zs) (min h s - l' + 1).toNat l' with
      | some x => some x
      | none => leastByPartner ys zs (max l (s + 1)) h

/-- The greatest x of [l, h] with a partner. -/
def greatestFactor (ys zs : Runs) (l h : Int) : Option Int := (leastFactor ys.neg zs (-h) (-l)).map (- ·)

/-- The projection of a product onto a source (R86): exact in the window, by bounds on the dense tail. -/
def factorSet (d : Dom) (ys zs : Runs) : Runs :=
  let exact := Runs.of ((domWindow d).members.filterMap fun x => if hasPartner ys zs x then some (x, x) else none)
  let t := ((domLo d) + 64, (domHi d))
  let lo := match exact.min? with
    | some x => some x
    | none => leastFactor ys zs t.1 t.2
  let hi := match greatestFactor ys zs t.1 t.2 with
    | some x => some x
    | none => exact.max?
  match lo, hi with
  | some l, some h => exact.union (Runs.of [(max t.1 l, min t.2 h)])
  | _, _ => []

/-- Whether z is a product of members of xs and ys, trying divisors up to the square root of |z|. -/
def isProduct (xs ys : Runs) (z : Int) : Bool :=
  if z = 0 then (xs.mem 0 && !ys.isEmpty) || (ys.mem 0 && !xs.isEmpty)
  else
    let n := z.natAbs
    let pair (x y : Int) : Bool := xs.mem x && ys.mem y
    let try_ (t : Int) : Bool :=
      z % t == 0 && (pair t (z / t) || pair (z / t) t || pair (-t) (-(z / t)) || pair (-(z / t)) (-t))
    (findUp try_ (isqrt n) 1).isSome

/-- The projection of a product onto d, exact (R86). -/
def productSet (zs xs ys : Runs) : PSet :=
  let (big, small) := if ys.card ≤ xs.card then (xs, ys) else (ys, xs)
  if xs.card * ys.card ≤ 4096 then
    PSet.ofRuns (zs.inter (Runs.of (xs.members.flatMap fun x => ys.members.map fun y => (x * y, x * y))))
  else if small.card ≤ 4096 then
    PSet.ofAPs (small.members.flatMap fun y => big.flatMap fun r => zs.flatMap fun z =>
      if y = 0 then (if z.1 ≤ 0 && 0 ≤ z.2 then [{ lo := 0, hi := 0, step := 1 }] else [])
      else
        let q := quotients y r.1 r.2 z
        if q.1 ≤ q.2 then
          (if 0 < y then [{ lo := q.1 * y, hi := q.2 * y, step := y }]
            else [{ lo := q.2 * y, hi := q.1 * y, step := -y }])
        else [])
  else
    let c := corners xs ys
    match zs.min?, zs.max? with
    | some l, some h => { lo := max l c.1, hi := min h c.2, mem := fun z => zs.mem z && isProduct xs ys z }
    | _, _ => PSet.empty

/-- Which operands a relation has: D, A, B (R160, R162). -/
def RelOp.operands : RelOp → Bool × Bool × Bool
  | .add | .sub | .mul | .min | .max => (true, true, true)
  | .abs | .neg | .mov | .addi | .muli => (true, true, false)
  | .eq | .ne | .lt | .le => (false, true, true)
  | .eqi | .nei | .lti | .lei | .gti | .gei => (false, true, false)

/-- The members of min(a, b) = d that a can take: those of zs not above ys, and those above some common value. -/
def minSource (xs ys zs : Runs) : Runs :=
  match ys.max? with
  | none => []
  | some m =>
    let low := (xs.inter zs).below m
    match (ys.inter zs).min? with
    | some c => low.union (xs.above c)
    | none => low

/-- The members of zs that are min(a, b). -/
def minResult (zs xs ys : Runs) : Runs :=
  match xs.max?, ys.max? with
  | some a, some b => ((zs.inter xs).below b).union ((zs.inter ys).below a)
  | _, _ => []

/-- xs without the only member of ys, when ys has just one (R162). -/
def apartFrom (xs ys : Runs) : Runs :=
  match ys.min?, ys.max? with
  | some a, some b => if a = b then xs.without a else xs
  | _, _ => []

/-- The projections of a relation onto d, a and b (R85, R86), from the old domains. -/
def project (op : RelOp) (d a b : Dom) (imm : Int) : PSet × PSet × PSet :=
  let z := (domRuns d)
  let x := (domRuns a)
  let y := (domRuns b)
  let i : Runs := [(imm, imm)]
  let r := PSet.ofRuns
  match op with
  | .add => (r (z.inter (x.sum y)), r (x.inter (z.sum y.neg)), r (y.inter (z.sum x.neg)))
  | .sub => (r (z.inter (x.sum y.neg)), r (x.inter (z.sum y)), r (y.inter (x.sum z.neg)))
  | .mul => (productSet z x y, r (factorSet a y z), r (factorSet b x z))
  | .min => (r (minResult z x y), r (minSource x y z), r (minSource y x z))
  | .max => (r (minResult z.neg x.neg y.neg).neg, r (minSource x.neg y.neg z.neg).neg,
      r (minSource y.neg x.neg z.neg).neg)
  | .abs => (r (z.inter x.abs), r (x.inter (z.union z.neg |>.inter ((z.above 0).union (z.above 0).neg))), r y)
  | .neg => (r (z.inter x.neg), r (x.inter z.neg), r y)
  | .mov => (r (z.inter x), r (x.inter z), r y)
  | .addi => (r (z.inter (x.sum i)), r (x.inter (z.sum i.neg)), r y)
  | .muli => (productSet z x i, r (factorSet a i z), r y)
  | .eq => (r z, r (x.inter y), r (y.inter x))
  | .ne => (r z, r (apartFrom x y), r (apartFrom y x))
  | .lt => (r z, r (match y.max? with | some m => x.below (m - 1) | none => []),
      r (match x.min? with | some m => y.above (m + 1) | none => []))
  | .le => (r z, r (match y.max? with | some m => x.below m | none => []),
      r (match x.min? with | some m => y.above m | none => []))
  | .eqi => (r z, r (x.inter i), r y)
  | .nei => (r z, r (x.without imm), r y)
  | .lti => (r z, r (x.below (imm - 1)), r y)
  | .lei => (r z, r (x.below imm), r y)
  | .gti => (r z, r (x.above (imm + 1)), r y)
  | .gei => (r z, r (x.above imm), r y)

/-- The operand positions of a relation with their registers and projections, in the order D, A, B. -/
def Rel.positions (rel : Rel) (read : BitVec 6 → Dom) : List (BitVec 6 × PSet) :=
  let p := project rel.op (read rel.d) (read rel.a) (read rel.b) rel.imm.toInt
  let o := rel.op.operands
  (if o.1 then [(rel.d, p.1)] else []) ++ (if o.2.1 then [(rel.a, p.2.1)] else []) ++
    (if o.2.2 then [(rel.b, p.2.2)] else [])

/-- The sets of a register's positions, intersected (R87). -/
def meetAt (r : BitVec 6) : List (BitVec 6 × PSet) → Option PSet
  | [] => none
  | (q, s) :: t =>
    if q = r then
      match meetAt r t with
      | some s' => some (s.inter s')
      | none => some s
    else meetAt r t

/-- One application of a relation (R85 to R87): the operand registers and their new domains, written each whether it narrows or not, or the register
of the first operand left empty (R166). -/
def Rel.apply (rel : Rel) (read : BitVec 6 → Dom) : Except (BitVec 6) (List (BitVec 6 × Dom)) :=
  let ps := rel.positions read
  match ps.find? fun p => (hull p.2).isNone with
  | some p => .error p.1
  | none =>
    let rs := (ps.map (·.1)).eraseDups
    let news := rs.map fun r => (r, (meetAt r ps).bind hull)
    match news.find? fun n => n.2.isNone with
    | some n => .error n.1
    | none => .ok (news.filterMap fun n => match n.2 with
      | some x => if n.1 = 0 then none else some (n.1, x)
      | none => none)

/-- Whether a relation names a register (R165). -/
def Rel.names (rel : Rel) (r : BitVec 6) : Bool :=
  let o := rel.op.operands
  (o.1 && rel.d = r) || (o.2.1 && rel.a = r) || (o.2.2 && rel.b = r)

end Sys2Proof.Machine
end

