-- ==== Sys2Proof/Config.lean ====
section
/-! DEFINITION. What the manual leaves to an implementation or to the outside world: every constant here has no body,
so nothing can be proved of its value. Each is named in the assumption log. -/

namespace Sys2Proof.Config

/-- Which of several moves that the manual puts in no order comes next (R12, R37, R258, R293): a number for each value
of the free-choice counter. -/
opaque choice : Nat → Nat

/-- Whether a control-block read that may be served from a held copy is so served (R262). -/
opaque stale : Nat → Bool

/-- Whether a bank word that an LDS reads one bundle after an STS to it, or while a scatter writes it, is the old one
(R59, R219, R220). -/
opaque oldWord : Nat → Nat → Bool

/-- The bytes of an image and of trail ingots as an eviction writes them, by the free-choice counter and the offset from the image: the manual
gives them no layout (R19, R55). -/
opaque savedByte : Nat → Nat → Byte

/-- The block-scale code that a conversion chooses in a format whose only finite value is zero, given the format value
and the largest magnitude as an FP32 pattern: R97 states none. -/
opaque freeScale : BitVec 32 → BitVec 32 → BitVec 8

/-- Whether both images pass their signature checks at boot (R288). -/
opaque imagesValid : Bool

/-- The secure 1 GiB regions that the configuration image names, as stack * 64 + entry (R76, R288). -/
opaque secureRegions : List Nat

/-- The secure cores that the configuration image names (R76, R288). -/
opaque secureCores : List Nat

/-- The link ports that the configuration image enables (R288). -/
opaque enabledPorts : List Nat

/-- The SDEBUG bit of the configuration image (R291). -/
opaque sdebug : Bool

/-- The SHA-256 digests of the firmware and the configuration image (R288). -/
opaque imageHashes : BitVec 512

/-- SHA-256 (R137, R288). -/
opaque sha256 : List Byte → BitVec 256

/-- An SLH-DSA-SHA2-128s signature with the device identity key (R288). -/
opaque sign : List Byte → List Byte

end Sys2Proof.Config
end

