-- ==== Sys2Proof/Machine/Memory.lean ====
section
/-! DEFINITION. Memory and translation: one canonical list of bytes for device DRAM, host and peer memory (R52, R68, R69),
poison (R343), worlds (R76, R77), routes (R287, R348), page walks (R70 to R74). -/

namespace Sys2Proof.Machine

/-- What a byte reads as that nothing has written: 0 (the manual gives none; see the log). -/
def memDefault : Byte := 0

/-- Bytes of device DRAM (R279). -/
def deviceSize : Nat := 2 ^ 39

/-- The canonical form of memory: addresses strictly rising, no entry equal to what an unlisted address reads as. -/
abbrev Memory.wf (m : List Host.Cell) : Bool := Tbl.wf memDefault m

/-- The bases at which HDM decoder 0 of the ports shows device DRAM; before the host programs one, DRAM lies at 0 (R279). -/
def hdmBases (hdm : Tbl W64) : List Nat := if hdm.isEmpty then [0] else hdm.map fun e => e.2.toNat

/-- The place of a physical address in the list: device DRAM by offset, everything else above it (R68, R279). -/
def keyOf (hdm : Tbl W64) (pa : Nat) : Nat :=
  match (hdmBases hdm).find? fun b => b ≤ pa && pa < b + deviceSize with
  | some b => pa - b
  | none => deviceSize + pa

/-- One byte. -/
def State.byte (s : State) (key : Nat) : Byte := Tbl.get memDefault s.mem key

/-- n bytes from a place on. -/
def State.bytes (s : State) (key : Nat) : Nat → List Byte
  | 0 => []
  | n + 1 => s.byte key :: s.bytes (key + 1) n

/-- Writes bytes into a memory. -/
def putBytes (m : List Host.Cell) (key : Nat) : List Byte → List Host.Cell
  | [] => m
  | b :: t => putBytes (Tbl.set memDefault m key b) (key + 1) t

/-- The numbers of the 64-byte lines that [key, key + n) touches. -/
def linesOf (key n : Nat) : List Nat :=
  if n = 0 then [] else (List.range ((key + n - 1) / 64 - key / 64 + 1)).map (· + key / 64)

/-- The lines that [key, key + n) covers whole. -/
def wholeLines (key n : Nat) : List Nat := (linesOf key n).filter fun l => key ≤ 64 * l && 64 * l + 64 ≤ key + n

/-- Whether any line of a range is poisoned (R343). -/
def State.isPoisoned (s : State) (key n : Nat) : Bool := (linesOf key n).any fun l => s.poison.contains l

/-- Writes bytes; a line that is written whole loses its mark (R343). -/
def State.store (s : State) (key : Nat) (bs : List Byte) : State :=
  { s with mem := putBytes s.mem key bs,
           poison := (wholeLines key bs.length).foldl (fun p l => removeNat l p) s.poison }

/-- Poisons the lines of a range. -/
def State.poisonLines (s : State) (key n : Nat) : State :=
  { s with poison := (linesOf key n).foldl (fun p l => insertNat l p) s.poison }

/-- A 64-byte block (R3). -/
def State.block (s : State) (key : Nat) : BitVec 512 := BitVec.ofNat 512 (leNat (s.bytes key 64))

/-- A little-endian number of n bytes. -/
def State.word (s : State) (key n : Nat) : Nat := leNat (s.bytes key n)

/-- Writes a 64-byte block. -/
def State.storeBlock (s : State) (key : Nat) (x : BitVec 512) : State := s.store key (leBytes 64 x.toNat)

/-- The stack that homes a place of device DRAM (R68). -/
def stackOf (key : Nat) : Nat := key / 2 ^ 36 % 8

/-- Whether a place lies in a secure region (R76). -/
def State.isSecure (s : State) (key : Nat) : Bool := key < deviceSize && s.fabric.secure.contains (key / 2 ^ 30)

/-- Whether a port is up. -/
def State.portUp (s : State) (n : Nat) : Bool := (Tbl.get Port.fresh s.fabric.ports n).up

/-- The port number of a CXL port: 16 and 17, after the Suzamal ports 0 to 15. -/
def cxlPort (n : Nat) : Nat := 16 + n

/-- Whether both CXL ports are down: the host is out of reach (R348). -/
def State.hostCut (s : State) : Bool := !s.portUp (cxlPort 0) && !s.portUp (cxlPort 1)

/-- The route entry that an address outside device DRAM falls under (R287). -/
def State.routeOf (s : State) (key : Nat) : Option (W64 × BitVec 16) :=
  if key < deviceSize then none
  else (s.fabric.routes.find? fun e => e.2.1.toNat ≤ key - deviceSize && key - deviceSize < e.2.1.toNat + 2 ^ 39).map (·.2)

/-- Whether a place is memory of a peer package. -/
def State.isPeer (s : State) (key : Nat) : Bool := (s.routeOf key).isSome

/-- Whether a place is host memory. -/
def State.isHost (s : State) (key : Nat) : Bool := deviceSize ≤ key && !s.isPeer key

/-- The port that carries an access to a place of a peer or of the host: of a route entry's ports those that are up, spread by bits [13:6] of
the address (R287, R348); of the CXL ports the first that is up. DESIGN CHOICE: the spread is the remainder by their number (log 161). -/
def State.carrier (s : State) (key : Nat) : Option Nat :=
  let ports := match s.routeOf key with
    | some (_, mask) => (List.range 16).filter fun n => bitOf mask n && s.portUp n
    | none => [cxlPort 0, cxlPort 1].filter s.portUp
  match ports with
  | [] => none
  | p :: t => if (s.routeOf key).isSome then ((p :: t)[key / 64 % 256 % (t.length + 1)]?).or (some p) else some p

/-- Whether every port on the way to a place is down (R348). -/
def State.linkDown (s : State) (key : Nat) : Bool := deviceSize ≤ key && (s.carrier key).isNone

/-! ### Bindings and the walk descriptor (R70, R284) -/

/-- The binding of a PASID. -/
def State.bind? (s : State) (pasid : BitVec 20) : Option Bind := Tbl.find s.mmu.binds pasid.toNat

/-- The binding that operation id of a context goes by: the one replaced since it was issued, if there is one (R284). -/
def State.bindFor (s : State) (pasid : BitVec 20) (uid id : Nat) : Option Bind :=
  ((s.mmu.prior.find? fun p => p.uid = uid && decide (id < p.below)).map (·.bind)).or (s.bind? pasid)

/-- Whose translations an access goes by: PASID, WORLD, the core whose TLBs it uses (R13, R77), which operation of which context it is, where
that decides between a binding and the one it has replaced (R284), and whose read it is where the device itself reads (R325). -/
structure Agent where
  pasid : BitVec 20
  world : Bool
  core : Nat
  op : Option (Nat × Nat) := none
  reader : Reader := .none
  deriving DecidableEq, Repr

/-- A context as it accesses memory. -/
def Context.agent (c : Context) : Agent := { pasid := c.id.pasid, world := c.id.world, core := c.id.core }

/-- A context as a reader in its name accesses memory. -/
def Context.reads (c : Context) (r : Reader) : Agent := { c.agent with reader := r }

/-- A context as the bundle where it stands reads a table. -/
def Context.asks (c : Context) (uid : Nat) : Agent := c.reads (.ctx uid c.flow.bclk c.flow.pc)

/-- A context as its operation with an order number accesses memory. -/
def Context.agentOf (c : Context) (uid id : Nat) : Agent := { c.agent with op := some (uid, id) }

/-- The binding that an agent goes by (R284). -/
def State.bindingOf (s : State) (w : Agent) : Option Bind :=
  match w.op with
  | some (uid, id) => s.bindFor w.pasid uid id
  | none => s.bind? w.pasid

/-- Field [hi:lo] of a descriptor or an entry. -/
def bitsOf (x lo n : Nat) : Nat := x / 2 ^ lo % 2 ^ n

/-- The fields of a walk descriptor (R70). -/
structure Desc where
  root : Nat
  offbits : Nat
  leafok : Nat
  esize : Nat
  levels : Nat
  idx : List Nat
  lf : Nat
  nx : Nat
  d : Nat
  a : Nat
  u : Nat
  w : Nat
  pres : Nat
  pahi : Nat
  palo : Nat
  zeros : Bool
  deriving DecidableEq, Repr

/-- Reads a descriptor's fields (R70). Reserved bits of a control block read from memory are ignored (R311); `zeros` tells whether the parts that
the layout wants zero without reserving them are: ROOT[11:0] and the index fields beyond LEVELS. DESIGN CHOICE: PAFIELD[15:14] and [7:6], which
the layout does not name, are ignored too (log 183). -/
def descOf (x : BitVec 256) : Desc :=
  let n := x.toNat
  let form := bitsOf n 64 32
  let idx := bitsOf n 96 32
  let pos := bitsOf n 128 64
  let pf := bitsOf n 192 16
  let levels := bitsOf form 0 3
  { root := bitsOf n 0 64, offbits := bitsOf form 10 5, leafok := bitsOf form 4 6, esize := if bitsOf form 3 1 = 0 then 8 else 4,
    levels := levels, idx := (List.range 6).map fun i => bitsOf idx (5 * i) 5, lf := bitsOf pos 56 6, nx := bitsOf pos 48 6,
    d := bitsOf pos 40 6, a := bitsOf pos 32 6, u := bitsOf pos 24 6, w := bitsOf pos 16 6, pres := bitsOf pos 8 6,
    pahi := bitsOf pf 8 6, palo := bitsOf pf 0 6,
    zeros := bitsOf n 0 12 = 0 && (List.range 6).all fun i => i < levels || bitsOf idx (5 * i) 5 = 0 }

/-- The index bits of level n. -/
def Desc.bitsAt (d : Desc) (n : Nat) : Nat := d.idx.getD n 0

/-- Address bits below level n: log2 of the bytes that a leaf at level n maps (R70). -/
def Desc.below (d : Desc) : Nat → Nat
  | 0 => d.offbits
  | n + 1 => d.below n + d.bitsAt n

/-- Whether level n may hold a leaf. -/
def Desc.leafAt (d : Desc) (n : Nat) : Bool := d.leafok.testBit n

/-- The constraints of R70. DESIGN CHOICE: LEAFOK may set no level at or above LEVELS, whatever its leaf size would be (log 184). -/
def Desc.valid (d : Desc) : Bool :=
  let ps := [d.pres, d.w, d.u, d.a, d.d, d.nx] ++
    (if (List.range 6).any fun n => 1 ≤ n && d.leafAt n then [d.lf] else [])
  let outside (p width : Nat) : Bool := p < width && (p < d.palo || d.pahi < p)
  let width := 8 * d.esize
  d.zeros && 2 ≤ d.levels && d.levels ≤ 6 && 12 ≤ d.offbits && d.offbits ≤ 30 &&
    ((List.range d.levels).all fun n => 1 ≤ d.bitsAt n && d.bitsAt n ≤ 18) && d.below d.levels ≤ 57 && d.leafAt 0 &&
    ((List.range 6).all fun n => !d.leafAt n || (n < d.levels && 12 ≤ d.below n && d.below n ≤ 32 && d.below n ≤ d.pahi)) &&
    d.palo ≤ d.pahi && d.palo ≤ 12 && d.pahi < width &&
    (ps.all fun p => outside p width) && outside d.lf width && ps.Nodup

/-- What a walk finds (R71, R72). -/
inductive WalkEnd where
  /-- The descriptor or the place of a table breaks R70. -/
  | badDesc
  /-- No port leads to a table, which lies at a place (R348). -/
  | cut (key : Nat)
  /-- A table lies in a region that is closed to the world of the access (R77). -/
  | closed
  | absent
  /-- A leaf that lacks U, or W for a write, or has NX for a fetch, which `nx` tells (R324). -/
  | denied (nx : Bool)
  /-- Page base, log2 of its size, physical base, W, NX, place and size of the leaf entry, its value, A and D positions. -/
  | page (base size pa : Nat) (w nx : Bool) (entry esize value apos dpos : Nat)
  deriving DecidableEq, Repr

/-- Whether an access needs write permission (R73). -/
def kindWrites : AccKind → Bool
  | .write | .atomic => true
  | _ => false

/-- Why an agent of a world cannot use a place, if anything, as code and REASON: no port leads there (R348), or the region is closed to it
(R77, R350). -/
def State.bars (s : State) (world : Bool) (key : Nat) : Option (Byte × Byte) :=
  if s.linkDown key then some (0x31, 0) else if !world && s.isSecure key then some (0x22, 3) else none

/-- The walk from level n down; the table of level n at a physical address, aligned to its own size (R70, R71). -/
def State.walkFrom (s : State) (d : Desc) (world : Bool) (va : Nat) (kind : AccKind) : Nat → Nat → WalkEnd
  | 0, _ => .absent
  | n + 1, table =>
    let key := keyOf s.fabric.hdm (table + d.esize * bitsOf va (d.below n) (d.bitsAt n))
    let e := s.word key d.esize
    if table % (d.esize * 2 ^ d.bitsAt n) ≠ 0 then .badDesc
    else if s.linkDown key then .cut key
    else if !world && s.isSecure key then .closed
    else if !e.testBit d.pres then .absent
    else if d.leafAt n && (n = 0 || e.testBit d.lf) then
      let w := e.testBit d.w
      let nx := e.testBit d.nx
      if !e.testBit d.u || (kindWrites kind && !w) || (kind = .fetch && nx) then .denied (kind = .fetch && nx)
      else
        let sz := d.below n
        .page (va / 2 ^ sz * 2 ^ sz) sz (bitsOf e 0 (d.pahi + 1) / 2 ^ sz * 2 ^ sz) w nx key d.esize e d.a d.d
    else s.walkFrom d world va kind n (bitsOf e 0 (d.pahi + 1) / 2 ^ d.palo * 2 ^ d.palo)

/-- The descriptor a walk uses: the copy that the walkers hold, where they are free to use it, or memory (R262). DESIGN CHOICE: a copy is held whatever
package homes the line, that of a peer, which R287 does not let a package cache, among them (log 177); and the descriptor, which system software has bound, is read without a world check, in a
secure region too (R77, log 199). -/
def State.descBits (s : State) (b : Bind) : BitVec 256 :=
  let now := BitVec.ofNat 256 (s.word (keyOf s.fabric.hdm b.walkd.toNat) 32)
  match b.desc with
  | some x => if x ≠ now && Config.stale s.tick then x else now
  | none => now

/-- A walk of an agent's world for an address, by a binding (R71). -/
def State.walk (s : State) (b : Bind) (world : Bool) (va : Nat) (kind : AccKind) : WalkEnd :=
  let d := descOf (s.descBits b)
  if !d.valid then .badDesc else s.walkFrom d world (va % 2 ^ 57) kind d.levels d.root

/-- Whether the walk descriptor of a binding is poisoned (R344). -/
def State.descPoisoned (s : State) (b : Bind) : Bool := s.isPoisoned (keyOf s.fabric.hdm b.walkd.toNat) 32

/-- The TLB of a core's cluster, beside those of the cores (R13). -/
def clusterTlb (core : Nat) : Nat := 1024 + core / 16

/-- Entries of a TLB: 64 in a core, 4096 in a cluster (R13). -/
def tlbSize (unit : Nat) : Nat := if unit < 1024 then 64 else 4096

/-- The translation held for an address in the TLB of the core or of its cluster, of the binding that the agent goes by, good for a kind of
access (R70, R72, R284). -/
def State.tlbHit (s : State) (w : Agent) (va : Nat) (kind : AccKind) : Option Tlb :=
  s.mmu.tlb.find? fun t => t.pasid = w.pasid && (s.bindingOf w).map (·.walkd) = some t.walkd && (t.unit = w.core || t.unit = clusterTlb w.core) && t.base ≤ va && va < t.base + 2 ^ t.size &&
    (!kindWrites kind || (t.w && t.dirty)) && (kind ≠ .fetch || !t.nx)

/-- The place of a virtual address under the translations held. -/
def State.place? (s : State) (w : Agent) (va : Nat) (kind : AccKind) : Option Nat :=
  (s.tlbHit w (va % 2 ^ 57) kind).map fun t => keyOf s.fabric.hdm (t.pa + (va % 2 ^ 57 - t.base))

/-- Where an address lies now, as a walk would find it, without its effects. -/
def State.seek (s : State) (w : Agent) (va : Nat) : Option Nat :=
  match s.place? w va .read with
  | some k => some k
  | none => match s.bindingOf w with
    | none => none
    | some b => match s.walk b w.world va .read with
      | .page base _ pa _ _ _ _ _ _ _ => some (keyOf s.fabric.hdm (pa + (va % 2 ^ 57 - base)))
      | _ => none

/-- Holds a translation in its TLB, in place of an older one of the page, and of the oldest where the TLB is full. DESIGN CHOICE: R13 gives the
sizes and no order of replacement (log 158). -/
def holdIn (tlb : List Tlb) (t : Tlb) : List Tlb :=
  let rest := tlb.filter fun x => !(x.unit = t.unit && x.pasid = t.pasid && x.walkd = t.walkd && x.base = t.base && x.size = t.size)
  t :: ((rest.filter fun x => x.unit = t.unit).take (tlbSize t.unit - 1) ++ rest.filter fun x => x.unit ≠ t.unit)

/-- Installs the page a walk found: sets A, and D for a write, in the leaf, and holds the translation in the TLBs of the core and of its
cluster (R13, R72). -/
def State.holdPage (s : State) (a : Agent) (kind : AccKind) (base size pa : Nat) (w nx : Bool)
    (entry esize value apos dpos : Nat) : State :=
  let v := value ||| 2 ^ apos ||| (if kindWrites kind then 2 ^ dpos else 0)
  let s := s.store entry (leBytes esize v)
  let t : Tlb :=
    { unit := a.core, pasid := a.pasid, walkd := ((s.bindingOf a).map (·.walkd)).getD 0, base := base, size := size, pa := pa, w := w, nx := nx, dirty := v.testBit dpos }
  { s with mmu := { s.mmu with tlb := holdIn (holdIn s.mmu.tlb { t with unit := clusterTlb a.core }) t } }

/-- Whether a page request is that of an agent's stack for (PASID, page, kind) (R73). -/
def PageReq.isFor (r : PageReq) (w : Agent) (va : Nat) (kind : AccKind) : Bool :=
  r.stack = w.core / 128 && r.pasid = w.pasid && r.page = va % 2 ^ 57 / 4096 && r.kind = kind

/-- The page request for (PASID, page, kind) that is outstanding on an agent's stack (R73), or answered and not yet walked after (R325). -/
def State.requested (s : State) (w : Agent) (va : Nat) (kind : AccKind) : Option PageReq :=
  s.mmu.reqs.find? fun r => r.isFor w va kind

/-- Whether what was heard concerns an agent's read of (PASID, page, kind). -/
def Heard.isFor (h : Heard) (w : Agent) (va : Nat) (kind : AccKind) : Bool :=
  h.reader = w.reader && h.stack = w.core / 128 && h.pasid = w.pasid && h.page = va % 2 ^ 57 / 4096 && h.kind = kind

/-- What an agent's read has learned of its page request (R325, R327). -/
def State.verdictOn (s : State) (w : Agent) (va : Nat) (kind : AccKind) : Option Heard :=
  s.mmu.heard.find? fun h => h.isFor w va kind

/-- The device's own read has found its page: what it learned of a request is spent. -/
def State.reachDone (s : State) (w : Agent) (va : Nat) (kind : AccKind) : State :=
  { s with mmu := { s.mmu with heard := s.mmu.heard.filter fun h => !h.isFor w va kind } }

/-- Issues a page request, coalesced with one of the stack for the same page and kind (R73). -/
def State.requestPage (s : State) (w : Agent) (va : Nat) (kind : AccKind) (perm : Bool) : State :=
  let me : List Reader := if w.reader = .none then [] else [w.reader]
  let join (x : PageReq) : PageReq := { x with readers := x.readers ++ me.filter fun r => !x.readers.contains r }
  match s.requested w va kind with
  | some r => { s with mmu := { s.mmu with reqs := s.mmu.reqs.map fun x => if x = r then join x else x } }
  | none =>
    { s with mmu := { s.mmu with reqs := s.mmu.reqs ++
      [{ stack := w.core / 128, pasid := w.pasid, page := va % 2 ^ 57 / 4096, kind := kind, perm := perm, answered := false, readers := me }] } }

/-- Forgets a page request. -/
def State.dropRequest (s : State) (r : PageReq) : State :=
  { s with mmu := { s.mmu with reqs := s.mmu.reqs.filter fun x => x ≠ r } }

/-- Readers learn how their page request ended. -/
def State.tell (s : State) (r : PageReq) (to_ : List Reader) (ended : Option (Byte × Byte)) : State :=
  let heard := to_.map fun x => ({ reader := x, stack := r.stack, pasid := r.pasid, page := r.page, kind := r.kind, ended := ended } : Heard)
  { s with mmu := { s.mmu with heard := s.mmu.heard ++ heard } }

/-- A read is over: nothing that comes concerns its reader. -/
def State.forget (s : State) (r : Reader) : State :=
  { s with mmu := { s.mmu with
      reqs := s.mmu.reqs.map fun x => { x with readers := x.readers.filter fun y => y ≠ r }
      heard := s.mmu.heard.filter fun h => h.reader ≠ r } }

/-- What the translation of a control block comes to (R262): its place, a wait on a page request, or a failure with its code and
REASON. -/
inductive Reach where
  | at_ (key : Nat)
  | wait
  | fail (code reason : Byte)
  deriving DecidableEq, Repr

/-- The device's own access meets an absent page or lacks a permission: it issues a request and waits, or has learned that its
request was refused or granted in vain (R325, R327), or that no port leads to the host (R348). While accesses have still to walk after a response to a
request of theirs, it waits for them. -/
def State.reachFails (s : State) (w : Agent) (va : Nat) (kind : AccKind) (perm : Bool) : State × Reach :=
  match s.verdictOn w va kind with
  | some h => (s, match h.ended with
    | some (code, reason) => .fail code reason
    | none => if perm then .fail 0x22 0 else .fail 0x20 2)
  | none =>
    if (s.requested w va kind).any (·.answered) then (s, .wait)
    else if s.hostCut then (s, .fail 0x31 0)
    else (s.requestPage w va kind perm, .wait)

/-- Translates an address for a read or write by the device itself, walking at once. -/
def State.reach (s : State) (w : Agent) (va : Nat) (kind : AccKind) : State × Reach :=
  match s.place? w va kind with
  | some k => (s.reachDone w va kind, .at_ k)
  | none => match s.bindingOf w with
    | none => (s, .fail 0x20 1)
    | some b =>
      if s.descPoisoned b then (s, .fail 0x30 2)
      else match s.walk b w.world va kind with
        | .badDesc => (s, .fail 0x20 1)
        | .cut _ => (s, .fail 0x31 0)
        | .closed => (s, .fail 0x22 3)
        | .absent => s.reachFails w va kind false
        | .denied _ => s.reachFails w va kind true
        | .page base size pa wr nx entry esize value apos dpos =>
          let s := (s.holdPage w kind base size pa wr nx entry esize value apos dpos).reachDone w va kind
          (s, .at_ (keyOf s.fabric.hdm (pa + (va % 2 ^ 57 - base))))

/-- Translates an address with one walk and no page request, if the walk finds the page: for what neither waits nor faults (R66, R72). -/
def State.findPage (s : State) (w : Agent) (va : Nat) (kind : AccKind) : Option (State × Nat) :=
  match s.place? w va kind with
  | some k => some (s, k)
  | none => (s.bindingOf w).bind fun b =>
    if s.descPoisoned b then none
    else match s.walk b w.world va kind with
      | .page base size pa wr nx entry esize value apos dpos =>
        some (s.holdPage w kind base size pa wr nx entry esize value apos dpos, keyOf s.fabric.hdm (pa + (va % 2 ^ 57 - base)))
      | _ => none

/-- Translates an address so, and makes sure that its place is open to the agent (R77, R348). -/
def State.findOpen (s : State) (w : Agent) (va : Nat) (kind : AccKind) : Option (State × Nat) :=
  (s.findPage w va kind).filter fun x => (x.1.bars w.world x.2).isNone

/-- Translates an address, and makes sure that a port leads there and that the region is open to the agent (R77, R348). -/
def State.reachOpen (s : State) (w : Agent) (va : Nat) (kind : AccKind) : State × Reach :=
  match s.reach w va kind with
  | (s, .at_ key) => match s.bars w.world key with
    | some (code, reason) => (s, .fail code reason)
    | none => (s, .at_ key)
  | x => x

/-- The unit that a failed translation names: the walk descriptor where that was consumed, by its physical address, and else what could not be
reached (R284, R324, R344). -/
def State.unitOfFault (s : State) (w : Agent) (code reason : Byte) (va : Nat) : Nat :=
  match s.bindingOf w with
  | some b => if code = 0x30 && reason = 2 then b.walkd.toNat else va
  | none => va

/-- The address of the unit that holds a byte: its 64-byte line (R342). -/
def lineVa (va : Nat) : Nat := va / 64 * 64

/-- What the translation of some pages comes to: their places, a wait, or a failure with its unit and address. -/
inductive Pages where
  | at_ (keys : List Nat)
  | wait
  | fail (code reason : Byte) (unit va : Nat)
  deriving DecidableEq, Repr

/-- Code and REASON for a part of a save slot that cannot be reached: of a refused request, whatever it was issued for, and of one that was
answered in vain, PFAULT with REASON 3 (R324, R335, R336). -/
def State.slotFault (s : State) (w : Agent) (va : Nat) (kind : AccKind) (code reason : Byte) : Byte × Byte :=
  if (s.verdictOn w va kind).any (fun h => h.ended.any fun e => e.1 ≠ 0x31) || code = 0x20 then (0x20, 3) else (code, reason)

/-- Translates some pages of a save slot in order. -/
def State.reachPages (s : State) (w : Agent) (kind : AccKind) : List Nat → State × Pages
  | [] => (s, .at_ [])
  | va :: t => match s.reachOpen w va kind with
    | (s, .wait) => (s, .wait)
    | (s', .fail code reason) =>
      let f := s.slotFault w va kind code reason
      (s', .fail f.1 f.2 (s.unitOfFault w code reason va) va)
    | (s, .at_ key) => match s.reachPages w kind t with
      | (s, .at_ keys) => (s, .at_ (key :: keys))
      | x => x

/-- A CBINV has named the line of an address in a PASID's space: no copy of its block held by now serves the read that comes (R226). -/
def State.takeAfresh (s : State) (w : Agent) (va line : Nat) : State :=
  let named := (w.pasid.toNat, va % 2 ^ 57 / 64)
  if s.mmu.afresh.contains named then
    { s with mmu := { s.mmu with copies := Tbl.erase s.mmu.copies line, afresh := s.mmu.afresh.erase named } }
  else s

/-- A control block of 64 bytes, served from a held copy where the device is free to (R262). -/
def State.controlBlock (s : State) (key : Nat) : BitVec 512 :=
  match Tbl.find s.mmu.copies key with
  | some x => if x ≠ s.block key && Config.stale s.tick then x else s.block key
  | none => s.block key

/-- Holds a copy of the control block just read (R262). -/
def State.holdBlock (s : State) (key : Nat) (x : BitVec 512) : State :=
  { s with mmu := { s.mmu with copies := Tbl.put s.mmu.copies key x } }

/-- Drops the copies of control blocks, as an acquire does; the walkers hold the descriptors as they are now (R262). -/
def State.dropCopies (s : State) : State :=
  let fresh (b : Bind) : Bind :=
    { b with desc := b.desc.map fun _ => BitVec.ofNat 256 (s.word (keyOf s.fabric.hdm b.walkd.toNat) 32) }
  { s with mmu := { s.mmu with
      copies := []
      afresh := []
      binds := s.mmu.binds.map fun b => (b.1, fresh b.2)
      prior := s.mmu.prior.map fun p => { p with bind := fresh p.bind } } }

end Sys2Proof.Machine
end

