-- ==== Sys2Proof/Machine/Ops.lean ====
section
/-! DEFINITION. The named operations over a context: registers and full/empty bits (R111 to R117), partition (R53, R55),
scratchpad (R56, R219), results in flight (R119), narrowing and the trail (R169, R175), and taking a trap (R154, R321)
with the return from one (R155). -/

namespace Sys2Proof.Machine

/-! ### Registers (R111, R112) -/

def Regs.readK (g : Regs) (r : BitVec 6) : Dom := if r = 0 then domSingle 0 else Tbl.get domTop g.k r.toNat
def Regs.readA (g : Regs) (r : BitVec 5) : W64 := if r = 0 then 0 else Tbl.get 0 g.a r.toNat

/-- A predicate; 0b11 reads as U (R88). -/
def Regs.readP (g : Regs) (r : BitVec 7) : BitVec 2 :=
  if r = 0 then predT else if Tbl.get 0 g.p r.toNat = 3 then predU else Tbl.get 0 g.p r.toNat

def Regs.readM (g : Regs) (r : BitVec 4) : W64 := if r = 0 then BitVec.allOnes 64 else Tbl.get 0 g.m r.toNat
def Regs.readV (g : Regs) (r : BitVec 6) : VecV := Tbl.get 0 g.v r.toNat
def Regs.readQ (g : Regs) (r : BitVec 5) : VecV := Tbl.get naiReg g.q r.toNat

def Regs.writeK (g : Regs) (r : BitVec 6) (x : Dom) : Regs := if r = 0 then g else { g with k := Tbl.set domTop g.k r.toNat x }
def Regs.writeA (g : Regs) (r : BitVec 5) (x : W64) : Regs := if r = 0 then g else { g with a := Tbl.set 0 g.a r.toNat x }
def Regs.writeP (g : Regs) (r : BitVec 7) (x : BitVec 2) : Regs := if r = 0 then g else { g with p := Tbl.set 0 g.p r.toNat x }
def Regs.writeM (g : Regs) (r : BitVec 4) (x : W64) : Regs := if r = 0 then g else { g with m := Tbl.set 0 g.m r.toNat x }
def Regs.writeV (g : Regs) (r : BitVec 6) (x : VecV) : Regs := { g with v := Tbl.set 0 g.v r.toNat x }
def Regs.writeQ (g : Regs) (r : BitVec 5) (x : VecV) : Regs := { g with q := Tbl.set naiReg g.q r.toNat x }

/-- A register that has a full/empty bit, by class and number (R116). -/
abbrev RegRef := RegClass × Nat

/-- Whether a register is empty (R116); the fixed members never are (R112). -/
def Regs.isEmpty (g : Regs) (r : RegRef) : Bool :=
  match r.1 with
  | .k => r.2 ≠ 0 && bitOf g.ke r.2
  | .a => r.2 ≠ 0 && bitOf g.ae r.2
  | .v => bitOf g.ve r.2
  | .q => bitOf g.qe r.2
  | _ => false

/-- A word with one bit set or cleared. -/
def setBit (x : W64) (n : Nat) (b : Bool) : W64 := if b then x ||| BitVec.twoPow 64 n else x &&& ~~~(BitVec.twoPow 64 n)

/-- Marks a register empty or full (R116); k0 and a0 are never marked (R112). -/
def Regs.mark (g : Regs) (r : RegRef) (empty : Bool) : Regs :=
  match r.1 with
  | .k => if r.2 = 0 then g else { g with ke := setBit g.ke r.2 empty }
  | .a => if r.2 = 0 then g else { g with ae := setBit g.ae r.2 empty }
  | .v => { g with ve := setBit g.ve r.2 empty }
  | .q => { g with qe := setBit g.qe r.2 empty }
  | _ => g

/-- The class code of R308. -/
def classCode : RegClass → Nat
  | .k => 0 | .a => 1 | .v => 2 | .q => 3 | .p => 4 | .m => 5 | .b => 6 | .te => 7 | .fmt => 8 | .om => 9 | .loop => 10 | .sys => 11

/-- CLASS and NUM in TINFO[15:0] (R308). -/
def regInfo (c : RegClass) (n : Nat) : W64 := BitVec.ofNat 64 (256 * classCode c + n % 256)

/-! ### The partition (R53, R55) -/

def rfIngots (part : W32) : Nat := (part.extractLsb' 0 8).toNat
def accIngots (part : W32) : Nat := (part.extractLsb' 8 8).toNat
def trailIngots (part : W32) : Nat := (part.extractLsb' 16 8).toNat

/-- Whether a partition word obeys R53. -/
def partOk (part : W32) : Bool :=
  part.extractLsb' 24 8 = 0 && trailIngots part ≤ 8 && accIngots part ≤ 4 && 1 ≤ rfIngots part && rfIngots part ≤ 4

/-- Bytes of scratchpad (R53, R55). -/
def Context.scrSize (c : Context) : Nat :=
  65536 * (c.id.share - rfIngots c.id.part - accIngots c.id.part - trailIngots c.id.part)

/-- Accumulator rows (R55). -/
def Context.accRows (c : Context) : Nat := 128 * accIngots c.id.part

/-- Free trail entries: those that neither the checkpoint trail nor a return-stack spill holds (R55, R154). -/
def Context.trailFree (c : Context) : Nat :=
  2048 * trailIngots c.id.part -
    (c.swage.trail.length + c.flow.spilled.length + (match c.trap.shadow with | some h => h.spilled.length | none => 0))

/-! ### Long-latency results still to come (R117, R164) -/

/-- Whether a long-latency result is still to come for a k register. -/
def MemSide.owesK (m : MemSide) (r : Nat) : Bool :=
  (m.divs.any fun d => d.d.toNat = r) || m.outs.any fun a => match a.op with
    | .ldgK q _ => q.toNat = r
    | _ => false

/-! ### Results in flight (R119) -/

/-- Adds a result of the bundle in issue, to land after dist bundles. -/
def Context.fly (c : Context) (dist slot : Nat) (e : Eff) : Context :=
  { c with flow := { c.flow with flights := c.flow.flights ++
    [{ dist := dist, slot := slot, bclk := c.flow.bclk, off := c.flow.pc, snap := false, eff := e }] } }

/-- The parts in which a result takes effect: what a contractor ORs into QPROG and QEMPTY and what a conversion counts into VOVF or OVFC keep the
order of MOVG, clear, update even where the snapshot held them (R98, R192, R214); register writes of the snapshot come first (R334). -/
def Flight.parts (f : Flight) : List Flight :=
  match f.eff with
  | .contract ws lanes prog emptied first =>
    [{ f with eff := .contract ws lanes 0 0 first }, { f with snap := false, eff := .contract [] lanes prog emptied first }]
  | .vovf _ | .ovfc _ | .epi _ | .qfail _ _ => [{ f with snap := false }]
  | _ => [f]

/-- The place of a result in the order of R121; a QSTAT clear comes before every contractor's OR (R214), snapshot results
come before all others (R334). -/
def Flight.order (f : Flight) : Nat :=
  (if f.snap then 0 else 32) + (match f.eff with | .qclear _ _ => 2 * f.slot - 1 | _ => 2 * f.slot)

/-- Inserts a result behind those that are not later in order. -/
def insertFlight (f : Flight) : List Flight → List Flight
  | [] => [f]
  | g :: t => if f.order < g.order then f :: g :: t else g :: insertFlight f t

/-- Results by their issue: those of the snapshot were issued before the others (R334). -/
def byIssue (fs : List Flight) : List Flight := (fs.filter fun f => f.snap) ++ fs.filter fun f => !f.snap

/-- Results in the order in which they land at one point. -/
def landingOrder (fs : List Flight) : List Flight := fs.foldl (fun acc f => insertFlight f acc) []

/-- Results in flight in the order in which they will land, point by point (R119, R121). -/
def inLandingOrder (fs : List Flight) : List Flight :=
  (List.range (fs.foldl (fun m f => max m (f.dist + 1)) 0)).flatMap fun d =>
    landingOrder ((byIssue (fs.filter fun f => f.dist = d)).flatMap Flight.parts)

/-- Adds a cause for the boundary. -/
def Context.blame (c : Context) (x : Cause) : Context := { c with flow := { c.flow with causes := c.flow.causes ++ [x] } }

/-- A program cause (R307). -/
def progCause (code : Byte) (slot : Nat) (off : W32) (tinfo : W64) : Cause :=
  { code := code, reason := 0, slot := slot, off := off, tinfo := tinfo, va := 0, kind := 4 }

/-- A program cause of an operation issued at a bundle clock, by which it stands among others of its rank and slot (R121, R305). -/
def causeAt (bclk : W64) (code : Byte) (slot : Nat) (off : W32) (tinfo : W64) : Cause :=
  { progCause code slot off tinfo with seq := bclk.toNat }

/-! ### Scratchpad (R55, R56) -/

/-- One bank word. -/
def scrWord (m : Tbl (BitVec 512)) (w : Nat) : BitVec 512 := Tbl.get 0 m w

/-- n bytes from an offset on. -/
def scrBytes (m : Tbl (BitVec 512)) (off : Nat) : Nat → List Byte
  | 0 => []
  | n + 1 => (scrWord m (off / 64)).extractLsb' (8 * (off % 64)) 8 :: scrBytes m (off + 1) n

/-- Writes one byte. -/
def scrPutByte (m : Tbl (BitVec 512)) (off : Nat) (b : Byte) : Tbl (BitVec 512) :=
  let w := scrWord m (off / 64)
  let sh := 8 * (off % 64)
  Tbl.set 0 m (off / 64) ((w &&& ~~~((0xFF : BitVec 512) <<< sh)) ||| (b.zeroExtend 512 <<< sh))

/-- Writes bytes from an offset on. -/
def scrPut (m : Tbl (BitVec 512)) (off : Nat) : List Byte → Tbl (BitVec 512)
  | [] => m
  | b :: t => scrPut (scrPutByte m off b) (off + 1) t

/-- Writes bytes and keeps the poison marks of bank words (R343): a marked datum marks every word it touches, a word
written whole loses its mark. -/
def MemSide.scrWrite (m : MemSide) (off : Nat) (bs : List Byte) (poisoned : Bool) : MemSide :=
  { m with scr := scrPut m.scr off bs,
           scrPoison := if poisoned then (linesOf off bs.length).foldl (fun p l => insertNat l p) m.scrPoison
             else (wholeLines off bs.length).foldl (fun p l => removeNat l p) m.scrPoison }

/-- Whether a range of scratchpad holds a mark. -/
def MemSide.scrMarked (m : MemSide) (off n : Nat) : Bool := (linesOf off n).any fun l => m.scrPoison.contains l

/-- The bank words that the lanes of a scatter write whole, which lose their mark (R220, R343). -/
def Scatter.wholeWords (x : Scatter) : List Nat :=
  (x.offs.map (· / 64)).eraseDups.filter fun w => (List.range 16).all fun i => x.offs.contains (64 * w + 4 * i)

/-- The bytes of a scatter, in lane order (R58). -/
def MemSide.scatter (m : MemSide) (x : Scatter) : MemSide :=
  let m := (List.range x.offs.length).foldl (fun m i => m.scrWrite (x.offs.getD i 0) (leBytes 4 (laneV x.data i).toNat) false) m
  { m with scrPoison := x.wholeWords.foldl (fun p w => removeNat w p) m.scrPoison }

/-- The scratchpad with every unfinished scatter made (R220). -/
def MemSide.overScatters (m : MemSide) : MemSide := m.scats.foldl (fun m x => if x.index.isNone then m else m.scatter x) m

/-- The scratchpad with the STS stores in flight made. -/
def MemSide.overStores (m : MemSide) (fs : List Flight) : MemSide :=
  fs.foldl (fun m f => match f.eff with
    | .scr off bs bad => if f.slot = 5 then m.scrWrite off bs bad else m
    | _ => m) m

/-- An overflow counter with a count added: it stops at its top (R98). -/
def satAdd (c : W32) (n : Nat) : W32 := BitVec.ofNat 32 (min 0xFFFFFFFF (c.toNat + n))

/-- The scratchpad with every write in flight made as it will land, those of DRAIN rows among them; `count` is OVFC. DEDUCED: one who reads the epilogue word of a
DRAIN before it is written finds what OVFC comes to with the counts in flight before it (log 187). -/
def MemSide.overWrites (m : MemSide) (count : W32) (fs : List Flight) : MemSide :=
  ((inLandingOrder fs).foldl (fun (x : MemSide × W32) f => match f.eff with
    | .scr off bs bad => (x.1.scrWrite off bs bad, x.2)
    | .ovfc n => (x.1, satAdd x.2 n)
    | .epi off => (x.1.scrWrite off (leBytes 4 x.2.toNat) false, x.2)
    | _ => x) (m, count)).1

/-- Every store of earlier bundles has been made (R59). -/
def Context.scrSettled (c : Context) : MemSide := c.mem.overScatters.overStores c.flow.flights

/-- Every write of earlier bundles has been made, DRAIN rows that are still to land among them (R238, R268). -/
def Context.scrAhead (c : Context) : MemSide := c.mem.overScatters.overWrites c.sys.ovfc c.flow.flights

/-- Whether a reader of a bank word that is old and new, in its bytes or in its mark, finds the old one, by free choice (R59, R268). -/
def findsOld (old new : MemSide) (tick l : Nat) : Bool :=
  (scrWord old.scr l ≠ scrWord new.scr l || old.scrPoison.contains l ≠ new.scrPoison.contains l) && Config.oldWord tick l

/-- n bytes of a scratchpad in which each bank word is the old or the new one. -/
def scrMix (old new : MemSide) (tick off n : Nat) : List Byte :=
  (linesOf off n).foldl (fun (acc : List Byte) l =>
    let w := scrWord (if findsOld old new tick l then old else new).scr l
    acc ++ (List.range 64).filterMap fun i =>
      if off ≤ 64 * l + i && 64 * l + i < off + n then some (w.extractLsb' (8 * i) 8) else none) []

/-- The bank words of them that are poisoned: each with the mark of the state that is found (R343). -/
def mixMarks (old new : MemSide) (tick off n : Nat) : List Nat :=
  (linesOf off n).filter fun l => (if findsOld old new tick l then old else new).scrPoison.contains l

/-- What a copy issued now finds: every store of earlier bundles, and of the DRAIN rows that have not landed each bank word
old or new (R59, R268), with the marks that these words bear (R343). DESIGN CHOICE: a word that two rows in flight share has neither or both of them
(log 175), and a row whose beat is still to come, in the copy's bundle or later, is not there (log 204). -/
def Context.scrSource (c : Context) (tick off n : Nat) : List Byte × List Nat :=
  (scrMix c.scrSettled c.scrAhead tick off n, mixMarks c.scrSettled c.scrAhead tick off n)

/-- What an LDS issued now finds: stores of two or more bundles ago and DRAIN rows 12 or more after their beat; a word that the bundle
before stored to, that a row in flight covers, or that a scatter writes, is old or new by free choice (R59, R219, R220, R238). -/
def Context.scrView (c : Context) (tick off n : Nat) : List Byte := scrMix c.mem c.scrAhead tick off n

/-- The first poisoned bank word that an LDS issued now finds, the unit that it consumes (R344). -/
def Context.viewMarked? (c : Context) (tick off n : Nat) : Option Nat := (mixMarks c.mem c.scrAhead tick off n).head?

/-! ### Narrowing (R165, R169, R175) -/

/-- Whether a k register is bound (R165). -/
def Swage.bound (w : Swage) (r : BitVec 6) : Bool := w.store.any fun x => x.names r

/-- The lowest store index whose relation names a register (R308). -/
def Swage.firstNaming (w : Swage) (r : BitVec 6) : Nat := w.store.findIdx fun x => x.names r

/-- The registers trailed since the top checkpoint was pushed or last rolled to (R175). -/
def Swage.trailed (w : Swage) : List (BitVec 6) :=
  match w.ckpts with
  | [] => []
  | (_, n) :: _ => (w.trail.take (w.trail.length - n)).map (·.1)

/-- Lands narrowings: trails each register that needs it and writes it, or names the register for which no trail entry
is free and changes nothing (R169, R175). -/
def Context.narrow (c : Context) (ws : List (BitVec 6 × Dom)) : Except (BitVec 6) Context :=
  let changed := ws.filter fun w => c.regs.readK w.1 ≠ w.2 && w.1 ≠ 0
  let need := if c.swage.ckpts.isEmpty then [] else changed.filter fun w => !c.swage.trailed.contains w.1
  match need.drop c.trailFree with
  | w :: _ => .error w.1
  | [] =>
    let olds := (need.map fun w => (w.1, c.regs.readK w.1)).reverse
    .ok { c with regs := changed.foldl (fun g w => g.writeK w.1 w.2) c.regs,
                 swage := { c.swage with trail := olds ++ c.swage.trail, narrowed := c.swage.narrowed ++ changed.map (·.1) } }

/-- TINFO of a domain FAIL (R166). -/
def failInfo (sidx : Nat) (r : BitVec 6) : W64 := BitVec.ofNat 64 (sidx % 65536 * 65536 + r.toNat)

/-- Queues the relations that name a narrowed register (R169). -/
def Swage.wakeUp (w : Swage) : Swage :=
  let js := (List.range w.store.length).filter fun j =>
    match w.store[j]? with
    | some rel => w.narrowed.any fun r => rel.names r
    | none => false
  { w with queue := js.foldl (fun q j => if q.contains j then q else q ++ [j]) w.queue, narrowed := [] }

/-- ROLL (R176); a register that a division by zero left empty is filled by the write that restores it (R164). -/
def Context.roll (c : Context) : Context :=
  match c.swage.ckpts with
  | [] => c
  | (h, n) :: _ =>
    let undo := c.swage.trail.take (c.swage.trail.length - n)
    let put (g : Regs) (e : BitVec 6 × Dom) : Regs :=
      let g := g.writeK e.1 e.2
      if c.mem.owesK e.1.toNat then g else g.mark (.k, e.1.toNat) false
    { c with regs := undo.foldl put c.regs,
             swage := { c.swage with trail := c.swage.trail.drop (c.swage.trail.length - n), store := c.swage.store.take h, queue := [] } }

/-- COMMIT (R177). -/
def Swage.commit (w : Swage) : Swage :=
  match w.ckpts with
  | [] => w
  | _ :: t => { w with ckpts := t, trail := if t.isEmpty then [] else w.trail }

/-! ### Taking a trap (R154, R321) and returning (R155) -/

/-- TPC of a bundle (R138). -/
def tpcOf (obj : BitVec 16) (off : W32) : W64 := BitVec.ofNat 64 (obj.toNat * 2 ^ 32 + off.toNat)

/-- Writes TCAUSE, TPC, TINFO and TSLOT (R154 step 1). -/
def Sys.record (y : Sys) (obj : BitVec 16) (x : Cause) : Sys :=
  { y with tcause := x.code.zeroExtend 32, tpc := tpcOf obj x.off, tinfo := x.tinfo, tslot := BitVec.ofNat 32 (x.slot % 8) }

/-- Whether the program has a handler for a cause (R154). -/
def Context.hasHandler (c : Context) (x : Cause) : Bool := x.code.toNat ≤ 0x16 && c.sys.tvec ≠ (0xFFFFFFFF : W32)

/-- Whether a cause goes to the program's own handler (R154). -/
def Context.handles (c : Context) (x : Cause) : Bool := c.hasHandler x && !c.trap.handler

/-- Whether a result in flight is one of the snapshot: a scratchpad write is none, and is seen on its bundle-clock schedule, in the handler
too (R57, R59, R154, R268, R334); nor is the count of a DRAIN row, which is added where the row is written (R98). -/
def Flight.snapshots (f : Flight) : Bool := match f.eff with
  | .scr _ _ _ | .ovfc _ | .epi _ => false
  | _ => true

/-- Entry into the program's handler (R154); it issues with no stall, so a DRAINW's wait is kept for the program's next bundle. -/
def Context.enterHandler (c : Context) (x : Cause) (resume : Resume) : Context :=
  { c with
    sys := c.sys.record c.id.obj x
    trap := { c.trap with
      handler := true
      tpcMoved := false
      resume := resume
      snapshot := (c.flow.flights.filter Flight.snapshots).map fun f => { f with snap := true }
      shadow := some { bufs := c.flow.bufs, loops := c.flow.loops, rstack := c.flow.rstack, spilled := c.flow.spilled, drain := c.flow.drain } }
    flow := { c.flow with
      pc := c.sys.tvec
      bufs := []
      loops := []
      rstack := []
      spilled := []
      flights := c.flow.flights.filter fun f => !f.snapshots
      stop := .none
      drain := none } }

/-- Entry for a held cause at an RFT: the snapshot and the shadow stay as they are (R305). -/
def Context.reenterHandler (c : Context) (x : Cause) (resume : Resume) : Context :=
  { c with
    sys := c.sys.record c.id.obj x
    trap := { c.trap with tpcMoved := false, resume := resume }
    flow := { c.flow with pc := c.sys.tvec, bufs := [], loops := [], rstack := [], spilled := [], stop := .none, drain := none } }

/-- The fault report of a cause, but for RECORD and NPEND, which the eviction fills in (R322). -/
def faultReport (core : Nat) (c : Context) (mcc : W64) (x : Cause) : BitVec 512 :=
  let r := recSet 0 0 8 x.code.toNat
  let r := recSet r 1 8 x.reason.toNat
  let r := recSet r 2 16 core
  let r := recSet r 4 32 (c.id.pasid.toNat + if c.id.world then 2 ^ 20 else 0)
  let r := recSet r 8 64 mcc.toNat
  let r := recSet r 24 64 (tpcOf c.id.obj x.off).toNat
  let r := recSet r 32 64 x.tinfo.toNat
  let r := recSet r 40 64 x.va.toNat
  let r := recSet r 50 8 (x.slot % 8)
  let r := recSet r 51 8 x.kind.toNat
  recSet r 52 32 c.id.slot

/-- A propagation is due where a k register has narrowed or the wake queue holds an index (R169, R270). -/
def Swage.begin (w : Swage) : Swage :=
  if w.queue.isEmpty && w.narrowed.isEmpty then w else { w with busy := true, begun := false }

/-- The halt of a context: results in flight are the snapshot (R334), a waiting SYNC withdraws its arrival (R332). -/
def Context.halt (c : Context) (why : Nat) (report : Option (BitVec 512)) : Context :=
  { c with
    flow := { c.flow with
      flights := c.flow.flights.map fun f => { f with snap := true }
      barrier := if c.flow.barrier = .arrived then .none else c.flow.barrier
      tail := Tail.none }
    id := { c.id with status := .evicting why report } }

/-- A system trap: the cause is recorded, the context halts where it stands and its eviction begins (R321, R337). -/
def Context.systemTrap (c : Context) (core : Nat) (mcc : W64) (x : Cause) : Context :=
  ({ c with sys := c.sys.record c.id.obj x }).halt 2 (some (faultReport core c mcc x))

/-- Takes a cause at the place `resume` says the context stands (R154, R321). -/
def Context.takeTrap (c : Context) (core : Nat) (mcc : W64) (x : Cause) (resume : Resume) : Context :=
  if c.handles x then c.enterHandler x resume else c.systemTrap core mcc x

/-- Where the context stands: at a bundle, or with a stop that waits (R149). -/
def Flow.resumePoint (f : Flow) : Resume := if f.stop = .none then .at_ f.pc else .stop f.stop f.pc

/-- Goes on at a resume point. -/
def Flow.goOn (f : Flow) : Resume → Flow
  | .at_ off => { f with pc := off, stop := .none }
  | .stop st off => { f with pc := off, stop := st }

/-- An empty shadow. -/
def Shadow.none : Shadow := { bufs := [], loops := [], rstack := [], spilled := [], drain := .none }

/-- Where an RFT issued now continues: at the resume point, or where a MOVG of an earlier bundle has moved TPC (R110, R155). -/
def Context.rftPoint (c : Context) : Resume := if c.trap.tpcMoved then .at_ (low32 c.sys.tpc) else c.trap.resume

/-- RFT to a point: leaves handler mode, restores the shadow, replays the snapshot; or enters the handler again for the first held
cause (R155, R305). DESIGN CHOICE: where the tail of the RFT bundle sets E, the return acts and the END does not (log 156); a kept wake queue is
propagated before a pending stop acts (R149, R171, log 188). -/
def Context.returnFromTrap (c : Context) (core : Nat) (mcc : W64) (resume : Resume) : Context :=
  match c.trap.held with
  | x :: t =>
    let c := { c with trap := { c.trap with held := t } }
    if c.hasHandler x then c.reenterHandler x resume
    else
      let sh := c.trap.shadow.getD Shadow.none
      let c := { c with
        trap := { c.trap with handler := false, shadow := none, snapshot := [], tpcMoved := false }
        flow := { (c.flow.goOn resume) with
          bufs := sh.bufs
          loops := sh.loops
          rstack := sh.rstack
          spilled := sh.spilled
          drain := sh.drain
          flights := c.flow.flights ++ c.trap.snapshot
          causes := c.flow.causes ++ c.trap.held } }
      ({ c with trap := { c.trap with held := [] } }).systemTrap core mcc x
  | [] =>
    let sh := c.trap.shadow.getD Shadow.none
    { c with
      trap := { c.trap with handler := false, shadow := none, snapshot := [], tpcMoved := false }
      swage := c.swage.begin
      flow := { (c.flow.goOn resume) with
        bufs := sh.bufs
        loops := sh.loops
        rstack := sh.rstack
        spilled := sh.spilled
        drain := sh.drain
        flights := c.flow.flights ++ c.trap.snapshot } }

/-! ### State -/

/-- The live context changed. -/
def State.mapLive (s : State) (f : Context → Context) : State := { s with live := f s.live }

/-- The verdict of an operation (R304). -/
def State.judge (s : State) (v : Verdict) : State := { s with verdict := v }

/-- An issue cause: the context traps at the bundle in issue and nothing of it performs (R303). -/
def State.issueTrap (s : State) (stage : Nat) (x : Cause) : State :=
  { s with live := s.issue.takeTrap s.core s.mcc x (.at_ s.issue.flow.pc), verdict := .trapped stage }

/-- The record of core n. -/
def State.coreOf (s : State) (n : Nat) : Core := Tbl.get Core.fresh s.cores n

/-- Changes core n. -/
def State.mapCore (s : State) (n : Nat) (f : Core → Core) : State := { s with cores := Tbl.put s.cores n (f (s.coreOf n)) }

/-- Changes a listed context. -/
def State.mapCtx (s : State) (id : Nat) (f : Context → Context) : State := { s with ctxs := Tbl.update f s.ctxs id }

/-- The state of cluster g. -/
def State.clusterOf (s : State) (g : Nat) : Cluster := Tbl.get Cluster.fresh s.clusters g

def State.mapCluster (s : State) (g : Nat) (f : Cluster → Cluster) : State :=
  { s with clusters := Tbl.put s.clusters g (f (s.clusterOf g)) }

end Sys2Proof.Machine
end

