-- ==== Sys2Proof/Machine/Flags.lean ====
section
/-! DEFINITION. Every flag computation: three-valued predicates (R88, R183), comparisons of a registers (R182), mask logic
(R186), the overflow counters (R98), QPROG and QEMPTY (R213, R214), DUPW (R121). -/

namespace Sys2Proof.Machine

/-- AND of R88. -/
def pAnd (x y : BitVec 2) : BitVec 2 := if x = predF ∨ y = predF then predF else if x = predT ∧ y = predT then predT else predU

/-- OR of R88. -/
def pOr (x y : BitVec 2) : BitVec 2 := if x = predT ∨ y = predT then predT else if x = predF ∧ y = predF then predF else predU

/-- NOT of R88. -/
def pNot (x : BitVec 2) : BitVec 2 := if x = predF then predT else if x = predT then predF else predU

/-- T or F. -/
def pOf (b : Bool) : BitVec 2 := if b then predT else predF

/-- The functions of PLOGIC by fn (R183). -/
def plogicFn (fn : BitVec 3) (x y : BitVec 2) : BitVec 2 :=
  match fn.toNat with
  | 0 => pAnd x y
  | 1 => pOr x y
  | 2 => pNot x
  | 3 => pAnd x (pNot y)
  | 4 => if x = predU ∨ y = predU then predU else pOf (x ≠ y)
  | 5 => pOf (x = predU)
  | 6 => pOf (x ≠ predU)
  | _ => x

/-- The functions of MLOGIC by fn (R186). -/
def mlogicFn (fn : BitVec 3) (x y : W64) : W64 :=
  match fn.toNat with
  | 0 => x &&& y
  | 1 => x ||| y
  | 2 => x ^^^ y
  | 3 => x &&& ~~~y
  | 4 => ~~~x
  | 5 => x
  | 6 => x ||| ~~~y
  | _ => ~~~(x ^^^ y)

/-- The conditions of CMPA and CMPAI by cond (R182). -/
def condHolds (cond : BitVec 3) (x y : W64) : Bool :=
  match cond.toNat with
  | 0 => x == y
  | 1 => x != y
  | 2 => x.slt y
  | 3 => x.ult y
  | 4 => x.sle y
  | _ => x.ule y

/-- The registers that a result writes of itself: class bit of DUPW and number (R121). -/
def Eff.targets : Eff → List (Nat × Nat)
  | .k r _ => if r = 0 then [] else [(0, r.toNat)]
  | .a r _ => if r = 0 then [] else [(1, r.toNat)]
  | .p r _ => if r = 0 then [] else [(2, r.toNat)]
  | .m r _ _ => if r = 0 then [] else [(3, r.toNat)]
  | .v r _ _ => [(4, r.toNat)]
  | .q r _ _ => [(5, r.toNat)]
  | .narrow ws => ws.filterMap fun w => if w.1 = 0 then none else some (0, w.1.toNat)
  | .contract ws _ _ _ _ => ws.map fun w => (5, w.1.toNat)
  | _ => []

/-- The bits that the writes landing at one point set in DUPW (R121). DESIGN CHOICE: a write that executed under a lane-mask guard counts as
one under a guard that was T (log 153). -/
def dupBits : List (Nat × Nat) → W32
  | [] => 0
  | t :: ts => (if ts.contains t then BitVec.twoPow 32 t.1 else 0) ||| dupBits ts

/-- MOVG to a system register by number: the register without its reserved bits (R138, R192). -/
def Sys.movg (y : Sys) (n : BitVec 12) (x : W64) : Sys :=
  let w := low32 x
  match n.toNat with
  | 0x008 => { y with tvec := w }
  | 0x009 => { y with tcause := w &&& 0xFF }
  | 0x00A => { y with tpc := x &&& 0x0000FFFFFFFFFFFF }
  | 0x00B => { y with tinfo := x }
  | 0x00C => { y with tslot := w &&& 7 }
  | 0x010 => { y with pbudget := w }
  | 0x018 => { y with qctl := w &&& 1 }
  | 0x019 => { y with qprog := w }
  | 0x01A => { y with qempty := w }
  | 0x030 => { y with drp := w }
  | 0x032 => { y with vovf := w }
  | 0x03B => { y with qbsz := x }
  | 0x040 => { y with dupw := w &&& 0x3F }
  | 0x048 => { y with driftt := w }
  | m => if 0x020 ≤ m ∧ m ≤ 0x02F then { y with fmt := Tbl.set 0 y.fmt (m - 0x020) (w &&& 0x000FFFFF) } else y

end Sys2Proof.Machine
end

