-- ==== Sys2Proof/Machine/Operands.lean ====
section
/-! DEFINITION. Every operand form and the checks of an issue: guards (R114, R115), waits on empty registers (R117),
EMPTYREAD (R118), the stages of R304. -/

namespace Sys2Proof.Machine

/-- An outcome of exec. -/
abbrev Out := Host.Outcome State Fault Refusal

/-! ### Guards (R114, R115) -/

/-- The registers that the operations of the bundle in issue read (R110). -/
def State.rd (s : State) : Regs := s.issue.regs

/-- A 4-bit guard (R114). -/
def State.guard4 (s : State) (g : BitVec 4) : Bool := s.rd.readP (g.zeroExtend 7) = predT

/-- Whether a 5-bit guard names a mask. -/
def isMask (g : BitVec 5) : Bool := bitOf g 4

/-- The lanes that a 5-bit guard selects (R114, R115). -/
def State.guard5 (s : State) (g : BitVec 5) : W64 :=
  if isMask g then s.rd.readM (g.extractLsb' 0 4)
  else if s.rd.readP ((g.extractLsb' 0 4).zeroExtend 7) = predT then BitVec.allOnes 64 else 0

/-- Whether a lane-wise operation executes: some lane does (R115). -/
def State.runs64 (s : State) (g : BitVec 5) : Bool := s.guard5 g ≠ 0

/-- The same for the 32 lanes of the interval slot (R113). -/
def State.runs32 (s : State) (g : BitVec 5) : Bool := low32 (s.guard5 g) ≠ 0

/-- Whether an operation that has an effect without lanes executes: always under a mask guard, under T otherwise
(R115). -/
def State.runsAny (s : State) (g : BitVec 5) : Bool := isMask g || s.guard5 g ≠ 0

/-! ### Checks (R304) -/

/-- A cause of the bundle in issue. -/
def State.cause (s : State) (slot : Nat) (code : Byte) (tinfo : W64) : Cause := progCause code slot s.issue.flow.pc tinfo

/-- A system cause of the bundle in issue (R324). -/
def State.sysCause (s : State) (slot : Nat) (code reason : Byte) (tinfo va : W64) (kind : Byte) : Cause :=
  { code := code, reason := reason, slot := slot, off := s.issue.flow.pc, tinfo := tinfo, va := va, kind := kind }

/-- A cause when a condition holds. -/
def State.check (s : State) (slot : Nat) (bad : Bool) (code : Byte) (tinfo : W64) : Option Cause :=
  if bad then some (s.cause slot code tinfo) else none

/-- ALIGN (R324). -/
def State.alignCheck (s : State) (slot : Nat) (bad : Bool) (addr : W64) : Option Cause :=
  if bad then some (s.sysCause slot 0x23 0 addr addr 4) else none

/-- ILLEGAL with reason 7, a context condition (R310). -/
def State.context7 (s : State) (slot : Nat) (bad : Bool) (word : Nat) : Option Cause :=
  s.check slot bad 0x10 (BitVec.ofNat 64 (7 * 2 ^ 56 + word % 2 ^ 32))

/-- EMPTYREAD where a trap bit asks for it (R118). -/
def State.emptyRead (s : State) (slot : Nat) (flag : BitVec 1) (r : RegRef) : Option Cause :=
  s.check slot (flag = 1 && s.rd.isEmpty r) 0x0A (regInfo r.1 r.2)

/-- The wait on registers that are empty: stall source 1 (R22, R117). -/
def State.waitRegs (s : State) (rs : List RegRef) : Option Nat := if rs.any s.rd.isEmpty then some 1 else none

/-- The wait on a destination that is empty; a k register that a division by zero left empty has no result to come, and the next write
fills it (R117, R164). -/
def State.waitDest (s : State) (r : RegRef) : Option Nat :=
  if s.rd.isEmpty r && (r.1 ≠ .k || s.issue.mem.owesK r.2) then some 1 else none

/-- The first cause of a list of checks. -/
def firstOf {α : Type} : List (Option α) → Option α
  | [] => none
  | some x :: _ => some x
  | none :: t => firstOf t

/-- An operation under its guard and its checks: stage 2, waits, stage 4, then its effect (R303, R304). -/
def State.issueOp (s : State) (runs : Bool) (early : List (Option Cause)) (waits : List (Option Nat))
    (late : List (Option Cause)) (act : State → State) : Out :=
  if runs then
    match firstOf early with
    | some x => .next (s.issueTrap 2 x)
    | none => match firstOf waits with
      | some src => .next (s.judge (.waits src))
      | none => match firstOf late with
        | some x => .next (s.issueTrap 4 x)
        | none => .next ((act s).judge .performed)
  else .next (s.judge .idle)

/-- A result of latency dist of slot `slot` (R119). -/
def State.fly (s : State) (dist slot : Nat) (e : Eff) : State := s.mapLive fun c => c.fly dist slot e

/-! ### Operand access -/

def kRef (r : BitVec 6) : RegRef := (.k, r.toNat)
def aRef (r : BitVec 5) : RegRef := (.a, r.toNat)
def vRef (r : BitVec 6) : RegRef := (.v, r.toNat)
def qRef (r : BitVec 5) : RegRef := (.q, r.toNat)

def State.k (s : State) (r : BitVec 6) : Dom := s.rd.readK r
def State.a (s : State) (r : BitVec 5) : W64 := s.rd.readA r
def State.p (s : State) (r : BitVec 7) : BitVec 2 := s.rd.readP r
def State.m (s : State) (r : BitVec 4) : W64 := s.rd.readM r
def State.v (s : State) (r : BitVec 6) : VecV := s.rd.readV r
def State.q (s : State) (r : BitVec 5) : VecV := s.rd.readQ r

end Sys2Proof.Machine
end

