-- ==== Sys2Proof/Machine/Report.lean ====
section
/-! DEFINITION. What the device reports: the fault ring and the error log (R322, R357), MSI-X, trace records (R292, R300)
and the bundle history (R301). -/

namespace Sys2Proof.Machine

/-! ### Interrupts and rings -/

/-- Raises an MSI-X vector (R281, R322, R357). -/
def State.msix (s : State) (v : Nat) : State :=
  { s with mail := { s.mail with msix := Tbl.put s.mail.msix v (Tbl.get 0 s.mail.msix v + 1) } }

/-- The place of entry i of a ring. -/
def Ring.slot (r : Ring) (hdm : Tbl W64) (i : Nat) : Nat := keyOf hdm (r.base + 64 * (i % r.size))

/-- Whether a ring takes an entry now (R322). -/
def Ring.open_ (r : Ring) : Bool := r.named && (r.wp - r.rp).toNat < r.size

/-- Writes the reports that the fault ring holds back while it has room (R322). DESIGN CHOICE: no world is checked for what the device itself writes at a
physical address for system software: this ring, the error log, a trace ring (log 192). -/
def State.drainFaults (s : State) : List (BitVec 512) → State
  | [] => { s with faults := { s.faults with held := [] } }
  | x :: t =>
    if s.faults.open_ then
      let s := s.storeBlock (s.faults.slot s.fabric.hdm s.faults.wp.toNat) x
      State.drainFaults (({ s with faults := { s.faults with wp := s.faults.wp + 1 } }).msix 1) t
    else { s with faults := { s.faults with held := x :: t } }

/-- One error-log entry (R357). -/
def logEntry (cls unit where_ : Nat) (mcc : W64) (addr : Nat) (who : Nat) (detail : Nat) : BitVec 512 :=
  let r := recSet 0 0 8 cls
  let r := recSet r 1 8 unit
  let r := recSet r 2 16 where_
  let r := recSet r 4 32 1
  let r := recSet r 8 64 mcc.toNat
  let r := recSet r 16 64 addr
  let r := recSet r 24 32 who
  recSet r 28 32 detail

/-- Whether a corrected error merges into an entry: same class, unit and place within a millisecond (R357). -/
def merges (old new : BitVec 512) : Bool :=
  recField new 0 8 = (1 : Byte) && recField old 0 32 = recField new 0 32 &&
    (recField new 8 64 - recField old 8 64).toNat < 1000000

/-- Appends to the error log, or counts the entry as lost (R357); `full` is the address that the secure view shows in place of the entry's. -/
def State.logSecret (s : State) (x : BitVec 512) (full : Option Nat) : State :=
  let olds := (List.range (s.errors.wp - s.errors.rp).toNat).map fun i =>
    s.errors.slot s.fabric.hdm (s.errors.rp.toNat + i)
  match (if s.errors.named then olds else []).find? fun k => merges (s.block k) x with
  | some k => s.storeBlock k (recSet (s.block k) 4 32 ((recField (s.block k) 4 32).toNat + 1))
  | none =>
    if s.errors.open_ then
      let i := s.errors.wp.toNat % s.errors.size
      let secret := match full with
        | some a => Tbl.put s.errors.secret i a
        | none => Tbl.erase s.errors.secret i
      let s := s.storeBlock (s.errors.slot s.fabric.hdm s.errors.wp.toNat) x
      ({ s with errors := { s.errors with wp := s.errors.wp + 1, secret := secret } }).msix 2
    else { s with errors := { s.errors with lost := satAdd s.errors.lost 1 } }

/-- An entry that hides no address. -/
def State.logError (s : State) (x : BitVec 512) : State := s.logSecret x none

/-- The physical address of a place. DESIGN CHOICE: a line of device DRAM has the address that the decoder of the lower-numbered programmed port gives
it (log 182). -/
def State.physAddr (s : State) (key : Nat) : Nat :=
  if key < deviceSize then (hdmBases s.fabric.hdm).headD 0 + key else key - deviceSize

/-- An entry about a place: the log names its physical address, or 0 in a secure region, where only the secure view shows it (R350, R357). -/
def State.logAt (s : State) (cls unit where_ key who detail : Nat) : State :=
  let pa := s.physAddr key
  if s.isSecure key then s.logSecret (logEntry cls unit where_ s.mcc 0 who detail) (some pa)
  else s.logError (logEntry cls unit where_ s.mcc pa who detail)

/-- Entry i of the log in the secure view, in which ADDR is always filled (R357). -/
def State.secureEntry (s : State) (i : Nat) : BitVec 512 :=
  let x := s.block (s.errors.slot s.fabric.hdm i)
  match Tbl.find s.errors.secret (i % s.errors.size) with
  | some a => recSet x 16 64 a
  | none => x

/-- UNIT and WHERE of a place: the stack of device DRAM, the port that leads to it otherwise (R357). -/
def State.unitOf (s : State) (key : Nat) : Nat × Nat :=
  if key < deviceSize then (0, stackOf key)
  else
    let first : Nat := match s.routeOf key with
      | some (_, mask) => ((List.range 16).find? fun n => bitOf mask n).getD 0
      | none => cxlPort 0
    let p := (s.carrier key).getD first
    if p < 16 then (7, p) else (6, p - 16)

/-- PASID and WORLD as reports hold them. -/
def whoOf (pasid : BitVec 20) (world : Bool) : Nat := pasid.toNat + (if world then 2 ^ 20 else 0)

/-- The place that a MEMERR report names, in the address space of its context: the code line of REASON 3 by its VA, any other unit by TINFO. A walk
descriptor is named by its physical address (R284, R344). -/
def State.reported (s : State) (x : BitVec 512) : Option Nat :=
  let who : W32 := recField x 4 32
  let unit : W64 := if (recField x 1 8).toNat = 3 then recField x 40 64 else recField x 32 64
  let desc := (s.bind? (who.extractLsb' 0 20)).filter fun b => (recField x 1 8).toNat = 2 && unit = b.walkd && s.descPoisoned b
  match desc with
  | some b => some (keyOf s.fabric.hdm b.walkd.toNat)
  | none => s.seek { pasid := who.extractLsb' 0 20, world := bitOf who 20, core := (recField x 2 16).toNat } unit.toNat

/-- The place on the way to an address, among the tables of its translation or there, to which no port leads (R348). -/
def State.cutAt (s : State) (w : Agent) (va : Nat) : Option Nat :=
  match s.seek w va with
  | some k => if s.linkDown k then some k else none
  | none => (s.bindingOf w).bind fun b => match s.walk b w.world va .read with
    | .cut k => some k
    | _ => none

/-- UNIT and WHERE of a LINKERR report: the port of what TINFO names; of a fetch that of the first part of the overlay, or of its object-table entry, that
is out of reach. Where the port is up again by now, it is one that leads to what TINFO names. DEDUCED: what has no translation now waits for a table in
host memory (R328, R348, R357, log 208). -/
def State.cutUnit (s : State) (x : BitVec 512) : Nat × Nat :=
  let who : W32 := recField x 4 32
  let w : Agent := { pasid := who.extractLsb' 0 20, world := bitOf who 20, core := (recField x 2 16 : BitVec 16).toNat }
  let va := (recField x 40 64 : W64).toNat
  let entry := ((s.bind? w.pasid).map fun b => b.objt.toNat + 32 * (recField x 28 16 : BitVec 16).toNat).getD 0
  let vas := if (recField x 51 8 : Byte) = 2 then ((List.range 128).map fun i => va / 8192 * 8192 + 64 * i) ++ [entry] else [(recField x 32 64 : W64).toNat]
  match vas.findSome? (s.cutAt w) with
  | some k => s.unitOf k
  | none => match (vas.filterMap (s.seek w)).find? fun k => decide (deviceSize ≤ k) with
    | some k => s.unitOf k
    | none => (6, 0)

/-- Whether a MEMERR report is that of a POP: it names no access to memory (R344). -/
def popReport (x : BitVec 512) : Bool := recField x 1 8 = (0 : Byte) && recField x 51 8 = (4 : Byte)

/-- The log entry of a MEMERR, LINKERR or MACHINE for the part (R357), at the cycle that MCC holds: for consumed global memory with the physical address
and the stack or port, for scratchpad with the core; for a link with the port and its sequence number. DESIGN CHOICE: the poisoned entry of a queue, for
which the table of units has no line, is logged under the fabric with the cluster (log 167). -/
def State.logNow (s : State) (x : BitVec 512) : State :=
  let core := (recField x 2 16).toNat
  let who := (recField x 4 32).toNat
  let reason := (recField x 1 8).toNat
  match (recField x 0 8).toNat with
  | 0x30 =>
    if reason = 1 || bitOf (recField x 32 64 : W64) 63 && reason ≠ 3 then s.logError (logEntry 3 2 core s.mcc 0 who reason)
    else if popReport x then s.logError (logEntry 3 8 (core / 16) s.mcc 0 who reason)
    else match s.reported x with
      | some key => s.logAt 3 (s.unitOf key).1 (s.unitOf key).2 key who reason
      | none => s.logError (logEntry 3 0 (stackOf 0) s.mcc 0 who reason)
  | 0x31 =>
    let u := s.cutUnit x
    let port := if u.1 = 6 then cxlPort u.2 else u.2
    s.logError (logEntry 4 u.1 u.2 s.mcc (Tbl.get Port.fresh s.fabric.ports port).seq.toNat who 2)
  | 0x3F => s.logError (logEntry 7 9 core s.mcc 0 who 0)
  | _ => s

/-- A MEMERR, LINKERR or MACHINE is logged for the part as well, with the cycle of the event, which the report names (R322, R357). -/
def State.logReport (s : State) (x : BitVec 512) : State := { ({ s with mcc := recField x 8 64 } : State).logNow x with mcc := s.mcc }

/-- Sends a fault report (R321, R322). -/
def State.sendFault (s : State) (x : BitVec 512) : State :=
  let s := s.logReport x
  s.drainFaults (s.faults.held ++ [x])

/-! ### Trace (R292, R300) -/

/-- The stack of a core (R10). -/
def stackOfCore (core : Nat) : Nat := core / 128

/-- The cluster of a core (R10). -/
def clusterOfCore (core : Nat) : Nat := core / 16

/-- Appends a record to the ring of a stack, or drops and counts it when the ring has stopped (R292). -/
def State.trace (s : State) (stack : Nat) (x : BitVec 512) : State :=
  let t := Tbl.get Trace.fresh s.traces stack
  let put (s : State) (t : Trace) : State := { s with traces := Tbl.put s.traces stack t }
  if t.size = 0 then s
  else if t.mode = 1 ∧ t.size ≤ t.wp then put s { t with lost := satAdd t.lost 1 }
  else
    let i := t.wp.toNat % t.size.toNat
    let next := if t.mode = 1 then BitVec.ofNat 32 (i + 1) else BitVec.ofNat 32 ((i + 1) % t.size.toNat)
    put (s.storeBlock (t.base.toNat + 64 * i) x) { t with wp := next }

/-- Whether the trace queue of a core has an entry for a record: 256 entries, and 64 more that are reserved for drift records (R293). -/
def Core.traceRoom (k : Core) (x : BitVec 512) : Bool :=
  let drift (r : BitVec 512) : Bool := decide (r.extractLsb' 0 8 = 1)
  if drift x then decide ((k.trace.filter drift).length < 64) else decide ((k.trace.filter fun r => !drift r).length < 256)

/-- A core makes a record: it waits in the core's trace queue, or finds the queue full and is dropped and counted (R293). A stack
whose ring has no records traces nothing (R292). -/
def State.record (s : State) (core : Nat) (x : BitVec 512) : State :=
  let t := Tbl.get Trace.fresh s.traces (stackOfCore core)
  if t.size = 0 then s
  else if (s.coreOf core).traceRoom x then s.mapCore core fun k => { k with trace := k.trace ++ [x] }
  else { s with traces := Tbl.put s.traces (stackOfCore core) { t with lost := satAdd t.lost 1 } }

/-- The oldest record of a core's trace queue enters the ring of its stack (R293). -/
def State.recordEnters (s : State) (core : Nat) : State :=
  match (s.coreOf core).trace with
  | [] => s
  | x :: t => (s.mapCore core fun k => { k with trace := t }).trace (stackOfCore core) x

/-- Whether trace records, breakpoints, watchpoints and samples apply to a context (R291). -/
def State.traces? (s : State) (c : Context) : Bool := !c.id.world || s.fabric.sdebug

/-- The common part of a trace record (R300). -/
def traceHead (type slot core : Nat) (c : Context) (mcc : W64) (off : W32) (bclk : W64) : BitVec 512 :=
  let r := recSet 0 0 8 type
  let r := recSet r 1 8 slot
  let r := recSet r 2 16 core
  let r := recSet r 4 32 c.id.slot
  let r := recSet r 8 64 mcc.toNat
  let r := recSet r 16 64 (c.id.home * 2 ^ 58 + c.id.ticket.toNat % 2 ^ 58)
  let r := recSet r 24 16 c.id.obj.toNat
  let r := recSet r 26 32 off.toNat
  recSet r 32 64 bclk.toNat

/-- A core makes a trace record of a context. -/
def State.traceOf (s : State) (core : Nat) (c : Context) (x : BitVec 512) : State :=
  if s.traces? c then s.record core x else s

/-- A STOP record of a bundle by its offset and bundle clock; DWADDR is that of the hit, or the one that the context holds (R299, R300). -/
def stopRecord (core : Nat) (c : Context) (mcc : W64) (reason index slot : Nat) (off : W32) (bclk addr : W64) : BitVec 512 :=
  let r := traceHead 4 (if reason = 3 then 8 + slot else 0) core c mcc off bclk
  let r := recSet r 40 8 reason
  let r := recSet r 41 8 index
  recSet r 48 64 addr.toNat

/-- A DRIFT record (R144, R300). -/
def driftRecord (core : Nat) (c : Context) (mcc : W64) (drift : W64) (expected elapsed : BitVec 21) : BitVec 512 :=
  let r := traceHead 1 8 core c mcc c.flow.pc c.flow.bclk
  let r := recSet r 40 64 drift.toNat
  let r := recSet r 48 32 expected.toNat
  let r := recSet r 52 32 elapsed.toNat
  recSet r 56 32 c.sys.driftt.toNat

/-- Writes the history of a context, oldest first, and clears it (R301). -/
def State.traceHistory (s : State) (core : Nat) (c : Context) : State :=
  c.dbg.hist.foldl (fun s x => s.traceOf core c x) s

end Sys2Proof.Machine
end

