-- ==== Sys2Proof/Machine/Journal.lean ====
section
/-! DEFINITION. The gate and the journal (R353, R354, R356), places of the overflow area (R35), tile entries (R60, R61),
control blocks that an operation names (R43, R262). -/

namespace Sys2Proof.Machine

/-! ### The gate (R353, R354) -/

/-- Kinds of accepted-work operations. -/
def kSpawn : Nat := 0
def kSusp : Nat := 1
def kPush : Nat := 2
def kPusht : Nat := 3
def kPushqw : Nat := 4
def kPushr : Nat := 5
def kXadd : Nat := 6
def kXaddv : Nat := 7
def kXclr : Nat := 8
def kCxred : Nat := 9
def kCs2g : Nat := 10
def kCg2g : Nat := 11
def kQnew : Nat := 12
def kQborrow : Nat := 13
def kBorrow : Nat := 14
def kQret : Nat := 15
def kQwait : Nat := 16
def kEnd : Nat := 17

/-- What the gate does with an operation. -/
inductive Gate where
  | perform
  | suppressed
  | diverged
  deriving DecidableEq, Repr

/-- What the gate will do with an operation (R354, R356). -/
def Context.gateOf (c : Context) (key : AccKey) : Gate :=
  match c.run.suppress with
  | [] => .perform
  | k :: _ => if k = key then .suppressed else .diverged

/-- The operation passes the gate: it counts, or uses up one of those to suppress, or marks the run as diverged. -/
def Context.gate (c : Context) (key : AccKey) : Context :=
  match c.run.suppress with
  | [] => { c with run := { c.run with accepted := c.run.accepted ++ [key] } }
  | k :: t =>
    if k = key then { c with run := { c.run with suppress := t } } else { c with id := { c.id with killed := true } }

/-- The operation passes the gate and acts outside the context, inside it, or not at all. -/
def Context.pass (c : Context) (key : AccKey) (outside inside : Context → Context) : Context :=
  match c.gateOf key with
  | .perform => inside (outside (c.gate key))
  | .suppressed => inside (c.gate key)
  | .diverged => c.gate key

/-- The weight account of the run (R353). -/
def Context.account (c : Context) (x : W64) : Context := { c with run := { c.run with account := c.run.account + x } }

/-- Sends a Hearth or Bellows operation in program order (R150, R151). -/
def Context.send (c : Context) (op : HOp) : Context := { c with mem := { c.mem with hearth := c.mem.hearth ++ [{ id := c.mem.nextId, op := op }] } }

/-- Whether an operation on the way is a Hearth operation; records and pushes go to the Bellows (R151). -/
def HOp.toHearth : HOp → Bool
  | .offer _ _ _ | .push _ _ => false
  | _ => true

/-- Whether QDI names a domain (R152). -/
def Context.inDomain (c : Context) : Bool := c.sys.qdi ≠ (0xFFFFFFFF : W32)

/-- The block of the context's domain (R43). -/
def Context.home? (c : Context) : W64 := c.id.block.getD 0

/-- The block that the weight of a context belongs to. -/
def Context.homeNow (c : Context) : Option W64 := if c.inDomain then some c.home? else none

/-- What the gate writes of an access that is accepted work (R353). -/
def Acc.key? (a : Acc) : Option AccKey := match a.op with
  | .xadd _ => some { kind := kXadd, target := a.va.toNat }
  | .xaddv _ => some { kind := kXaddv, target := a.va.toNat }
  | .xclr _ => some { kind := kXclr, target := a.va.toNat }
  | _ => none

/-- Whether a failure stands for an operation that is issued again (R326, R329). -/
def retriedFault (code reason : Byte) : Bool :=
  match code.toNat with
  | 0x20 | 0x22 | 0x24 | 0x31 => true
  | 0x30 => reason = 0
  | _ => false

/-- Whether a run that a reset has ended tries a failed write again: every write, plain stores and atomics among them, has passed the gate and
completes whatever becomes of the core (R353), unless the world check ends it (R350); a killed run abandons what failed (R323). DEDUCED
(log 164). -/
def Context.persists (c : Context) (code reason : Byte) : Bool :=
  !c.id.killed && match code.toNat with
    | 0x20 | 0x30 | 0x31 => true
    | 0x22 => reason ≠ 3
    | 0x24 => reason ≠ 2
    | _ => false

/-! ### Places of the overflow area (R35) -/

/-- Places that scheduling entries, value entries and records on their way hold. -/
def Entry.place (e : Entry) (pasid : BitVec 20) : Nat :=
  match e.body with
  | .fresh rec => if (recField rec 24 32).extractLsb' 0 20 = pasid then 1 else 0
  | .resume _ _ => 0

/-- Records that SPAWN offered and pushes that are not accepted yet. -/
def Context.offers (c : Context) : Nat :=
  (c.mem.hearth.filter fun h => match h.op with
    | .offer _ _ _ | .push _ _ => true
    | _ => false).length

/-- Whether a context is a run (R351): ghosts are not. -/
def Context.isRun (c : Context) : Bool := match c.id.status with
  | .ghost => false
  | _ => true

def sumNat (xs : List Nat) : Nat := xs.foldl (· + ·) 0

/-- Places of a PASID in use but for those of the live context's own offers and of the push it has made in this
bundle. -/
def State.placesElsewhere (s : State) (pasid : BitVec 20) : Nat :=
  sumNat (s.clusters.map fun g =>
    sumNat (g.2.sched.map fun q => sumNat (q.2.map fun e => e.place pasid)) +
    sumNat (g.2.value.map fun q => (q.2.entries.filter fun e => e.pasid = pasid).length)) +
  sumNat (s.ctxs.map fun c => if c.2.id.pasid = pasid then (if c.2.isRun then 1 else 0) + (if c.1 = s.uid then 0 else c.2.offers) else 0)

/-- Whether a place of the live context's process is free (R35). -/
def State.placeFree (s : State) : Bool :=
  match s.bind? s.live.id.pasid with
  | none => false
  | some b => s.placesElsewhere s.live.id.pasid + s.live.offers +
      (if s.live.flow.tail.push.isSome then 1 else 0) < 64 * b.ovfn

/-! ### Tile entries (R60, R61) -/

def teSt (x : W32) : BitVec 2 := x.extractLsb' 0 2
def tePh (x : W32) : BitVec 1 := x.extractLsb' 2 1
def teRem (x : W32) : Nat := (x.extractLsb' 3 24).toNat
def teFmt (x : W32) : BitVec 4 := x.extractLsb' 27 4
def teClaimed (x : W32) : Bool := bitOf x 31

/-- An entry from its fields. -/
def mkTe (cl : Bool) (fmt : BitVec 4) (rem : Nat) (ph : BitVec 1) (st : BitVec 2) : W32 :=
  (if cl then (1 : BitVec 1) else 0) ++ fmt ++ BitVec.ofNat 24 rem ++ ph ++ st

def teEmpty : BitVec 2 := 0
def teFilling : BitVec 2 := 1
def teReady : BitVec 2 := 2
def teDraining : BitVec 2 := 3

/-- An entry of a context. -/
def Context.te (c : Context) (n : Nat) : W32 := Tbl.get 0 c.mem.te n

def Context.setTe (c : Context) (n : Nat) (x : W32) : Context := { c with mem := { c.mem with te := Tbl.set 0 c.mem.te n x } }

/-- An entry with a new state and count. -/
def teTo (x : W32) (rem : Nat) (ph : BitVec 1) (st : BitVec 2) : W32 := mkTe (teClaimed x) (teFmt x) rem ph st

/-- TINFO of TILESTATE and CLAIMED (R308). -/
def tileInfo (surplus : Nat) (x : W32) (cls : RegClass) (n : Nat) : W64 :=
  BitVec.ofNat 64 (surplus * 2 ^ 32 + (teSt x).toNat * 2 ^ 16) ||| regInfo cls n

/-- Counts k landed bytes into an entry, or blames the copy; ST is that of the entry when it was checked (R61, R308, R316). -/
def Context.countTile (c : Context) (n : Nat) (incoming : Bool) (k : Nat) (off : W32) (bclk : W64) : Context :=
  let x := c.te n
  let blame (c : Context) (surplus : Nat) : Context := c.blame (causeAt bclk 0x15 7 off (tileInfo surplus x .te n))
  if teSt x = (if incoming then teFilling else teDraining) then
    if k < teRem x then c.setTe n (teTo x (teRem x - k) (tePh x) (teSt x))
    else
      let c := c.setTe n (if incoming then teTo x 0 (~~~tePh x) teReady else teTo x 0 (tePh x) teEmpty)
      if teRem x < k then blame c (k - teRem x) else c
  else blame c k

/-! ### Control blocks (R43, R262) -/

/-- A read of n bytes at a virtual address by the device itself, as control blocks are read (R30, R262). -/
def State.readTable (s : State) (w : Agent) (va : Nat) (n : Nat) : State × Reach × Nat :=
  match s.reachOpen w va .read with
  | (s, .at_ key) =>
    let line := key / 64 * 64
    let s := s.takeAfresh w va line
    let x := s.controlBlock line
    (s.holdBlock line x, .at_ key, x.toNat / 2 ^ (8 * (key % 64)) % 2 ^ (8 * n))
  | (s, r) => (s, r, 0)

/-- What naming a domain comes to (R43): its block with its virtual address, a wait, or a system cause with its reason, the unit it names and the
address. -/
inductive Named where
  | block (key va : Nat)
  | wait
  | bad (code reason : Byte) (unit va : Nat)
  deriving DecidableEq, Repr

/-- Reads the domain-table entry of an index and translates the block's address (R43); a block in host memory is refused by its place, before
it is used. -/
def State.nameDomain (s : State) (w : Agent) (idx : Nat) : State × Named :=
  match s.bind? w.pasid with
  | none => (s, .bad 0x20 1 0 0)
  | some b =>
    let entry := b.qdt.toNat + 8 * idx
    match s.readTable w entry 8 with
    | (s, .wait, _) => (s, .wait)
    | (s, .fail code r, _) => (s, .bad code r (s.unitOfFault w code r entry) entry)
    | (s, .at_ k, va) =>
      if s.isPoisoned k 8 then (s, .bad 0x30 2 (lineVa entry) entry)
      else match s.reach w va .write with
        | (s, .at_ key) =>
          if s.isHost key then (s, .block key va)
          else match s.bars w.world key with
            | some (code, r) => (s, .bad code r va va)
            | none => if s.isPoisoned key 64 then (s, .bad 0x30 2 (lineVa va) va) else (s, .block key va)
        | (s, .wait) => (s, .wait)
        | (s, .fail code r) => (s, .bad code r (s.unitOfFault w code r va) va)

end Sys2Proof.Machine
end

