-- ==== Sys2Proof/Machine/Narrow.lean ====
section
/-! DEFINITION. Narrow formats (R93 to R98, R201, R238): reading a format register, the value of a code, conversion
into a format with saturation and counting, block scales, and the layouts of a converted row. -/

namespace Sys2Proof.Machine

/-- A format register taken apart (R93). -/
structure Fmt where
  s : Nat
  e : Nat
  m : Nat
  bias : Int
  spec : Nat
  subn : Bool
  scale : Nat
  deriving DecidableEq, Repr

/-- The fields of a format register (R93). -/
def fmtOf (x : W32) : Fmt :=
  let n := x.toNat
  { s := n % 2, e := n / 2 % 8, m := n / 16 % 8, bias := (x.extractLsb' 7 8).toInt, spec := n / 2 ^ 15 % 4,
    subn := n / 2 ^ 17 % 2 == 1, scale := n / 2 ^ 18 % 4 }

/-- The format register value of a format (R93). -/
def Fmt.bits (f : Fmt) : W32 :=
  BitVec.ofNat 32 (f.s + 2 * f.e + 2 ^ 4 * f.m + 2 ^ 15 * f.spec + (if f.subn then 2 ^ 17 else 0) + 2 ^ 18 * f.scale) |||
    ((BitVec.ofInt 8 f.bias).zeroExtend 32 <<< 7)

/-- Element width S + E + M (R63). -/
def Fmt.width (f : Fmt) : Nat := f.s + f.e + f.m

/-- Whether a format register value names BF16 (R93). -/
def fmtIsBf (x : W32) : Bool := x.toNat % 2 ^ 20 == 0

/-- Whether a format register value is valid (R94). -/
def fmtValid (x : W32) : Bool :=
  let f := fmtOf x
  fmtIsBf x || (2 ≤ f.width && f.width ≤ 8 && f.scale != 3 && f.spec != 3 &&
    (f.spec != 1 || (1 ≤ f.e && 1 ≤ f.m)) && (f.e != 0 || (f.spec == 0 && !f.subn)))

/-- Elements per block scale: 32 for E8M0, 16 for E4M3 (R64, R93). -/
def Fmt.block (f : Fmt) : Nat := if f.scale = 1 then 32 else 16

/-- The value of a code (R95). DESIGN CHOICE: the NaN of a narrow format has payload 0, the smallest, where an Anvil beat takes the smallest payload
(R91, log 200). -/
def Fmt.value (f : Fmt) (code : Nat) : FVal :=
  if f.e = 0 then
    if f.s = 0 then .fin false (code % 2 ^ f.m) (-f.bias)
    else
      let v := (BitVec.ofNat (f.m + 1) code).toInt
      .fin (v < 0) v.natAbs (-f.bias)
  else
    let neg := f.s = 1 && code / 2 ^ (f.e + f.m) % 2 == 1
    let ex := code / 2 ^ f.m % 2 ^ f.e
    let mt := code % 2 ^ f.m
    let top := ex = 2 ^ f.e - 1
    if f.spec = 1 && top then (if mt = 0 then .inf neg else .nan 0)
    else if f.spec = 2 && top && mt = 2 ^ f.m - 1 then .nan 0
    else if ex = 0 then (if f.subn then .fin neg mt (1 - f.bias - f.m) else .fin neg 0 0)
    else .fin neg (2 ^ f.m + mt) (ex - f.bias - f.m)

/-- The magnitude code of the largest finite magnitude (R95). -/
def Fmt.maxCode (f : Fmt) : Nat :=
  if f.e = 0 then 2 ^ f.m - 1
  else if f.e = 1 && f.spec = 1 && !f.subn then 0
  else if f.spec = 1 then (2 ^ f.e - 1) * 2 ^ f.m - 1
  else if f.spec = 2 then 2 ^ (f.e + f.m) - 2
  else 2 ^ (f.e + f.m) - 1

/-- The largest finite magnitude, as m * 2^e (R95). -/
def Fmt.maxMag (f : Fmt) : Nat × Int :=
  match f.value f.maxCode with
  | .fin _ m e => (m, e)
  | _ => (0, 0)

/-- The magnitude code of n / d * 2^e in a format whose values are the powers of two from 2^umin on (M = 0), exponent range unbounded
above. DESIGN CHOICE: no significand is even, so an RNE tie goes to the code whose least bit is 0 (log 45). -/
def powerCode (rm : Rm) (neg : Bool) (n d : Nat) (e umin : Int) : Nat :=
  let u := unitOf n d e 1 umin
  let num := if u ≤ e then n * 2 ^ (e - u).toNat else n
  let den := if u ≤ e then d else d * 2 ^ (u - e).toNat
  let c := (u - umin).toNat + num / den
  if roundsAway rm neg c (num % den) den then c + 1 else c

/-- The magnitude code of n / d * 2^e rounded into the format, exponent range unbounded above (R97 step 1). -/
def Fmt.roundMag (f : Fmt) (rm : Rm) (neg : Bool) (n d : Nat) (e : Int) : Nat :=
  if f.e = 0 then roundUnits rm neg n d e (-f.bias)
  else
    let umin := 1 - f.bias - f.m
    if n = 0 then 0
    else if !f.subn && floorLog n d + e < 1 - f.bias then
      -- between 0 and the smallest normal value there is nothing; halfway goes to 0, whose significand is even
      let lo : Int := 1 - f.bias
      let num := if lo ≤ e then n * 2 ^ (e - lo).toNat else n
      let den := if lo ≤ e then d else d * 2 ^ (lo - e).toNat
      if roundsAway rm neg 0 num den then 2 ^ f.m else 0
    else if f.m = 0 then powerCode rm neg n d e umin
    else magCode rm neg n d e (f.m + 1) umin

/-- The code of a finite value, and whether it counts an overflow (R97 steps 1, 2 and 5). -/
def Fmt.encodeFin (f : Fmt) (rm : Rm) (neg : Bool) (n d : Nat) (e : Int) : Nat × Bool :=
  let c := f.roundMag rm neg n d e
  let clipped := f.maxCode < c
  let c' := if clipped then f.maxCode else c
  if c' = 0 then (0, clipped)
  else if neg && f.s = 0 then (0, true)
  else if neg then
    (if f.e = 0 then (2 ^ (f.m + 1) - c', clipped) else (2 ^ (f.e + f.m) + c', clipped))
  else (c', clipped)

/-- The NaN code of a format, if it has one (R97 step 4). -/
def Fmt.nanCode (f : Fmt) : Option Nat :=
  if f.spec = 1 then some ((2 ^ f.e - 1) * 2 ^ f.m + 1) else if f.spec = 2 then some (2 ^ (f.e + f.m) - 1) else none

/-- The code of an FP32 value divided by a scale sn * 2^se, and whether it counts (R97 steps 1 to 5). -/
def Fmt.encode (f : Fmt) (rm : Rm) (sn : Nat) (se : Int) (x : W32) : Nat × Bool :=
  match unpackF32 x with
  | .nan _ => match f.nanCode with
    | some c => (c, false)
    | none => (0, true)
  | .inf neg =>
    if neg && f.s = 0 then (0, true)
    else
      let sg := if neg then 2 ^ (f.e + f.m) else 0
      if f.spec = 1 then (sg + (2 ^ f.e - 1) * 2 ^ f.m, false)
      else if f.maxCode = 0 then (0, true)
      else if f.e = 0 && neg then (2 ^ (f.m + 1) - f.maxCode, true)
      else (sg + f.maxCode, true)
  | .fin neg m e => f.encodeFin rm neg m sn (e - se)

/-! ### Block scales (R96, R97) -/

/-- The E4M3 format that scales are read in (R96). -/
def e4m3 : Fmt := { s := 1, e := 4, m := 3, bias := 7, spec := 2, subn := true, scale := 0 }

/-- The value of a scale code, or none for NaN (R96). -/
def Fmt.scaleValue (f : Fmt) (c : Nat) : Option (Nat × Int) :=
  if f.scale = 1 then (if c = 255 then none else some (1, (c : Int) - 127))
  else match e4m3.value (c % 128) with
    | .fin _ m e => some (m, e)
    | _ => none

/-- The value of an element code under its block's scale (R95, R96). -/
def Fmt.scaled (f : Fmt) (code scale : Nat) : FVal :=
  if f.scale = 0 then f.value code
  else match f.scaleValue scale with
    | none => .nan 0
    | some (m, e) => (mulExact (f.value code) (.fin false m e)).getD (.nan 0)

/-- The magnitude pattern of an FP32 value: its order is the order of magnitudes, infinity above every finite one. -/
def magPattern (x : W32) : Nat := x.toNat % 2 ^ 31

/-- The scale code that a conversion chooses for a block (R97 step 6). -/
def Fmt.chooseScale (f : Fmt) (xs : List W32) : Nat :=
  if xs.any isNaN then (if f.scale = 1 then 0xFF else 0x7F)
  else
    let a := xs.foldl (fun m x => max m (magPattern x)) 0
    let big := f.maxMag
    if a = 0 then (if f.scale = 1 then 0 else 1)
    else if big.1 = 0 then (Config.freeScale f.bits (BitVec.ofNat 32 a)).toNat
    else match unpackF32 (BitVec.ofNat 32 a) with
      | .fin _ m e =>
        if f.scale = 1 then
          let emax := (Nat.log2 big.1 : Int) + big.2
          (max 0 (min 254 ((Nat.log2 m : Int) + e - emax + 127))).toNat
        else max 1 (min e4m3.maxCode (e4m3.roundMag .rup false m big.1 (e - big.2)))
      | _ => if f.scale = 1 then 254 else e4m3.maxCode

/-- A converted block: scale code, element codes, overflows counted. -/
structure Converted where
  scales : List Nat
  codes : List Nat
  count : Nat
  deriving DecidableEq, Repr

/-- Splits a list into blocks of n, at most fuel of them. -/
def blocksOf (n : Nat) : Nat → List W32 → List (List W32)
  | 0, _ => []
  | k + 1, xs => if xs.isEmpty then [] else xs.take n :: blocksOf n k (xs.drop n)

/-- Conversion of a row of FP32 values into a narrow format, block scales first; divided by a NaN scale every element is a NaN (R97). -/
def Fmt.convert (f : Fmt) (rm : Rm) (xs : List W32) : Converted :=
  if f.scale = 0 then
    let cs := xs.map (f.encode rm 1 0)
    { scales := [], codes := cs.map (·.1), count := (cs.filter (·.2)).length }
  else
    (blocksOf f.block xs.length xs).foldl (fun acc b =>
      let sc := f.chooseScale b
      let v := (f.scaleValue sc).getD (1, 0)
      let v := if v.1 = 0 then (1, 0) else v
      let cs := b.map fun x => f.encode rm v.1 v.2 (if (f.scaleValue sc).isNone then 0x7FC00000 else x)
      { scales := acc.scales ++ [sc], codes := acc.codes ++ cs.map (·.1),
        count := acc.count + (cs.filter (·.2)).length }) { scales := [], codes := [], count := 0 }

/-- The bytes of packed codes: one per byte for widths 5 to 8, two per byte for widths 2 to 4 (R63). -/
def Fmt.packCodes (f : Fmt) : List Nat → List Byte
  | [] => []
  | a :: t =>
    if 5 ≤ f.width then BitVec.ofNat 8 a :: Fmt.packCodes f t
    else match t with
      | [] => [BitVec.ofNat 8 (a % 16)]
      | b :: t' => BitVec.ofNat 8 (a % 16 + 16 * (b % 16)) :: Fmt.packCodes f t'

/-- A row of FP32 values converted to a format register's format: code bytes, scale bytes, overflows (R97, R238). -/
def convertRow (fmt : W32) (rm : Rm) (xs : List W32) : List Byte × List Byte × Nat :=
  if fmtIsBf fmt then
    let cs := xs.map (f32ToBfSat rm)
    (cs.flatMap fun c => leBytes 2 c.1.toNat, [], (cs.filter (·.2)).length)
  else
    let f := fmtOf fmt
    let r := f.convert rm xs
    (f.packCodes r.codes, r.scales.map (BitVec.ofNat 8 ·), r.count)

/-- Side-area bytes in use per slot row (R64). -/
def sideBytes (fmt : W32) : Nat :=
  let f := fmtOf fmt
  if fmtIsBf fmt || f.scale = 0 then 0
  else (if 5 ≤ f.width then 256 else 512) / f.block

/-- The bytes one drained row takes: codes, then scales (R238). -/
def drainBytes (f32 : Bool) (fmt : W32) : Nat :=
  if f32 then 512
  else if fmtIsBf fmt then 256
  else
    let f := fmtOf fmt
    (if 5 ≤ f.width then 128 else 64) + (if f.scale = 0 then 0 else 128 / f.block)

/-- VCVTN: the FP32 lanes of a register as packed codes and scales, and the overflows (R201). -/
def vcvtn (fmt : W32) (x : VecV) : VecV × Nat :=
  let r := convertRow fmt .rne ((List.range 64).map (laneV x))
  let at_ := if fmtIsBf fmt then 128 else if 5 ≤ (fmtOf fmt).width then 64 else 32
  (BitVec.ofNat 2048 (leNat r.1 + leNat r.2.1 * 2 ^ (8 * at_)), r.2.2)

/-- The code of element i of a packed row at byte i of which the row begins (R63, R201). -/
def codeAt (f : Fmt) (row : Nat) (i : Nat) : Nat :=
  if 5 ≤ f.width then row / 2 ^ (8 * i) % 2 ^ f.width else row / 2 ^ (4 * i) % 2 ^ f.width

/-- Element i of a row of operand memory or of a packed register, with its scale byte (R63, R64, R96). -/
def elementAt (fmt : W32) (row side : Nat) (i : Nat) : FVal :=
  if fmtIsBf fmt then unpackF32 (bfToF32 (BitVec.ofNat 16 (row / 2 ^ (16 * i))))
  else
    let f := fmtOf fmt
    f.scaled (codeAt f row i) (if f.scale = 0 then 0 else side / 2 ^ (8 * (i / f.block)) % 256)

/-- VCVTW: the values of packed codes as FP32, RNE (R201). DEDUCED: a NaN code gives 0x7FC0_0000 under a zero format register (BF16) too,
as R201 says of every NaN code, though R92 widens a BF16 NaN by 16 zero bits (log 149). -/
def vcvtw (fmt : W32) (x : VecV) : VecV :=
  let at_ := if 5 ≤ (fmtOf fmt).width then 64 else 32
  mkV fun i => match elementAt fmt x.toNat (x.toNat / 2 ^ (8 * at_)) i with
    | .nan _ => invalidNaN
    | v => v.toF32

end Sys2Proof.Machine
end

