-- ==== Sys2Proof/Machine/Trans.lean ====
section
/-! DEFINITION. Square roots, exponentials and logarithms, correctly rounded (R197, R206, R211): integer enclosures at
320 fractional bits whose two ends round alike. A transcendental value of an FP32 operand other than the exact cases is
never so near a rounding boundary that the ends part. -/

namespace Sys2Proof.Machine

/-- Fractional bits of the enclosures. -/
def fixBits : Nat := 320

/-- The slack on both sides of a computed value, in units of 2^-320; the truncations of the series are below 2^12. -/
def fixSlack : Nat := 2 ^ 20

/-- The terms of atanh(z) with z^2 = n2 / d2, from the term t. -/
def atanhTerms (n2 d2 : Nat) : Nat → Nat → Nat → Nat
  | 0, _, _ => 0
  | k + 1, t, i => t / (2 * i + 1) + atanhTerms n2 d2 k (t * n2 / d2) (i + 1)

/-- 2 atanh(n / d), scaled by 2^320, for 0 ≤ n / d ≤ 1/3. -/
def atanhTwice (n d : Nat) : Nat := 2 * atanhTerms (n * n) (d * d) 110 (n * 2 ^ fixBits / d) 0

/-- ln 2, scaled. -/
def lnTwo : Nat := atanhTwice 1 3

/-- ln(m / 2^l) for 2^l ≤ m < 2^(l+1), scaled. -/
def lnMant (m l : Nat) : Nat := atanhTwice (m - 2 ^ l) (m + 2 ^ l)

/-- The Taylor terms of the exponential from the term t. -/
def expTerms (r : Nat) : Nat → Nat → Nat → Nat
  | 0, _, _ => 0
  | k + 1, t, i => t + expTerms r k (t * r / 2 ^ fixBits / i) (i + 1)

/-- e^r for 0 ≤ r < 1, both scaled. -/
def expFix (r : Nat) : Nat := expTerms r 100 (2 ^ fixBits) 1

/-- Rounds a value known to lie within the slack of v * 2^(e - 320). -/
def roundNear (rm : Rm) (v e : Int) : W32 :=
  let lo := (packInt rm (v - fixSlack) (e - fixBits)).1
  let hi := (packInt rm (v + fixSlack) (e - fixBits)).1
  if lo = hi then lo else (packInt rm v (e - fixBits)).1

/-- A dyadic x clamped to [lo, hi], scaled by 2^320, for x = m * 2^e with e ≥ -320. -/
def clampFix (m e lo hi : Int) : Int :=
  let cap : Int := 2 ^ (fixBits + 12)
  let v : Int :=
    if e ≤ 0 then m * 2 ^ (e + fixBits).toNat
    else if e > 20 then (if m < 0 then -cap else if m = 0 then 0 else cap)
    else m * 2 ^ (e.toNat + fixBits)
  max (lo * 2 ^ fixBits) (min (hi * 2 ^ fixBits) v)

/-- 2^x, rounded, for a finite x = m * 2^e. -/
def exp2Round (rm : Rm) (m e : Int) : W32 :=
  let x := clampFix m e (-400) 400
  let k := x / 2 ^ fixBits
  let f := (x % 2 ^ fixBits).toNat
  if f = 0 then (packInt rm 1 k).1 else roundNear rm (expFix (f * lnTwo / 2 ^ fixBits)) k

/-- e^x, rounded, for a finite x = m * 2^e. -/
def expRound (rm : Rm) (m e : Int) : W32 :=
  if m = 0 then 0x3F800000
  else
    let x := clampFix m e (-400) 400
    let k := x / lnTwo
    roundNear rm (expFix (x % lnTwo).toNat) k

/-- log2 x, rounded, for x = m * 2^e > 0. -/
def log2Round (rm : Rm) (m : Nat) (e : Int) : W32 :=
  let l := Nat.log2 m
  if m = 2 ^ l then (packInt rm (e + l) 0).1
  else roundNear rm ((e + l) * 2 ^ fixBits + (lnMant m l * 2 ^ fixBits / lnTwo : Nat)) 0

/-- ln x, rounded, for x = m * 2^e > 0. -/
def lnRound (rm : Rm) (m : Nat) (e : Int) : W32 :=
  let l := Nat.log2 m
  if m = 2 ^ l && e + l = 0 then 0
  else roundNear rm ((e + l) * lnTwo + lnMant m l) 0

/-- √x, rounded, for x = m * 2^e ≥ 0: a root of a scaled integer and a bit for what is cut off. -/
def sqrtRound (rm : Rm) (m : Nat) (e : Int) : W32 :=
  let m' := if e % 2 = 0 then m else 2 * m
  let h := e / 2
  let n := m' * 2 ^ 128
  let r := isqrt n
  (packF32 rm false (2 * r + if r * r = n then 0 else 1) 1 (h - 65)).1

/-- 1 / √x, rounded, for x = m * 2^e > 0. -/
def rsqrtRound (rm : Rm) (m : Nat) (e : Int) : W32 :=
  let m' := if e % 2 = 0 then m else 2 * m
  let h := e / 2
  let t := Nat.log2 m' + 64
  let r := isqrt (2 ^ (2 * t) / m')
  (packF32 rm false (2 * r + if r * r * m' = 2 ^ (2 * t) then 0 else 1) 1 (-h - t - 1)).1

/-- VRCP.F (R197). -/
def fRcp (a : W32) : W32 :=
  match unpackF32 a with
  | .nan p => quietNaN p
  | .inf s => if s then 0x80000000 else 0
  | .fin s m e => if m = 0 then infF32 s else (packF32 .rne s 1 m (-e)).1

/-- VRSQ.F (R197). -/
def fRsq (a : W32) : W32 :=
  match unpackF32 a with
  | .nan p => quietNaN p
  | .inf s => if s then invalidNaN else 0
  | .fin s m e => if m = 0 then infF32 s else if s then invalidNaN else rsqrtRound .rne m e

/-- VEXP2.F (R197). -/
def fExp2 (a : W32) : W32 :=
  match unpackF32 a with
  | .nan p => quietNaN p
  | .inf s => if s then 0 else infF32 false
  | .fin s m e => exp2Round .rne (signedMag s m) e

/-- VLOG2.F (R197). -/
def fLog2 (a : W32) : W32 :=
  match unpackF32 a with
  | .nan p => quietNaN p
  | .inf s => if s then invalidNaN else infF32 false
  | .fin s m e => if m = 0 then infF32 true else if s then invalidNaN else log2Round .rne m e

end Sys2Proof.Machine
end

