-- ==== Sys2Proof/Machine/Vec.lean ====
section
/-! DEFINITION. The vector slot, slot 3 (R194 to R204): 64 lanes of 32 bits, FP32 and int32 arithmetic, conversions, moves,
permutes, broadcasts, reductions. Lanes that a mask guard leaves out keep their bits (R115, R195). -/

namespace Sys2Proof.Machine

/-- The checks and waits that a VEC operation with v sources makes: EMPTYREAD where a trap bit asks for it (R118), else a
wait on every source and on the destination (R117). DEDUCED: of two empty sources with trap bits set, EMPTYREAD names A (log 150). -/
def State.vecOp (s : State) (runs : Bool) (ds : List RegRef) (srcs : List (RegRef × BitVec 1)) (act : State → State) : Out :=
  s.issueOp runs (srcs.map fun r => s.emptyRead 3 r.2 r.1) [s.waitRegs (ds ++ srcs.map (·.1))] [] act

/-- A lane-wise operation with a v destination (R195). -/
def State.vecLanes (s : State) (g : BitVec 5) (lat : Nat) (d : BitVec 6) (srcs : List (BitVec 6 × BitVec 1))
    (f : Nat → W32) : Out :=
  s.vecOp (s.runs64 g) [vRef d] (srcs.map fun r => (vRef r.1, r.2)) fun s => s.fly lat 3 (.v d (s.guard5 g) (mkV f))

/-- One source. -/
def State.vec1 (s : State) (g : BitVec 5) (lat : Nat) (d a : BitVec 6) (f : BitVec 1) (op : W32 → W32) : Out :=
  s.vecLanes g lat d [(a, f)] fun i => op (laneV (s.v a) i)

/-- Two sources. -/
def State.vec2 (s : State) (g : BitVec 5) (lat : Nat) (d a b : BitVec 6) (f h : BitVec 1) (op : W32 → W32 → W32) : Out :=
  s.vecLanes g lat d [(a, f), (b, h)] fun i => op (laneV (s.v a) i) (laneV (s.v b) i)

/-- A compare: it writes the executing lanes of a mask (R195). -/
def State.vecCmp (s : State) (g : BitVec 5) (lat : Nat) (d : BitVec 4) (a b : BitVec 6) (f h : BitVec 1)
    (op : W32 → W32 → Bool) : Out :=
  s.vecOp (s.runs64 g) [] [(vRef a, f), (vRef b, h)] fun s =>
    s.fly lat 3 (.m d (s.guard5 g) (mkMask 64 fun i => op (laneV (s.v a) i) (laneV (s.v b) i)))

/-- Overflows counted into VOVF at the write point, in the executing lanes (R98, R200). -/
def State.countLanes (s : State) (g : BitVec 5) (n : Nat → Nat) : Nat :=
  ((List.range 64).map fun i => if bitOf (s.guard5 g) i then n i else 0).foldl (· + ·) 0

/-- The lanes that take part in a reduction, in order (R203). -/
def State.lanesOf (s : State) (g : BitVec 5) (a : BitVec 6) : List W32 :=
  (List.range 64).filterMap fun i => if bitOf (s.guard5 g) i then some (laneV (s.v a) i) else none

/-- A reduction: the result in lane 0, 0 in the others (R203). -/
def State.vecReduce (s : State) (g : BitVec 5) (d a : BitVec 6) (f : BitVec 1) (op : List W32 → W32) : Out :=
  s.vecOp (s.runsAny g) [vRef d] [(vRef a, f)] fun s =>
    s.fly 8 3 (.v d (BitVec.allOnes 64) ((op (s.lanesOf g a)).zeroExtend 2048))

/-- The value of a format register (R93). -/
def State.fmtReg (s : State) (n : BitVec 4) : W32 := Tbl.get 0 s.issue.sys.fmt n.toNat

/-- ILLEGAL for an invalid format register, TINFO the index (R94, R309). -/
def State.fmtCheck (s : State) (slot : Nat) (n : BitVec 4) : Option Cause :=
  s.check slot (!fmtValid (s.fmtReg n)) 0x10 (zext64 n)

/-- NOP_VEC (R109). -/
def execNopVec (s : State) : Out := s.issueOp true [] [] [] id

/-- VADD.F (R196). -/
def execVaddF (g : BitVec 5) (d a b : BitVec 6) (f h : BitVec 1) (s : State) : Out :=
  s.vec2 g 4 d a b f h fAdd

/-- VSUB.F (R196). -/
def execVsubF (g : BitVec 5) (d a b : BitVec 6) (f h : BitVec 1) (s : State) : Out :=
  s.vec2 g 4 d a b f h fSub

/-- VMUL.F (R196). -/
def execVmulF (g : BitVec 5) (d a b : BitVec 6) (f h : BitVec 1) (s : State) : Out :=
  s.vec2 g 4 d a b f h fMul

/-- VFMA.F (R196): it also reads D. -/
def execVfmaF (g : BitVec 5) (d a b : BitVec 6) (f h : BitVec 1) (s : State) : Out :=
  s.vecLanes g 4 d [(a, f), (b, h)] fun i => fFma false (laneV (s.v d) i) (laneV (s.v a) i) (laneV (s.v b) i)

/-- VFMS.F (R196): it also reads D. -/
def execVfmsF (g : BitVec 5) (d a b : BitVec 6) (f h : BitVec 1) (s : State) : Out :=
  s.vecLanes g 4 d [(a, f), (b, h)] fun i => fFma true (laneV (s.v d) i) (laneV (s.v a) i) (laneV (s.v b) i)

/-- VMIN.F (R196). -/
def execVminF (g : BitVec 5) (d a b : BitVec 6) (f h : BitVec 1) (s : State) : Out :=
  s.vec2 g 4 d a b f h fMin

/-- VMAX.F (R196). -/
def execVmaxF (g : BitVec 5) (d a b : BitVec 6) (f h : BitVec 1) (s : State) : Out :=
  s.vec2 g 4 d a b f h fMax

/-- VABS.F (R196): only bit 31 changes. -/
def execVabsF (g : BitVec 5) (d a : BitVec 6) (f : BitVec 1) (s : State) : Out :=
  s.vec1 g 2 d a f fun x => x &&& 0x7FFFFFFF

/-- VNEG.F (R196): only bit 31 changes. -/
def execVnegF (g : BitVec 5) (d a : BitVec 6) (f : BitVec 1) (s : State) : Out :=
  s.vec1 g 2 d a f fun x => x ^^^ 0x80000000

/-- VRCP.F (R197). -/
def execVrcpF (g : BitVec 5) (d a : BitVec 6) (f : BitVec 1) (s : State) : Out :=
  s.vec1 g 6 d a f fRcp

/-- VRSQ.F (R197). -/
def execVrsqF (g : BitVec 5) (d a : BitVec 6) (f : BitVec 1) (s : State) : Out :=
  s.vec1 g 6 d a f fRsq

/-- VEXP2.F (R197). -/
def execVexp2F (g : BitVec 5) (d a : BitVec 6) (f : BitVec 1) (s : State) : Out :=
  s.vec1 g 6 d a f fExp2

/-- VLOG2.F (R197). -/
def execVlog2F (g : BitVec 5) (d a : BitVec 6) (f : BitVec 1) (s : State) : Out :=
  s.vec1 g 6 d a f fLog2

/-- VCMPEQ.F (R198). -/
def execVcmpeqF (g : BitVec 5) (d : BitVec 4) (a b : BitVec 6) (f h : BitVec 1) (s : State) : Out :=
  s.vecCmp g 4 d a b f h fEq

/-- VCMPLT.F (R198). -/
def execVcmpltF (g : BitVec 5) (d : BitVec 4) (a b : BitVec 6) (f h : BitVec 1) (s : State) : Out :=
  s.vecCmp g 4 d a b f h fLt

/-- VCMPLE.F (R198). -/
def execVcmpleF (g : BitVec 5) (d : BitVec 4) (a b : BitVec 6) (f h : BitVec 1) (s : State) : Out :=
  s.vecCmp g 4 d a b f h fLe

/-- VADDI (R199). -/
def execVaddI (g : BitVec 5) (d a b : BitVec 6) (f h : BitVec 1) (s : State) : Out :=
  s.vec2 g 2 d a b f h fun x y => x + y

/-- VSUBI (R199). -/
def execVsubI (g : BitVec 5) (d a b : BitVec 6) (f h : BitVec 1) (s : State) : Out :=
  s.vec2 g 2 d a b f h fun x y => x - y

/-- VMULI (R199). -/
def execVmulI (g : BitVec 5) (d a b : BitVec 6) (f h : BitVec 1) (s : State) : Out :=
  s.vec2 g 2 d a b f h fun x y => x * y

/-- VMINI (R199). -/
def execVminI (g : BitVec 5) (d a b : BitVec 6) (f h : BitVec 1) (s : State) : Out :=
  s.vec2 g 2 d a b f h fun x y => if x.slt y then x else y

/-- VMAXI (R199). -/
def execVmaxI (g : BitVec 5) (d a b : BitVec 6) (f h : BitVec 1) (s : State) : Out :=
  s.vec2 g 2 d a b f h fun x y => if x.slt y then y else x

/-- VAND (R199). -/
def execVand (g : BitVec 5) (d a b : BitVec 6) (f h : BitVec 1) (s : State) : Out :=
  s.vec2 g 2 d a b f h fun x y => x &&& y

/-- VOR (R199). -/
def execVor (g : BitVec 5) (d a b : BitVec 6) (f h : BitVec 1) (s : State) : Out :=
  s.vec2 g 2 d a b f h fun x y => x ||| y

/-- VXOR (R199). -/
def execVxor (g : BitVec 5) (d a b : BitVec 6) (f h : BitVec 1) (s : State) : Out :=
  s.vec2 g 2 d a b f h fun x y => x ^^^ y

/-- VSHL (R199). -/
def execVshl (g : BitVec 5) (d a b : BitVec 6) (f h : BitVec 1) (s : State) : Out :=
  s.vec2 g 2 d a b f h fun x y => x <<< (y.toNat % 32)

/-- VSHR (R199). -/
def execVshr (g : BitVec 5) (d a b : BitVec 6) (f h : BitVec 1) (s : State) : Out :=
  s.vec2 g 2 d a b f h fun x y => x >>> (y.toNat % 32)

/-- VSAR (R199). -/
def execVsar (g : BitVec 5) (d a b : BitVec 6) (f h : BitVec 1) (s : State) : Out :=
  s.vec2 g 2 d a b f h fun x y => x.sshiftRight (y.toNat % 32)

/-- VCMPEQI (R199). -/
def execVcmpeqI (g : BitVec 5) (d : BitVec 4) (a b : BitVec 6) (f h : BitVec 1) (s : State) : Out :=
  s.vecCmp g 2 d a b f h fun x y => x == y

/-- VCMPLTI (R199). -/
def execVcmpltI (g : BitVec 5) (d : BitVec 4) (a b : BitVec 6) (f h : BitVec 1) (s : State) : Out :=
  s.vecCmp g 2 d a b f h fun x y => x.slt y

/-- VCVT.FI (R200): each executing lane that saturates or holds a NaN counts. -/
def execVcvtFi (g : BitVec 5) (d a : BitVec 6) (f : BitVec 1) (s : State) : Out :=
  s.vecOp (s.runs64 g) [vRef d] [(vRef a, f)] fun s =>
    (s.fly 4 3 (.v d (s.guard5 g) (mkV fun i => (f32ToInt (laneV (s.v a) i)).1))).fly 4 3
      (.vovf (s.countLanes g fun i => if (f32ToInt (laneV (s.v a) i)).2 then 1 else 0))

/-- VCVT.IF (R200). -/
def execVcvtIf (g : BitVec 5) (d a : BitVec 6) (f : BitVec 1) (s : State) : Out := s.vec1 g 4 d a f intToF32

/-- VPKBF (R92, R200): each finite operand that becomes infinite counts. -/
def execVpkbf (g : BitVec 5) (d a b : BitVec 6) (f h : BitVec 1) (s : State) : Out :=
  s.vecOp (s.runs64 g) [vRef d] [(vRef a, f), (vRef b, h)] fun s =>
    let lo (i : Nat) := f32ToBf (laneV (s.v a) i)
    let hi (i : Nat) := f32ToBf (laneV (s.v b) i)
    (s.fly 4 3 (.v d (s.guard5 g) (mkV fun i => (hi i).1 ++ (lo i).1))).fly 4 3
      (.vovf (s.countLanes g fun i => (if (lo i).2 then 1 else 0) + (if (hi i).2 then 1 else 0)))

/-- VUNBF (R200): half k of each lane as the high half of an FP32. -/
def execVunbf (g : BitVec 5) (d a : BitVec 6) (k f : BitVec 1) (s : State) : Out :=
  s.vec1 g 4 d a f fun x => bfToF32 (x.extractLsb' (16 * k.toNat) 16)

/-- VCVTN (R201): every lane of D is written; it takes a predicate guard only. -/
def execVcvtn (g : BitVec 4) (d a : BitVec 6) (n : BitVec 4) (f : BitVec 1) (s : State) : Out :=
  s.issueOp (s.guard4 g) [s.emptyRead 3 f (vRef a)] [s.waitRegs [vRef d, vRef a]] [s.fmtCheck 3 n] fun s =>
    let r := vcvtn (s.fmtReg n) (s.v a)
    (s.fly 4 3 (.v d (BitVec.allOnes 64) r.1)).fly 4 3 (.vovf r.2)

/-- VCVTW (R201). -/
def execVcvtw (g : BitVec 4) (d a : BitVec 6) (n : BitVec 4) (f : BitVec 1) (s : State) : Out :=
  s.issueOp (s.guard4 g) [s.emptyRead 3 f (vRef a)] [s.waitRegs [vRef d, vRef a]] [s.fmtCheck 3 n] fun s =>
    s.fly 4 3 (.v d (BitVec.allOnes 64) (vcvtw (s.fmtReg n) (s.v a)))

/-- VMOV (R202). -/
def execVmov (g : BitVec 5) (d a : BitVec 6) (f : BitVec 1) (s : State) : Out := s.vec1 g 2 d a f id

/-- VSEL (R202): the mask selects between the sources, every lane is written. -/
def execVsel (g : BitVec 4) (d a b : BitVec 6) (f h : BitVec 1) (s : State) : Out :=
  s.vecOp true [vRef d] [(vRef a, f), (vRef b, h)] fun s =>
    s.fly 2 3 (.v d (BitVec.allOnes 64) (mkV fun i => if bitOf (s.m g) i then laneV (s.v a) i else laneV (s.v b) i))

/-- VBCA (R202). -/
def execVbca (g : BitVec 5) (d : BitVec 6) (a : BitVec 5) (f : BitVec 1) (s : State) : Out :=
  s.vecOp (s.runs64 g) [vRef d] [(aRef a, f)] fun s => s.fly 2 3 (.v d (s.guard5 g) (mkV fun _ => low32 (s.a a)))

/-- VBCK (R202): NOTSINGLE unless kA is a singleton. -/
def execVbck (g : BitVec 5) (d : BitVec 6) (a : BitVec 5) (f : BitVec 1) (s : State) : Out :=
  let r : BitVec 6 := a.zeroExtend 6
  s.issueOp (s.runs64 g) [s.emptyRead 3 f (kRef r)] [s.waitRegs [vRef d, kRef r]]
    [s.check 3 (domMember? (s.k r)).isNone 0x08 (regInfo .k r.toNat)] fun s =>
      s.fly 2 3 (.v d (s.guard5 g) (mkV fun _ => BitVec.ofInt 32 ((domMember? (s.k r)).getD 0)))

/-- VPERM (R202). -/
def execVperm (g : BitVec 5) (d a b : BitVec 6) (f h : BitVec 1) (s : State) : Out :=
  s.vecLanes g 2 d [(a, f), (b, h)] fun i => laneV (s.v a) ((laneV (s.v b) i).toNat % 64)

/-- VEXT (R202): under a mask guard only when bit n is 1. -/
def execVext (g d : BitVec 5) (a n : BitVec 6) (f : BitVec 1) (s : State) : Out :=
  s.vecOp (bitOf (s.guard5 g) n.toNat) [aRef d] [(vRef a, f)] fun s => s.fly 2 3 (.a d (sext64 (laneV (s.v a) n.toNat)))

/-- VINS (R202): under a mask guard only when bit n is 1. -/
def execVins (g : BitVec 5) (d : BitVec 6) (a : BitVec 5) (n : BitVec 6) (f : BitVec 1) (s : State) : Out :=
  s.vecOp (bitOf (s.guard5 g) n.toNat) [vRef d] [(aRef a, f)] fun s =>
    s.fly 2 3 (.v d (BitVec.twoPow 64 n.toNat) (mkV fun _ => low32 (s.a a)))

/-- VIOTA (R202). -/
def execViota (g : BitVec 5) (d : BitVec 6) (s : State) : Out := s.vecLanes g 2 d [] fun i => BitVec.ofNat 32 i

/-- VSUMX (R106, R203). -/
def execVsumx (g : BitVec 5) (d a : BitVec 6) (f : BitVec 1) (s : State) : Out := s.vecReduce g d a f fSumX

/-- VMAXR (R203). -/
def execVmaxr (g : BitVec 5) (d a : BitVec 6) (f : BitVec 1) (s : State) : Out := s.vecReduce g d a f (fReduce fMax 0xFF800000)

/-- VMINR (R203). -/
def execVminr (g : BitVec 5) (d a : BitVec 6) (f : BitVec 1) (s : State) : Out := s.vecReduce g d a f (fReduce fMin 0x7F800000)

/-- VSUMI (R203). -/
def execVsumi (g : BitVec 5) (d a : BitVec 6) (f : BitVec 1) (s : State) : Out :=
  s.vecReduce g d a f fun xs => xs.foldl (· + ·) 0

end Sys2Proof.Machine
end

