-- ==== Sys2Proof/Machine/Mtx.lean ====
section
/-! DEFINITION. The Anvil slot, slot 6 (R231 to R240): claims, weight planes, beats, drains, the hazard monitor, and the step
that the array makes at the end of every bundle. -/

namespace Sys2Proof.Machine

/-! ### Classes and lines (R232) -/

/-- The class of a format value. -/
def classOf (fmt : W32) : MClass := if fmtIsBf fmt then .bf16 else if 5 ≤ (fmtOf fmt).width then .b8 else .b4

/-- Lines per slot. -/
def MClass.lines : MClass → Nat
  | .b4 => 64
  | _ => 128

/-- Elements per line. -/
def MClass.elems : MClass → Nat
  | .bf16 => 128
  | .b8 => 256
  | .b4 => 1024

/-- Row j of an operand slot. -/
def Core.omRow (k : Core) (slot j : Nat) : VecV := Tbl.get 0 (Tbl.get ([], []) k.om slot).1 j

/-- The 32 side-area bytes of row j. -/
def Core.omSide (k : Core) (slot j : Nat) : BitVec 256 := Tbl.get 0 (Tbl.get ([], []) k.om slot).2 j

/-- Whether a row is poisoned (R343). -/
def Core.rowPoisoned (k : Core) (slot j : Nat) : Bool := k.omPoison.contains (128 * slot + j) || k.omPoison.contains (sideMark (128 * slot + j))

/-- Line j of a slot under a format (R232). -/
def Core.line (k : Core) (slot : Nat) (fmt : W32) (j : Nat) : Line :=
  match classOf fmt with
  | .b4 =>
    { fmt := fmt, row := k.omRow slot (2 * j + 1) ++ k.omRow slot (2 * j), side := k.omSide slot (2 * j + 1) ++ k.omSide slot (2 * j),
      poison := k.rowPoisoned slot (2 * j) || k.rowPoisoned slot (2 * j + 1) }
  | _ =>
    { fmt := fmt, row := (k.omRow slot j).zeroExtend 4096, side := (k.omSide slot j).zeroExtend 512,
      poison := k.rowPoisoned slot j }

/-- Element i of a line, its block scale applied (R232). -/
def Line.elem (l : Line) (i : Nat) : FVal :=
  elementAt l.fmt (l.row.toNat / 2 ^ (2048 * (i / 512))) (l.side.toNat / 2 ^ (256 * (i / 512))) (i % 512)

/-- A line of zeros. -/
def Line.zero : Line := { fmt := 0, row := 0, side := 0, poison := false }

/-- The line of an output column. -/
def Plane.line (p : Plane) (c : Nat) : Line := Tbl.get Line.zero p.lines c

/-- The exact sum of a beat in one column (R107, R237). -/
def columnSum (n : Nat) (x w : Line) : XSum :=
  (List.range n).foldl (fun acc i => acc.addProduct (x.elem i) (w.elem i)) XSum.zero

/-! ### Accumulator rows (R55) -/

/-- Column c of a row. -/
def rowCol (r : Row) (c : Nat) : W32 := r.extractLsb' (32 * c) 32

/-- A row from its columns. -/
def mkRow (f : Nat → W32) : Row := BitVec.ofNat 4096 (packNat 32 (fun i => (f i).toNat) 128)

def MemSide.accRow (m : MemSide) (r : Nat) : Row := Tbl.get 0 m.acc r

/-- The 64-byte bank words of an accumulator row (R55, R342). -/
def rowWords (r : Nat) : List Nat := (List.range 8).map (· + 8 * r)

/-- Whether an accumulator row holds a mark. -/
def MemSide.rowMarked (m : MemSide) (r : Nat) : Bool := (rowWords r).any fun w => m.accPoison.contains w

/-! ### Checks -/

/-- Whether the running context holds a slot (R63). -/
def State.holds (s : State) (o : BitVec 5) : Bool := teClaimed (s.issue.te o.toNat)

/-- TILESTATE naming a slot, a check that never waits (R304). -/
def State.slotCheck (s : State) (bad : Bool) (o : BitVec 5) : Option Cause :=
  s.check 6 bad 0x15 (tileInfo 0 (s.issue.te o.toNat) .om o.toNat)

/-- The wait until a slot is READY: stall source 3 (R62). -/
def State.readyWait (s : State) (o : BitVec 5) : Option Nat := if teSt (s.issue.te o.toNat) = teReady then none else some 3

/-- The format bound to a slot (R63). -/
def State.boundFmt (s : State) (o : BitVec 5) : W32 := s.fmtReg (teFmt (s.issue.te o.toNat))

/-- ILLEGAL where the bound format has become invalid (R94). -/
def State.boundCheck (s : State) (o : BitVec 5) : Option Cause := s.fmtCheck 6 (teFmt (s.issue.te o.toNat))

/-- SCHEDULE: an earlier command has beats left (R231). -/
def State.schedule (s : State) : Option Cause :=
  match s.issue.anvil.run with
  | some (_, left) => some (s.cause 6 0x0E (BitVec.ofNat 64 (left % 256)))
  | none => none

/-- TINFO of HAZARD (R308). -/
def hazardInfo (kind low : Nat) : W64 := BitVec.ofNat 64 (kind * 2 ^ 16 + low)

/-- HAZARD: the weight port is busy (R239). -/
def State.portBusy (s : State) : Option Cause :=
  match s.issue.anvil.ldw with
  | some l => some (s.cause 6 0x0F (hazardInfo 2 (256 * classCode .om + l.om.toNat)))
  | none => none

/-- Whether a slot is still read by an ACC, ACCZ or LDW (R239). -/
def Anvil.reads (a : Anvil) (o : Nat) : Bool :=
  (match a.run with
   | some (.acc om _ _ _ _, _) => om.toNat = o
   | _ => false) ||
  (match a.ldw with
   | some l => l.om.toNat = o
   | none => false)

/-- RANGE of rows (R240). DESIGN CHOICE: TINFO is the sum of the row and N, and the rows of a DRAIN are checked before its bytes (log 202). -/
def State.rowCheck (s : State) (last limit : Nat) : Option Cause := s.check 6 (limit < last) 0x09 (BitVec.ofNat 64 last)

/-- Whether the running context owns the Anvil (R233). -/
def State.ownsAnvil (s : State) : Bool := (s.coreOf s.core).owner = some s.uid

/-- Changes the Anvil of the live context. -/
def State.mapAnvil (s : State) (f : Anvil → Anvil) : State := s.mapLive fun c => { c with anvil := f c.anvil }

/-! ### Commands -/

/-- NOP_MTX (R109). -/
def execNopMtx (s : State) : Out := s.issueOp true [] [] [] fun s => s

/-- CLAIM (R63, R233). DESIGN CHOICE: an owner finds the planes as it left them, whoever has owned the Anvil since (log 194). -/
def execClaim (o : BitVec 5) (f : BitVec 4) (s : State) : Out :=
  let taken := (s.coreOf s.core).owner.isSome && !s.ownsAnvil
  s.issueOp true
    [s.slotCheck (s.holds o) o, s.check 6 taken 0x16 (tileInfo 0 (s.issue.te o.toNat) .om o.toNat)] []
    [s.fmtCheck 6 f, s.schedule] fun s =>
      (s.fly 1 6 (.te (o.zeroExtend 6) (mkTe true f 0 0 teEmpty))).mapCore s.core fun k => { k with owner := some s.uid }

/-- Whether the running context holds any slot but one. -/
def State.holdsOther (s : State) (o : BitVec 5) : Bool :=
  anyBelow (fun n => n ≠ o.toNat && teClaimed (s.issue.te n)) 32

/-- RELEASE (R65, R234): without effect on a slot that is not held. The planes stay with the context (log 194). -/
def execRelease (o : BitVec 5) (s : State) : Out :=
  let x := s.issue.te o.toNat
  let busy := s.holds o && (teSt x = teFilling || teSt x = teDraining)
  s.issueOp true [] []
    [s.check 6 busy 0x15 (tileInfo 0 x .te o.toNat), s.schedule,
     s.check 6 (s.holds o && s.issue.anvil.reads o.toNat) 0x0F (hazardInfo 3 (256 * classCode .om + o.toNat))] fun s =>
      if s.holds o then
        let s' := s.fly 1 6 (.te (o.zeroExtend 6) (mkTe false (teFmt x) (teRem x) (tePh x) teEmpty))
        if s.holdsOther o then s' else s'.mapCore s.core fun k => { k with owner := none }
      else s

/-- LDW (R235): its lines stream into the shadow plane from this bundle on. -/
def execLdw (n : BitVec 7) (o : BitVec 5) (r : BitVec 9) (s : State) : Out :=
  s.issueOp true [s.slotCheck (!s.holds o) o] [s.readyWait o]
    [s.boundCheck o, s.schedule, s.portBusy, s.rowCheck (r.toNat + n.toNat + 1) 128] fun s => s.mapAnvil fun a =>
      let fmt := s.boundFmt o
      let cls := classOf fmt
      { a with
        shadow := if a.shadow.cls = cls then a.shadow else { cls := cls, lines := [] }
        ldw := some { om := o, fmt := fmt, line := r.toNat, left := n.toNat + 1 } }

/-- SWPW (R236): the planes change places. -/
def execSwpw (s : State) : Out :=
  s.issueOp true [s.check 6 (!s.ownsAnvil) 0x16 0] [] [s.schedule, s.portBusy] fun s => s.mapAnvil fun a =>
    { a with act := a.shadow, shadow := a.act }

/-- ILLEGAL, reason 8: the slot's class differs from the active plane's (R239, R309). -/
def State.classCheck (s : State) (o : BitVec 5) (word : Nat) : Option Cause :=
  s.check 6 (classOf (s.boundFmt o) ≠ s.issue.anvil.act.cls) 0x10 (BitVec.ofNat 64 (8 * 2 ^ 56 + word % 2 ^ 32))

/-- The word of an ACC or ACCZ. -/
def accWord (op : Nat) (n : BitVec 7) (o : BitVec 5) (r : BitVec 9) (m : BitVec 2) : Nat :=
  op * 2 ^ 26 + n.toNat * 2 ^ 19 + o.toNat * 2 ^ 14 + r.toNat * 2 ^ 5 + m.toNat * 2 ^ 3

/-- ACC and ACCZ: N beats from this bundle on (R237), with the slot's format as the issue reads it (R7). -/
def State.accumulate (s : State) (zero : Bool) (n : BitVec 7) (o : BitVec 5) (r : BitVec 9) (m : BitVec 2) (word : Nat) : Out :=
  s.issueOp true [s.slotCheck (!s.holds o) o] [s.readyWait o]
    [s.boundCheck o, s.classCheck o word, s.schedule, s.rowCheck (r.toNat + n.toNat + 1) s.issue.accRows] fun s =>
      s.mapAnvil fun a => { a with run := some (.acc o r.toNat zero m (s.boundFmt o), n.toNat + 1) }

/-- ACC (R237). -/
def execAcc (n : BitVec 7) (o : BitVec 5) (r : BitVec 9) (m : BitVec 2) (s : State) : Out :=
  s.accumulate false n o r m (accWord 5 n o r m)

/-- ACCZ (R237). -/
def execAccz (n : BitVec 7) (o : BitVec 5) (r : BitVec 9) (m : BitVec 2) (s : State) : Out :=
  s.accumulate true n o r m (accWord 6 n o r m)

/-- The first row that a DRAIN would read while a beat into it is still to land (R239). -/
def Anvil.pendingRow (a : Anvil) (row n : Nat) : Option Nat :=
  (List.range n).findSome? fun j => if a.beats.any (fun b => b.row = row + j && j < b.dist) then some (row + j) else none

/-- HAZARD of a DRAIN (R239, R308). -/
def State.drainHazard (s : State) (row n : Nat) : Option Cause :=
  match s.issue.anvil.pendingRow row n with
  | some r => some (s.cause 6 0x0F (hazardInfo 1 (r % 512)))
  | none => none

/-- DRAIN: N beats from this bundle on; DRP moves at the end of the bundle (R238). -/
def State.drainRows (s : State) (n : BitVec 7) (f32 : Bool) (fmt : W32) (check : List (Option Cause)) (r : BitVec 9) (m : BitVec 2)
    (e : BitVec 1) : Out :=
  let count := n.toNat + 1
  let at_ := s.issue.sys.drp.toNat
  let next := at_ + count * drainBytes f32 fmt + (if e = 1 then 4 else 0)
  s.issueOp true [] []
    (check ++ [s.schedule, s.drainHazard r.toNat count, s.rowCheck (r.toNat + count) s.issue.accRows,
     s.check 6 (at_ % 4 ≠ 0 || s.issue.scrSize < next) 0x09 (BitVec.ofNat 64 at_)]) fun s =>
      (s.fly 1 6 (.sys 0x030 (BitVec.ofNat 64 next))).mapAnvil fun a =>
        { a with run := some (.drain r.toNat f32 fmt m at_ (e = 1) true, count) }

/-- DRAIN (R238). -/
def execDrain (n : BitVec 7) (f : BitVec 4) (r : BitVec 9) (m : BitVec 2) (e : BitVec 1) (s : State) : Out :=
  s.drainRows n false (s.fmtReg f) [s.fmtCheck 6 f] r m e

/-- DRAIN with the F32 flag (R238). -/
def execDrainF32 (n : BitVec 7) (r : BitVec 9) (e : BitVec 1) (s : State) : Out := s.drainRows n true 0 [] r 0 e

/-! ### The step of the array at the end of a bundle -/

/-- A DRAIN beat: the row is converted, and its bytes are written and its count enters OVFC 12 bundles later; the epilogue is OVFC as it stands where
the last row is written (R98, R238). DEDUCED: the first row's conversion sets OVFC to 0 at its beat (log 154). -/
def Context.drainBeat (c : Context) (row : Nat) (f32 : Bool) (fmt : W32) (m : BitVec 2) (off : Nat) (epi first : Bool) (left : Nat) :
    Context :=
  let x := c.mem.accRow row
  let r := if f32 then (leBytes 512 x.toNat, [], 0) else convertRow fmt (rmOf m) ((List.range 128).map (rowCol x))
  let bytes := r.1 ++ r.2.1
  let c := if first then { c with sys := { c.sys with ovfc := 0 } } else c
  let c := (c.fly 12 6 (.scr off bytes (c.mem.rowMarked row))).fly 12 6 (.ovfc r.2.2)
  let c := if epi && left = 1 then c.fly 12 6 (.epi (off + bytes.length)) else c
  { c with anvil := { c.anvil with
      run := if left ≤ 1 then none else some (.drain (row + 1) f32 fmt m (off + bytes.length) epi false, left - 1) } }

/-- A beat lands in its row (R237, R343). -/
def MemSide.landBeat (m : MemSide) (b : Beat) : MemSide :=
  let old := m.accRow b.row
  let new := mkRow fun c => (b.sums.getD c XSum.zero).into b.zero (rmOf b.rm) (rowCol old c)
  { m with acc := Tbl.set 0 m.acc b.row new,
           accPoison := if b.poison then (rowWords b.row).foldl (fun p w => insertNat w p) m.accPoison
             else if b.zero then (rowWords b.row).foldl (fun p w => removeNat w p) m.accPoison else m.accPoison }

/-- Every beat in the array comes a bundle nearer, and those at the bottom land. -/
def Context.landBeats (c : Context) : Context :=
  let bs := c.anvil.beats.map fun b => { b with dist := b.dist - 1 }
  { c with anvil := { c.anvil with beats := bs.filter fun b => b.dist ≠ 0 },
           mem := (bs.filter fun b => b.dist = 0).foldl MemSide.landBeat c.mem }

/-- An ACC or ACCZ beat enters the array with the active plane (R237). -/
def Context.accBeat (c : Context) (k : Core) (om : BitVec 5) (row : Nat) (zero : Bool) (rm : BitVec 2) (fmt : W32) (left : Nat) :
    Context :=
  let cls := classOf fmt
  let x := k.line om.toNat fmt (row % cls.lines)
  let beat : Beat :=
    { dist := 129, row := row, zero := zero, rm := rm,
      sums := (List.range 128).map fun n => columnSum cls.elems x (c.anvil.act.line n),
      poison := x.poison || anyBelow (fun n => (c.anvil.act.line n).poison) 128 }
  { c with anvil := { c.anvil with
      beats := c.anvil.beats ++ [beat]
      run := if left ≤ 1 then none else some (.acc om (row + 1) zero rm fmt, left - 1) } }

/-- A line goes down the weight port (R235). -/
def Context.streamLine (c : Context) (k : Core) (l : Ldw) : Context :=
  let x := k.line l.om.toNat l.fmt (l.line % (classOf l.fmt).lines)
  { c with anvil := { c.anvil with
      shadow := { c.anvil.shadow with lines := Tbl.set Line.zero c.anvil.shadow.lines l.line x }
      ldw := if l.left ≤ 1 then none else some { l with line := l.line + 1, left := l.left - 1 } } }

/-- The Anvil's part of the end of a bundle: a DRAIN beat reads before the beats due land; a new beat and a new line come
last. -/
def Context.anvilStep (c : Context) (k : Core) : Context :=
  let c := match c.anvil.run with
    | some (.drain row f32 fmt m off epi first, left) => c.drainBeat row f32 fmt m off epi first left
    | _ => c
  let acc := c.anvil.run
  let c := c.landBeats
  let c := match acc with
    | some (.acc om row zero rm fmt, left) => c.accBeat k om row zero rm fmt left
    | _ => c
  match c.anvil.ldw with
  | some l => c.streamLine k l
  | none => c

end Sys2Proof.Machine
end

