-- ==== Sys2Proof/Machine/Order.lean ====
section
/-! DEFINITION. Order among the outstanding operations of one context (R218, R225, R249 to R256, R264, R267): what an access does to
memory, which earlier one it waits for, what a fence holds, and which loads must land before a halt. -/

namespace Sys2Proof.Machine

/-! ### What an access is -/

/-- The bytes of an access. -/
def AccOp.size : AccOp → Nat
  | .ldgA _ => 8
  | .ldgV _ => 256
  | .ldgK _ _ => 16
  | .store bs => bs.length
  | .atomic op _ _ _ => if op.toNat = 5 ∨ op.toNat = 6 then 4 else 8
  | .xadd _ => 64
  | .xaddv _ => 4096
  | .xrd _ _ => 64
  | .xrdv _ _ => 4096
  | .xclr n => 64 * n
  | .fence _ => 0

/-- Whether an access returns a value to a register. -/
def AccOp.loads : AccOp → Bool
  | .ldgA _ | .ldgV _ | .ldgK _ _ | .xrd _ _ | .xrdv _ _ => true
  | _ => false

/-- Whether an access takes the core's write path (R254). -/
def AccOp.onPath : AccOp → Bool
  | .store _ | .atomic _ _ _ _ => true
  | _ => false

/-- Whether an access reads memory for the context: a load or an atomic. -/
def AccOp.reads : AccOp → Bool
  | .atomic _ _ _ _ => true
  | op => op.loads

/-- Whether two ranges of addresses share a byte. -/
def rangesMeet (a n b m : Nat) : Bool := decide (a < b + m) && decide (b < a + n)

/-- Whether two accesses share a byte. DESIGN CHOICE: bytes are those of virtual addresses; two addresses that are mapped to one place do not overlap
(R252, log 203). -/
def Acc.meets (x y : Acc) : Bool := rangesMeet x.va.toNat x.op.size y.va.toNat y.op.size

/-! ### Fences, acquires and releases (R225, R253) -/

/-- Whether an operation that is still out acquires. -/
def Acc.acquires (e : Acc) : Bool := e.ord ≠ 0 && e.op.reads

/-- Whether an access waits, as a release, for every earlier write. -/
def Acc.releases (a : Acc) : Bool := a.ord ≠ 0 && a.op.onPath

/-- Whether a release fence holds an access that follows it: a counted write, or any XA operation, XRD and XRDV among them (R224, R225). DEDUCED:
the matrices class XRD and XRDV as plain loads, which R225 holds all the same behind a release fence (R266, log 185). -/
def Acc.heldByRelease (a : Acc) : Bool := a.wic.isSome || match a.op with
  | .xrd _ _ | .xrdv _ _ => true
  | _ => false

/-- Whether an earlier write of the context or its engines is still out. DESIGN CHOICE: a push on its way to its queue is none, though note b of R267
lists pushes beside the writes that a full fence orders (R225, log 174). -/
def MemSide.writeBefore (m : MemSide) (id : Nat) : Bool :=
  (m.outs.any fun e => decide (e.id < id) && e.wic.isSome) || (m.copies.any fun x => decide (x.id < id) && x.wic.isSome)

/-- Whether an earlier load or atomic is still out. -/
def MemSide.readBefore (m : MemSide) (id : Nat) : Bool := m.outs.any fun e => decide (e.id < id) && e.op.reads

/-- Whether a fence kind acquires, and whether it releases. -/
def fenceAcquires (kind : BitVec 2) : Bool := kind = 0 || kind = 2
def fenceReleases (kind : BitVec 2) : Bool := kind = 1 || kind = 2

/-- Whether a fence still holds what follows it: every later access for its earlier loads where it acquires; for its earlier writes, what
writes, pushes or starts an engine where it releases, and loads too where it is full. -/
def MemSide.fenceHolds (m : MemSide) (f : Acc) (writes : Bool) : Bool :=
  match f.op with
  | .fence kind =>
    (fenceAcquires kind && m.readBefore f.id) || ((kind = 2 || (kind = 1 && writes)) && m.writeBefore f.id)
  | _ => false

/-- Whether an earlier acquire or fence holds an operation with an order number; `writes` says whether it writes, pushes or starts an
engine. -/
def MemSide.heldBefore (m : MemSide) (id : Nat) (writes : Bool) : Bool :=
  m.outs.any fun e => decide (e.id < id) && (e.acquires || m.fenceHolds e writes)

/-- Whether a fence has nothing more to hold. -/
def MemSide.fenceDone (m : MemSide) (f : Acc) : Bool :=
  match f.op with
  | .fence kind => !((fenceAcquires kind && m.readBefore f.id) || (fenceReleases kind && m.writeBefore f.id))
  | _ => false

/-- Drops the fences that hold nothing more. -/
def MemSide.sweepFences (m : MemSide) : MemSide := { m with outs := m.outs.filter fun f => !m.fenceDone f }

/-- Whether one of some fences acquires and finds no earlier read out: what is read after it is read after its acquire, whatever writes it
still holds (R253, R262). -/
def MemSide.acquires (m : MemSide) (which : Nat → Bool) : Bool := m.outs.any fun f => which f.id && match f.op with
  | .fence kind => fenceAcquires kind && !m.readBefore f.id
  | _ => false

/-! ### Overlap and forks (R252, R256) -/

/-- Whether an earlier access to overlapping bytes must perform first: only a plain load may pass an earlier store, whose bytes it then
takes. -/
def Acc.waitsFor (a e : Acc) : Bool :=
  a.meets e && match a.op, e.op with
    | .ldgA _, .store _ | .ldgV _, .store _ | .ldgK _ _, .store _ => false
    | _, _ => true

/-- The bytes of sector k (R242). -/
def Copy.sectorSize (x : Copy) (k : Nat) : Nat := min 4096 (x.len - 4096 * k)

/-- Whether a copy still moves: not when it is cut or has failed (R329, R330). -/
def Copy.moves (x : Copy) : Bool := x.paged.isEmpty && x.failed.isNone && !x.left.isEmpty

/-- A virtual address as R52 reads it. -/
def wrap57 (x : Nat) : Nat := x % 2 ^ 57

/-- The global bytes that sector k reads: CG2O reads 16 rows at its stride, then the side area (R243). -/
def Copy.sourceParts (x : Copy) (k : Nat) : List (Nat × Nat) :=
  match x.kind with
  | .g2s | .g2g => [(wrap57 (x.src.toNat + 4096 * k), x.sectorSize k)]
  | .g2o =>
    if k < 8 then (List.range 16).map fun j => (wrap57 (x.src.toNat + x.stride * (16 * k + j)), 256)
    else [(wrap57 (x.src.toNat + 128 * x.stride + 4096 * (k - 8)), x.sectorSize k)]
  | _ => []

/-- Whether a sector of a copy that is still to move reads any of some global bytes. -/
def Copy.reads (x : Copy) (va n : Nat) : Bool :=
  x.left.any fun k => (x.sourceParts k).any fun p => rangesMeet va n p.1 p.2

/-- Whether a copy that must not see a write has still to read there. -/
def MemSide.forkReads (m : MemSide) (a : Acc) : Bool :=
  m.copies.any fun x => x.bclk.ule a.bclk && x.reads a.va.toNat a.op.size

/-- The global bytes that sector k of a copy writes: CXRED writes a cell for each value (R244). -/
def Copy.destParts (x : Copy) (k : Nat) : List (Nat × Nat) :=
  match x.kind with
  | .s2g | .g2g => [(wrap57 (x.dst.toNat + 4096 * k), x.sectorSize k)]
  | .xred => [(wrap57 (x.dst.toNat + 65536 * k), 64 * (x.sectorSize k / 4))]
  | _ => []

/-- The dependence counter of a copy (R242). -/
def State.counterParts (s : State) (uid : Nat) (w : Agent) (x : Copy) : List (Nat × Nat) :=
  match x.dc, s.bindFor w.pasid uid x.id with
  | some id, some b => [(b.dept.toNat + 8 * id.toNat, 8)]
  | _, _ => []

/-- What a row of a gather reads. -/
def Gather.rowParts (g : Gather) : List (Nat × Nat) :=
  match g.queue with
  | [] => []
  | i :: _ => [(wrap57 (g.base.toNat + i.toNat * g.row), g.row)]

/-- Whether an access touches any of some ranges. -/
def Acc.touches (e : Acc) (parts : List (Nat × Nat)) : Bool := parts.any fun p => rangesMeet e.va.toNat e.op.size p.1 p.2

/-- Whether a write of the issuer holds an engine thread from its source or its destination: a write before the fork that the thread must observe
and cannot take from a store still out, or, where the thread's count is a release, any such store (R242, R253, R256); and any earlier write of
what the thread writes, which comes first there (R252, R257, R267). -/
def Acc.holdsFork (e : Acc) (id : Nat) (bclk : W64) (release : Bool) (src dst : List (Nat × Nat)) : Bool :=
  e.wic.isSome && ((e.bclk.ult bclk && e.touches src && match e.op with
    | .store _ => release
    | _ => true) || (decide (e.id < id) && e.touches dst))

/-- Whether any write of its issuer holds an engine thread so. -/
def MemSide.forkWaits (m : MemSide) (id : Nat) (bclk : W64) (release : Bool) (src dst : List (Nat × Nat)) : Bool :=
  m.outs.any fun e => e.holdsFork id bclk release src dst

/-- Whether a store still out, among those that a condition picks, replaces line l of the address space whole: what is read there carries no mark of
the line (R343). -/
def MemSide.replaces (m : MemSide) (before : Acc → Bool) (l : Nat) : Bool := m.outs.any fun e => before e && match e.op with
  | .store bs => decide (e.va.toNat ≤ 64 * l) && decide (64 * l + 64 ≤ e.va.toNat + bs.length)
  | _ => false

/-- Whether more than earlier writes of the path holds a write of the path: an acquire or a fence, its own release, an access of another kind
to its bytes, or a copy that must not see it. -/
def MemSide.pinned (m : MemSide) (a : Acc) : Bool :=
  m.heldBefore a.id a.heldByRelease || (a.releases && m.writeBefore a.id) ||
    (m.outs.any fun e => decide (e.id < a.id) && !e.op.onPath && a.waitsFor e) || m.forkReads a

/-- Whether an access has to wait for others of its context, the order of the write path apart. -/
def MemSide.holds (m : MemSide) (a : Acc) : Bool :=
  m.heldBefore a.id a.heldByRelease || (a.releases && m.writeBefore a.id) ||
    (m.outs.any fun e => decide (e.id < a.id) && a.waitsFor e) || (a.wic.isSome && m.forkReads a)

/-- The POPs of a context that wait, by cluster and queue. -/
def State.popsOf (s : State) (uid : Nat) : List (Nat × Nat × Waiter) :=
  s.clusters.flatMap fun g => g.2.value.flatMap fun q => (q.2.waiters.filter fun w => w.ctx = uid).map fun w => (g.1, q.1, w)

/-- Whether a POP issued earlier has not been delivered, at its queue or in the image: a delivery is an acquire (R253). -/
def State.popBefore (s : State) (uid id : Nat) : Bool :=
  ((s.popsOf uid ++ ((Tbl.find s.ctxs uid).map (·.mem.pops)).getD []).any fun p => decide (p.2.2.id < id))

/-- The stall source of a bundle that waits for an operation on its way to the Hearth: a result that is not there by its latency, or, where the
operation is behind an undelivered POP, the register of that (R22, R120). -/
def State.hearthSource (s : State) : Nat := if s.popBefore s.uid s.issue.mem.nextId then 1 else 10

/-- Whether an operation on the way is the borrow of a split (R45). -/
def HOp.splits : HOp → Bool
  | .borrow _ _ split => split
  | _ => false

/-- The wait of an operation that shows MYW to the program while the borrow of a split is still to be performed: nobody sees one of MYW and TOTAL
without the other (R45). DEDUCED (log 165). -/
def State.mywWait (s : State) : Option Nat := if s.issue.mem.hearth.any fun h => h.op.splits then some s.hearthSource else none

/-- The bytes of earlier stores still out, over what memory holds (R252). -/
def MemSide.overlay (m : MemSide) (va : Nat) (before : Acc → Bool) (bs : List Byte) : List Byte :=
  m.outs.foldl (fun bs e => match e.op with
    | .store data =>
      if before e then (List.range bs.length).map fun i =>
        let x := va + i
        if e.va.toNat ≤ x && x < e.va.toNat + data.length then data.getD (x - e.va.toNat) 0 else bs.getD i 0
      else bs
    | _ => bs) bs

/-! ### Loads that must land before a halt (R264, R332) -/

/-- Whether an earlier entry e of the list has to go before a can. -/
def Acc.behind (a e : Acc) : Bool :=
  decide (e.id < a.id) && match a.op with
    | .fence kind => (fenceAcquires kind && e.op.reads) || (fenceReleases kind && e.wic.isSome)
    | _ => e.acquires || (a.releases && e.wic.isSome) || (a.op.onPath && e.op.onPath) || a.waitsFor e || match e.op with
      | .fence kind => fenceAcquires kind || a.heldByRelease
      | _ => false

/-- Whether an access holds an engine thread of its issuer, whose sectors or row still to move read and write some parts, as an earlier acquire, fence
or write (R225, R253, R256). -/
def MemSide.accHoldsCopy (m : MemSide) (count : Copy → List (Nat × Nat)) (x : Copy) (e : Acc) : Bool :=
  (decide (e.id < x.id) && (e.acquires || m.fenceHolds e true)) ||
    x.left.any fun k => e.holdsFork x.id x.bclk x.dc.isSome (x.sourceParts k) (x.destParts k ++ count x)

def MemSide.accHoldsGather (m : MemSide) (g : Gather) (e : Acc) : Bool :=
  (decide (e.id < g.id) && (e.acquires || m.fenceHolds e true)) || e.holdsFork g.id g.bclk false g.rowParts []

/-- Whether a copy does not move on before a halt is complete: it is cut or has failed, an undelivered POP is before it, or an access holds it that
does not perform (R329, R330). DEDUCED: a thread that waits for what waits on a page request or a delivery waits on it too (log 186). -/
def MemSide.copyStays (m : MemSide) (pops : Nat → Bool) (count : Copy → List (Nat × Nat)) (st : List Nat) (x : Copy) : Bool :=
  !x.moves || pops x.id || m.outs.any fun e => st.contains e.id && m.accHoldsCopy count x e

/-- The same of a gather. -/
def MemSide.gatherStays (m : MemSide) (pops : Nat → Bool) (st : List Nat) (g : Gather) : Bool :=
  pops g.id || m.outs.any fun e => st.contains e.id && m.accHoldsGather g e

/-- The numbers of the accesses that cannot perform before the halt: one that a page request or a failure holds up, one that waits behind
an undelivered POP or for a copy that does not move on, and every one behind such; `away` says that no copy moves but that of a quench, since the context
is not on its core. -/
def MemSide.stuck (m : MemSide) (pops : Nat → Bool) (away : Bool) (count : Copy → List (Nat × Nat)) : List Nat :=
  m.outs.foldl (fun st a =>
    let stays (x : Copy) : Bool := (away && !x.quench) || m.copyStays pops count st x
    let waitsCopy : Bool := a.releases || match a.op with
      | .fence kind => fenceReleases kind
      | _ => false
    let behindCopy := m.copies.any fun x => stays x &&
      ((waitsCopy && decide (x.id < a.id) && x.wic.isSome) || (a.wic.isSome && x.bclk.ule a.bclk && x.reads a.va.toNat a.op.size))
    if a.phase ≠ .waiting || pops a.id || behindCopy || m.outs.any (fun e => st.contains e.id && a.behind e) then st ++ [a.id] else st) []

/-- Whether a later write of the context meets a load. -/
def MemSide.overwritten (m : MemSide) (a : Acc) : Bool :=
  a.op.loads && m.outs.any fun b => decide (a.id < b.id) && b.wic.isSome && a.meets b

/-- The numbers of the accesses that perform before the halt: the loads that a later write meets, what `wanted` picks, and all that they wait for,
unless they are among the stuck ones. -/
def MemSide.mustLand (m : MemSide) (st : List Nat) (wanted : Acc → Bool) : List Nat :=
  m.outs.foldr (fun a need =>
    if !st.contains a.id && (m.overwritten a || wanted a || m.outs.any fun b => need.contains b.id && b.behind a) then a.id :: need else need) []

end Sys2Proof.Machine
end

