-- ==== Sys2Proof/Machine/Adr.lean ====
section
/-! DEFINITION. The address slot, slot 2 (R179 to R193): 64-bit arithmetic, predicates, arming, masks, moves, loop deltas,
system registers. Every ADR result has latency 1, every a or k register blocks while empty (R180). -/

namespace Sys2Proof.Machine

/-- An operation that writes an a register (R180, R181). -/
def State.adrWrite (s : State) (g : BitVec 4) (d : BitVec 5) (srcs : List (BitVec 5)) (x : W64) : Out :=
  s.issueOp (s.guard4 g) [] [s.waitRegs (aRef d :: srcs.map aRef)] [] fun s => s.fly 1 2 (.a d x)

/-- An operation that writes a whole lane mask. -/
def State.adrMask (s : State) (g d : BitVec 4) (srcs : List (BitVec 5)) (x : W64) : Out :=
  s.issueOp (s.guard4 g) [] [s.waitRegs (srcs.map aRef)] [] fun s => s.fly 1 2 (.m d (BitVec.allOnes 64) x)

/-- A target buffer as the bundles before left it (R124). -/
def State.buf (s : State) (b : BitVec 2) : TBuf := Tbl.get TBuf.none s.issue.flow.bufs b.toNat

/-- TXEMPTY of a buffer (R308). -/
def State.bufEmpty (s : State) (slot : Nat) (b : BitVec 2) : Option Cause :=
  s.check slot ((s.buf b).st = .empty) 0x0D (regInfo .b b.toNat)

/-- TINFO of ARMUNKNOWN and NONUNIFORM (R308). -/
def armInfo (b : BitVec 2) (c : RegClass) (n : Nat) : W64 := BitVec.ofNat 64 (b.toNat * 2 ^ 16) ||| regInfo c n

/-- The largest n such that the first n counted writes have drained (R218). -/
def Context.drainedTo (c : Context) : W64 :=
  let open_ := c.mem.outs.filterMap (·.wic) ++ c.mem.copies.filterMap (·.wic)
  open_.foldl (fun (m : W64) n => if n.toNat - 1 < m.toNat then n - 1 else m) c.sys.wic

/-- WDC (R218), with what a debugger's write has put before it (R296). -/
def Context.wdc (c : Context) : W64 := c.drainedTo + c.sys.wdcShift

/-- Whether MOVS reads a system register number (R138). -/
def sysReads (n : BitVec 12) : Bool :=
  [0x000, 0x001, 0x002, 0x003, 0x004, 0x008, 0x009, 0x00A, 0x00B, 0x00C, 0x010, 0x011, 0x012, 0x013, 0x018, 0x019, 0x01A,
    0x030, 0x031, 0x032, 0x038, 0x039, 0x03A, 0x03B, 0x040, 0x048, 0x049, 0x050, 0x051].contains n.toNat ||
    (0x020 ≤ n.toNat && n.toNat ≤ 0x02F)

/-- Whether MOVG writes a system register number (R138). -/
def sysWrites (n : BitVec 12) : Bool :=
  [0x008, 0x009, 0x00A, 0x00B, 0x00C, 0x010, 0x018, 0x019, 0x01A, 0x030, 0x032, 0x03B, 0x040, 0x048].contains n.toNat ||
    (0x020 ≤ n.toNat && n.toNat ≤ 0x02F)

/-- A system register as a bundle reads it, zero-extended (R138, R192). -/
def Context.readSys (c : Context) (mcc : W64) (n : BitVec 12) : W64 :=
  let y := c.sys
  match n.toNat with
  | 0x000 => mcc
  | 0x001 => c.flow.bclk
  | 0x002 => BitVec.ofNat 64 c.id.slot
  | 0x003 => zext64 c.id.pasid
  | 0x004 => if c.id.world then 1 else 0
  | 0x008 => zext64 y.tvec
  | 0x009 => zext64 y.tcause
  | 0x00A => y.tpc
  | 0x00B => y.tinfo
  | 0x00C => zext64 y.tslot
  | 0x010 => zext64 y.pbudget
  | 0x011 => BitVec.ofNat 64 c.swage.pused
  | 0x012 => BitVec.ofNat 64 c.swage.store.length
  | 0x013 => BitVec.ofNat 64 c.swage.ckpts.length
  | 0x018 => zext64 y.qctl
  | 0x019 => zext64 y.qprog
  | 0x01A => zext64 y.qempty
  | 0x030 => zext64 y.drp
  | 0x031 => zext64 y.ovfc
  | 0x032 => zext64 y.vovf
  | 0x038 => y.rxw
  | 0x039 => y.myw
  | 0x03A => zext64 y.qdi
  | 0x03B => y.qbsz
  | 0x040 => zext64 y.dupw
  | 0x048 => zext64 y.driftt
  | 0x049 => y.lastdrift
  | 0x050 => c.wdc
  | 0x051 => y.wic
  | m => zext64 (Tbl.get 0 y.fmt (m - 0x020))

/-- ILLEGAL with reason 6 (R309). -/
def State.sysIllegal (s : State) (bad : Bool) (n : BitVec 12) : Option Cause :=
  s.check 2 bad 0x10 (BitVec.ofNat 64 (6 * 2 ^ 56 + n.toNat))

/-- NOP_ADR (R109). -/
def execNopAdr (s : State) : Out := s.issueOp true [] [] [] id

/-- ADDA (R181). -/
def execAdda (g : BitVec 4) (d a b : BitVec 5) (s : State) : Out := s.adrWrite g d [a, b] (s.a a + s.a b)

/-- SUBA (R181). -/
def execSuba (g : BitVec 4) (d a b : BitVec 5) (s : State) : Out := s.adrWrite g d [a, b] (s.a a - s.a b)

/-- MULA (R181). -/
def execMula (g : BitVec 4) (d a b : BitVec 5) (s : State) : Out := s.adrWrite g d [a, b] (s.a a * s.a b)

/-- ANDA (R181). -/
def execAnda (g : BitVec 4) (d a b : BitVec 5) (s : State) : Out := s.adrWrite g d [a, b] (s.a a &&& s.a b)

/-- ORA (R181). -/
def execOra (g : BitVec 4) (d a b : BitVec 5) (s : State) : Out := s.adrWrite g d [a, b] (s.a a ||| s.a b)

/-- XORA (R181). -/
def execXora (g : BitVec 4) (d a b : BitVec 5) (s : State) : Out := s.adrWrite g d [a, b] (s.a a ^^^ s.a b)

/-- SHLA (R181). -/
def execShla (g : BitVec 4) (d a b : BitVec 5) (s : State) : Out := s.adrWrite g d [a, b] (s.a a <<< ((s.a b).toNat % 64))

/-- SHRA (R181). -/
def execShra (g : BitVec 4) (d a b : BitVec 5) (s : State) : Out := s.adrWrite g d [a, b] (s.a a >>> ((s.a b).toNat % 64))

/-- SARA (R181). -/
def execSara (g : BitVec 4) (d a b : BitVec 5) (s : State) : Out := s.adrWrite g d [a, b] ((s.a a).sshiftRight ((s.a b).toNat % 64))

/-- ADDAI (R181). -/
def execAddai (g : BitVec 4) (d a : BitVec 5) (i : BitVec 12) (s : State) : Out := s.adrWrite g d [a] (s.a a + sext64 i)

/-- LI (R181). -/
def execLi (g : BitVec 4) (d : BitVec 5) (i : BitVec 17) (s : State) : Out := s.adrWrite g d [] (sext64 i)

/-- SHLAI (R181). -/
def execShlai (g : BitVec 4) (d a : BitVec 5) (i : BitVec 6) (s : State) : Out := s.adrWrite g d [a] (s.a a <<< i.toNat)

/-- CMPA (R182): T or F to p0–p31. -/
def execCmpa (g : BitVec 4) (p a b : BitVec 5) (c : BitVec 3) (s : State) : Out :=
  s.issueOp (s.guard4 g) [] [s.waitRegs [aRef a, aRef b]] [] fun s =>
    s.fly 1 2 (.p (p.zeroExtend 7) (pOf (condHolds c (s.a a) (s.a b))))

/-- CMPAI (R182). -/
def execCmpai (g : BitVec 4) (p a : BitVec 5) (c : BitVec 3) (i : BitVec 9) (s : State) : Out :=
  s.issueOp (s.guard4 g) [] [s.waitRegs [aRef a]] [] fun s =>
    s.fly 1 2 (.p (p.zeroExtend 7) (pOf (condHolds c (s.a a) (sext64 i))))

/-- PLOGIC (R183); it has no guard. -/
def execPlogic (d a b : BitVec 7) (f : BitVec 3) (s : State) : Out :=
  s.issueOp true [] [] [] fun s => s.fly 1 2 (.p d (plogicFn f (s.p a) (s.p b)))

/-- PSET (R184). -/
def execPset (d : BitVec 7) (v : BitVec 2) (s : State) : Out := s.issueOp true [] [] [] fun s => s.fly 1 2 (.p d v)

/-- ARM (R185, R124): ARMUNKNOWN on U, TXEMPTY on an EMPTY buffer. -/
def execArm (b : BitVec 2) (x : BitVec 7) (p : BitVec 1) (s : State) : Out :=
  s.issueOp true [] [] [s.check 2 (s.p x = predU) 0x0C (armInfo b .p x.toNat), s.bufEmpty 2 b] fun s =>
    s.fly 1 2 (.arm b (s.p x = if p = 0 then predT else predF))

/-- ARMM (R185, R124): NONUNIFORM on a mixed mask, TXEMPTY on an EMPTY buffer. -/
def execArmm (b : BitVec 2) (x : BitVec 4) (s : State) : Out :=
  s.issueOp true [] [] [s.check 2 (s.m x ≠ 0 && s.m x ≠ BitVec.allOnes 64) 0x0B (armInfo b .m x.toNat), s.bufEmpty 2 b]
    fun s => s.fly 1 2 (.arm b (s.m x ≠ 0))

/-- MLOGIC (R186). -/
def execMlogic (g d a b : BitVec 4) (f : BitVec 3) (s : State) : Out := s.adrMask g d [] (mlogicFn f (s.m a) (s.m b))

/-- MCNT (R187). -/
def execMcnt (g : BitVec 4) (d : BitVec 5) (x : BitVec 4) (s : State) : Out :=
  s.adrWrite g d [] (BitVec.ofNat 64 (countOnes (s.m x) 64))

/-- MFIRST (R187): 64 when no bit is set. -/
def execMfirst (g : BitVec 4) (d : BitVec 5) (x : BitVec 4) (s : State) : Out :=
  s.adrWrite g d [] (BitVec.ofNat 64 (lowestSet (s.m x) 64 0))

/-- MFILL (R187). -/
def execMfill (g d : BitVec 4) (x : BitVec 5) (s : State) : Out := s.adrMask g d [x] (s.a x)

/-- MFROMP (R187): U counts as not T. -/
def execMfromp (g d : BitVec 4) (x : BitVec 7) (s : State) : Out :=
  s.adrMask g d [] (if s.p x = predT then BitVec.allOnes 64 else 0)

/-- MOVKA (R188): NOTSINGLE on more than one member. -/
def execMovka (g : BitVec 4) (d : BitVec 5) (x : BitVec 6) (s : State) : Out :=
  s.issueOp (s.guard4 g) [] [s.waitRegs [aRef d, kRef x]]
    [s.check 2 (domMember? (s.k x)).isNone 0x08 (regInfo .k x.toNat)] fun s =>
      s.fly 1 2 (.a d (BitVec.ofInt 64 ((domMember? (s.k x)).getD 0)))

/-- MOVAK (R188): BOUNDWRITE on a bound register; it never trails. -/
def execMovak (g : BitVec 4) (d : BitVec 6) (x : BitVec 5) (s : State) : Out :=
  s.issueOp (s.guard4 g) [] [s.waitDest (kRef d), s.waitRegs [aRef x]]
    [s.check 2 (s.issue.swage.bound d) 0x07
      (BitVec.ofNat 64 (s.issue.swage.firstNaming d % 65536 * 2 ^ 32) ||| regInfo .k d.toNat)] fun s =>
      s.fly 1 2 (.k d (domSingle (low32 (s.a x)).toInt))

/-- SELA (R189). -/
def execSela (g : BitVec 4) (d a b : BitVec 5) (x : BitVec 7) (s : State) : Out :=
  s.adrWrite g d [a, b] (if s.p x = predT then s.a a else s.a b)

/-- LDELTA (R190). -/
def execLdelta (g : BitVec 4) (v : BitVec 2) (t x : BitVec 5) (s : State) : Out :=
  s.issueOp (s.guard4 g) [] [s.waitRegs [aRef x]] [] fun s => s.fly 1 2 (.ldelta v t (low32 (s.a x)))

/-- GETLC (R191): 0 for an inactive level. -/
def execGetlc (g : BitVec 4) (d : BitVec 5) (v : BitVec 2) (s : State) : Out :=
  let l := Tbl.get Loop.none s.issue.flow.loops v.toNat
  s.adrWrite g d [] (if l.active then zext64 l.count else 0)

/-- MOVS (R192); of MYW once a borrow on its way has been performed (R45). -/
def execMovs (g : BitVec 4) (d : BitVec 5) (r : BitVec 12) (s : State) : Out :=
  s.issueOp (s.guard4 g) [] [s.waitRegs [aRef d], if r = 0x039 then s.mywWait else none] [s.sysIllegal (!sysReads r) r] fun s =>
    s.fly 1 2 (.a d (s.issue.readSys s.mcc r))

/-- MOVG (R192): RANGE on PBUDGET and QBSZ, which then keep their values. DESIGN CHOICE: the limits of PBUDGET are tested on all 64 bits of
aS, before the drop of its bits [63:32] (R138, log 151). -/
def execMovg (g : BitVec 4) (x : BitVec 5) (r : BitVec 12) (s : State) : Out :=
  let v := (s.a x).toNat
  s.issueOp (s.guard4 g) [] [s.waitRegs [aRef x]]
    [s.sysIllegal (!sysWrites r) r,
      s.check 2 ((r = 0x010 && (v = 0 || 65535 < v)) || (r = 0x03B && (v = 0 || 2 ^ 62 < v))) 0x09 (s.a x)] fun s =>
      s.fly 1 2 (.sys r (s.a x))

end Sys2Proof.Machine
end

