-- ==== Sys2Proof/Machine/Queue.lean ====
section
/-! DEFINITION. What the Bellows schedulers hold (R34 to R36, R227 to R229, R259): acceptance and tickets, stamps, spilling, the
delivery of value-queue entries, and how a late value reaches its register (R116, R296). -/

namespace Sys2Proof.Machine

/-! ### Late values (R116, R296) -/

/-- A listed context. -/
def State.ctx? (s : State) (uid : Nat) : Option Context := Tbl.find s.ctxs uid

/-- The class code of DSTAT (R294). -/
def discClass : RegClass → Nat
  | .k => 0
  | .a => 1
  | .v => 2
  | _ => 3

/-- DSTAT with DISC, DREG and DCLASS (R294). -/
def discStat (d : W64) (r : RegRef) : W64 :=
  (d &&& ~~~(0xFF80 : W64)) ||| BitVec.ofNat 64 (discClass r.1 * 2 ^ 14 + r.2 % 64 * 2 ^ 8 + 2 ^ 7)

/-- DSTAT with REASON and INDEX (R294). -/
def stopStat (d : W64) (reason index : Nat) : W64 := (d &&& ~~~(0x7F : W64)) ||| BitVec.ofNat 64 (index % 8 * 16 + reason % 16)

/-- Whether a slot of a tagged bundle still has an operation that has not landed (R302): a result in flight, an access, a
thread, a division, a scatter, or a beat of an Anvil command, which `due` bounds. -/
def Context.slotRuns (c : Context) (bclk : W64) (slot due : Nat) : Bool :=
  decide (c.flow.bclk.toNat < due) ||
    (c.flow.flights.any fun f => f.slot = slot && f.bclk = bclk) ||
    (c.trap.snapshot.any fun f => f.slot = slot && f.bclk = bclk) ||
    (slot = 1 && c.mem.divs.any fun d => d.bclk = bclk) ||
    (slot = 5 && ((c.mem.outs.any fun a => a.bclk = bclk) || (c.mem.scats.any fun x => x.bclk = bclk))) ||
    (slot = 7 && ((c.mem.copies.any fun x => x.bclk = bclk) || (c.mem.gathers.any fun x => x.bclk = bclk)))

/-- Whether a POP of a bundle still waits at its queue. -/
def State.popWaits (s : State) (uid : Nat) (bclk : W64) : Bool :=
  s.clusters.any fun g => g.2.value.any fun q => q.2.waiters.any fun w => w.ctx = uid && w.bclk = bclk

/-- Notes the cycles of every slot of a tag whose operation has landed (R302). -/
def Tag.step (t : Tag) (mcc : W64) (runs : Nat → Nat → Bool) : Tag :=
  let done := t.wait.filter fun w => !runs w.1 w.2
  { t with
    wait := t.wait.filter fun w => runs w.1 w.2
    times := done.foldl (fun m w => Tbl.put m w.1 (min (2 ^ 24 - 1) (mcc - t.at_).toNat)) t.times }

/-- The SAMPLE record of a tag whose operations have all landed. -/
def Tag.record (t : Tag) : BitVec 512 :=
  (List.range 8).foldl (fun x n => recSet x (40 + 3 * n) 24 (Tbl.get 0 t.times n)) t.head

/-- Follows the tags of a context. -/
def State.tagStep (s : State) (uid : Nat) (c : Context) : Context :=
  { c with dbg := { c.dbg with
      tags := c.dbg.tags.map fun t => t.step s.mcc fun slot due => c.slotRuns t.bclk slot due || (slot = 5 && s.popWaits uid t.bclk) } }

/-- The bit of DUPW of a register class (R121). -/
def dupClass : RegClass → Nat
  | .k => 0
  | .a => 1
  | .p => 2
  | .m => 3
  | .v => 4
  | _ => 5

/-- Whether a register is a fixed member, whose writes are discarded (R112). -/
def fixedReg (r : RegRef) : Bool := r.2 = 0 && (r.1 = .k || r.1 = .a)

/-- A late value is written at the boundary of a bundle-clock point, among the writes of that point in the order of R121: by slot, and within a slot
by issue, so that one from a higher slot, or from a later bundle of its own, stands; each that it meets it duplicates. `put` says whether it
writes at all: one that fails writes nothing (R116, R121). -/
def Context.writeLate (c : Context) (slot : Nat) (bclk : W64) (r : RegRef) (put : Context → Context × Bool) : Context :=
  let (after, wrote) := put c
  if !wrote || fixedReg r then after
  else
    let met := c.flow.landed.filter fun w => w.1 = dupClass r.1 && w.2.1 = r.2
    let c := if met.any fun w => decide (slot < w.2.2.1) || (slot = w.2.2.1 && bclk.ult w.2.2.2) then c else after
    { c with
      sys := { c.sys with dupw := c.sys.dupw ||| if met.isEmpty then 0 else BitVec.twoPow 32 (dupClass r.1) }
      flow := { c.flow with landed := c.flow.landed ++ [(dupClass r.1, r.2, slot, bclk)] } }

/-- A late value arrives at its register, which it fills, or is discarded for a debugger's write (R116, R296); with none, the register is
full again without a value: an index register, or the offset of a POPR (R220, R228). -/
def State.landLate (s : State) (uid slot id : Nat) (off : W32) (bclk : W64) (r : RegRef) (put : Option (Context → Context × Bool)) : State :=
  match s.ctx? uid with
  | none => s
  | some c =>
    if c.mem.discard.contains (r.1, r.2, id) then
      let x := traceHead 5 (8 + slot) c.id.core c s.mcc off bclk
      let x := recSet (recSet (recSet x 40 8 (discClass r.1)) 41 8 r.2) 48 64 s.mcc.toNat
      let s := s.mapCtx uid fun c => { c with
        mem := { c.mem with discard := c.mem.discard.filter fun d => d ≠ (r.1, r.2, id) }
        dbg := { c.dbg with dstat := discStat c.dbg.dstat r } }
      s.traceOf c.id.core c x
    else s.mapCtx uid fun c =>
      let c := match put with
        | some f => c.writeLate slot bclk r f
        | none => c
      { c with regs := c.regs.mark r false }

/-- A late value that is a write of one register. -/
def State.landReg (s : State) (uid slot id : Nat) (off : W32) (bclk : W64) (r : RegRef) (put : Regs → Regs) : State :=
  s.landLate uid slot id off bclk r (some fun c => ({ c with regs := put c.regs }, true))

/-! ### Acceptance (R34 to R36) -/

/-- Whether rank (d1, t1) is earlier than rank (d2, t2) (R36). -/
def rankLess (d1 t1 d2 t2 : W64) : Bool := d1.ult d2 || (d1 = d2 && t1.ult t2)

/-- Whether the writes that a stamp counts have drained (R229, R259); those of a context that is gone have. -/
def State.stampMet (s : State) (stamp : Nat × W64) : Bool :=
  match s.ctx? stamp.1 with
  | none => true
  | some c => !c.wdc.ult stamp.2

/-- The entries of a scheduling queue. -/
def Cluster.queue (g : Cluster) (q : Nat) : List Entry := Tbl.get [] g.sched q

/-- A value queue of a cluster. -/
def Cluster.values (g : Cluster) (q : Nat) : VQueue := Tbl.get VQueue.fresh g.value q

def Cluster.setQueue (g : Cluster) (q : Nat) (es : List Entry) : Cluster := { g with sched := Tbl.set [] g.sched q es }

def Cluster.setValues (g : Cluster) (q : Nat) (v : VQueue) : Cluster := { g with value := Tbl.set VQueue.fresh g.value q v }

/-- Entries that a queue holds on chip (R34). -/
def chipSize : Nat := 1024

/-- Whether a new entry of a scheduling queue spills. -/
def spillsSched (es : List Entry) : Bool := chipSize ≤ (es.filter fun e => !e.spilled).length

/-- Puts an entry into a scheduling queue with the rank it has. -/
def Cluster.insert (g : Cluster) (q : Nat) (e : Entry) : Cluster :=
  let es := g.queue q
  g.setQueue q (es ++ [{ e with spilled := spillsSched es }])

/-- Acceptance: the counter's value becomes the ticket (R36). -/
def Cluster.accept (g : Cluster) (q : Nat) (body : EntryBody) (deadline : W64) (stamp : Option (Nat × W64)) (bound : Option Nat) :
    Cluster :=
  ({ g with ticket := g.ticket + 1 }).insert q
    { body := body, deadline := deadline, ticket := g.ticket, stamp := stamp, spilled := false, replay := none, bound := bound,
      gang := none }

/-- A fresh record enters a scheduling queue (R29, R31, R32). -/
def State.acceptFresh (s : State) (g q : Nat) (r : BitVec 512) (stamp : Option (Nat × W64)) : State :=
  s.mapCluster g fun c => c.accept q (.fresh r) (recField r 8 64) stamp none

/-- A push is accepted with its stamp (R227, R229). -/
def State.acceptPush (s : State) (g : Nat) (pasid : BitVec 20) (p : Push) (stamp : Nat × W64) : State :=
  s.mapCluster g fun c =>
    let v := c.values p.qid.toNat
    let e : VEntry := { payload := p.payload, weight := p.weight, stamp := stamp, ticket := p.ticket, pasid := pasid,
                        spilled := chipSize ≤ (v.entries.filter fun e => !e.spilled).length, poisoned := p.poisoned }
    c.setValues p.qid.toNat { v with entries := v.entries ++ [e] }

/-- An operation on the way behind the first n (R250). -/
def Context.sendAt (c : Context) (n : Nat) (op : HOp) : Context :=
  { c with mem := { c.mem with hearth := c.mem.hearth.take n ++ { id := c.mem.nextId, op := op } :: c.mem.hearth.drop n } }

/-- A push at the end of its bundle: accepted at once, or behind the n operations of earlier bundles that its context has on the way, or those
that hold it; what the CTL slot of the bundle has sent comes after it (R229, R250, R259, R267). -/
def State.offerPush (s : State) (uid : Nat) (c : Context) (n : Nat) (p : Push) : State :=
  if n = 0 && !c.mem.heldBefore c.mem.nextId true && !s.popBefore uid c.mem.nextId then
    s.acceptPush c.id.home c.id.pasid p (uid, c.sys.wic)
  else s.mapLive fun c => c.sendAt n (.push p c.sys.wic)

/-- A context that only waits for its last operations goes once they are done, with the SAMPLE records of its last tags (R302). -/
def State.reap (s : State) (uid : Nat) : State :=
  match s.ctx? uid with
  | none => s
  | some c =>
    if c.id.status = .ghost && c.mem.hearth.isEmpty && c.mem.outs.isEmpty && c.mem.copies.isEmpty then
      let tags := (s.tagStep uid c).dbg.tags.filter fun t => t.wait.isEmpty
      let s := tags.foldl (fun s t => s.traceOf c.id.core c t.record) s
      { s with ctxs := Tbl.erase s.ctxs uid }
    else s

/-- Whether an operation on the way goes to a block that no port leads to (R348). -/
def State.opCut (s : State) : HOp → Bool
  | .qnew b _ | .borrow b _ _ | .ret b _ _ _ => s.linkDown b.toNat
  | .qwait home _ b _ _ => s.linkDown b.toNat || (home.map fun h => s.linkDown h.toNat).getD false
  | .offer _ _ _ | .push _ _ => false

/-- The next operation on the way to the Hearth or the Bellows (R151), once no earlier acquire or fence of its context holds it (R225,
R253, R267). DESIGN CHOICE: one on its way to a peer's block when the last port goes down waits until a port is up (log 159). -/
def State.nextOp? (s : State) (uid : Nat) : Option (Context × HOp) :=
  match s.ctx? uid with
  | none => none
  | some c => match c.mem.hearth with
    | [] => none
    | h :: _ => if c.mem.heldBefore h.id true || s.popBefore uid h.id || s.opCut h.op then none else some (c, h.op)

/-- The operation just performed leaves the list. -/
def State.opDone (s : State) (uid : Nat) : State :=
  (s.mapCtx uid fun c => { c with mem := { c.mem with hearth := c.mem.hearth.drop 1 } }).reap uid

/-- SPAWN_ACCEPTANCE (R151, R259): every earlier Hearth operation of the spawner has been performed, and every earlier push accepted; a push
that had to wait is accepted in the same way. -/
def execSpawnAcceptance (uid : Nat) (s : State) : Out :=
  match s.nextOp? uid with
  | some (c, .offer q r stamp) => .next ((s.acceptFresh c.id.home q.toNat r (some (uid, stamp))).opDone uid)
  | some (c, .push p stamp) => .next ((s.acceptPush c.id.home c.id.pasid p (uid, stamp)).opDone uid)
  | _ => .refused .notPending

/-! ### What an image holds (R326, R330, R351, R353) -/

/-- Whether engine threads of a context move: not in its image, not while it stays halted. -/
def Context.threadsMove (c : Context) : Bool := match c.id.status with
  | .evicted | .halted _ | .restoring => false
  | _ => true

/-- The accesses of a context that cannot perform before its halt is complete, or, where it is away from its core, at all. -/
def State.stuck (s : State) (uid : Nat) (c : Context) (away : Bool) : List Nat :=
  c.mem.stuck (s.popBefore uid) away fun x => s.counterParts uid (c.agentOf uid x.id) x

/-- A context as its image holds it: without the operations that have left through the gate already and complete by themselves (R353), and with the POPs
that wait (R336). -/
def State.imageOf (s : State) (uid : Nat) (c : Context) : Context :=
  let st := s.stuck uid c true
  { c with mem := { c.mem with
      hearth := []
      outs := c.mem.outs.filter fun a => !a.wic.isSome || st.contains a.id
      pops := c.mem.pops ++ s.popsOf uid } }

/-- The POPs that an image holds wait at their queues again (R336, R354). -/
def State.repop (s : State) (uid : Nat) (pops : List (Nat × Nat × Waiter)) : State :=
  pops.foldl (fun s p => s.mapCluster p.1 fun k =>
    let v := k.values p.2.1
    k.setValues p.2.1 { v with waiters := v.waiters ++ [{ p.2.2 with ctx := uid }] }) s

/-! ### Return of spilled entries (R34) -/

/-- The spilled entry that ranks first. -/
def firstSpilled (es : List Entry) : Option Entry :=
  es.foldl (fun m e => if !e.spilled then m else match m with
    | none => some e
    | some x => if rankLess e.deadline e.ticket x.deadline x.ticket then some e else m) none

/-- Brings the first spilled value entry on chip. -/
def unspillFirst : List VEntry → List VEntry
  | [] => []
  | e :: t => if e.spilled then { e with spilled := false } :: t else e :: unspillFirst t

/-- ENTRY_RETURN (R34): one entry, in rank order, when there is room on chip. -/
def execEntryReturn (g q : Nat) (s : State) : Out :=
  let c := s.clusterOf g
  if q < 16 then
    let es := c.queue q
    match firstSpilled es with
    | some e =>
      if spillsSched es then .refused .notPending
      else .next (s.mapCluster g fun c => c.setQueue q (es.map fun x => if x = e then { x with spilled := false } else x))
    | none => .refused .notPending
  else
    let v := c.values q
    if (v.entries.any fun e => e.spilled) && (v.entries.filter fun e => !e.spilled).length < chipSize then
      .next (s.mapCluster g fun c => c.setValues q { v with entries := unspillFirst v.entries })
    else .refused .notPending

/-! ### Delivery (R228, R229, R354) -/

/-- The entry that a value queue delivers next (R227). -/
def VQueue.next? (v : VQueue) : Option VEntry := if v.ticketMode then v.entries.find? fun e => e.ticket = v.nt else v.entries.head?

/-- The queue without an entry just delivered. -/
def VQueue.take (v : VQueue) (e : VEntry) : VQueue :=
  { v with entries := v.entries.erase e, nt := if v.ticketMode then v.nt + 1 else v.nt }

/-- The tags of a context after something of it has landed. -/
def State.tagged (s : State) (uid : Nat) : State := s.mapCtx uid fun c => s.tagStep uid c

/-- The run's journal holds a delivery, and its account the weight (R353); what is delivered between two runs is in the image from which the next one
starts. -/
def Context.journal (c : Context) (d : Delivery) : Context := match c.id.status with
  | .evicted | .qwait => c
  | _ => ({ c with run := { c.run with held := c.run.held ++ [d] } }).account d.weight

/-- The payload and weight reach a POP that waits, an acquire (R229, R262). -/
def State.deliver (s : State) (w : Waiter) (payload : BitVec 512) (weight : W64) : State :=
  let s := s.dropCopies.mapCtx w.ctx fun c =>
    let c := match w.off with
      | some off => { c with mem := c.mem.scrWrite off (leBytes 64 payload.toNat) false }
      | none => c
    { c with sys := { c.sys with rxw := weight } }
  let s := match w.off with
    | some _ => s.landLate w.ctx 5 w.id w.pc w.bclk (aRef w.r) none
    | none => s.landReg w.ctx 5 w.id w.pc w.bclk (aRef w.r) fun g => g.writeA w.r (payload.extractLsb' 0 64)
  s.tagged w.ctx

/-- A delivery of the first run that the replay is to receive again (R354). -/
def State.again? (s : State) (uid qid : Nat) : Option Delivery :=
  (s.ctx? uid).bind fun c => c.run.again.find? fun d => d.qid = qid

/-- Changes every POP that waits. -/
def State.mapWaiters (s : State) (f : Waiter → Waiter) : State :=
  { s with clusters := s.clusters.map fun g =>
      (g.1, { g.2 with value := g.2.value.map fun q => (q.1, { q.2 with waiters := q.2.waiters.map f }) }) }

/-- A POP that has failed for the poison of its entry becomes a pending fault entry, or one again that waits (R326, R344). -/
def Waiter.fail (w : Waiter) (failed : Bool) : Waiter := { w with failed := failed }

/-- A consumed entry is poisoned: MEMERR with reason 0, once for the POP, which becomes a pending fault entry and reads again when its context
resumes (R326, R344); while the context is halted or evicted it raises nothing. An entry of a queue has no address. -/
def State.popPoisoned (s : State) (w : Waiter) : State :=
  let s := s.mapWaiters fun x => if x = w then x.fail true else x
  s.mapCtx w.ctx fun c => match c.id.status with
    | .evicting _ _ | .evicted | .halted _ | .restoring | .qwait => c
    | _ => c.blame { code := 0x30, reason := 0, slot := 5, off := w.pc, tinfo := 0, va := 0, kind := 4, seq := w.bclk.toNat }

/-- Pending fault entries among the accesses of a context, and the gathers from scratchpad that have met poison (R322, R326, R331, R344). -/
def Context.pendingFaults (c : Context) : Nat :=
  (c.mem.outs.filter fun a => a.phase ≠ .waiting && a.op.size ≠ 0).length + (c.mem.scats.filter fun x => x.failed).length

/-- Pending fault entries in the image of a context (R322, R326, R331, R344). -/
def State.pendingFaults (s : State) (uid : Nat) (c : Context) : Nat :=
  c.pendingFaults + sumNat (s.clusters.map fun g => sumNat (g.2.value.map fun q =>
    (q.2.waiters.filter fun w => w.ctx = uid && w.failed).length))

/-- The POPs of a context that had failed read their queues again (R336, R344). -/
def State.rereadPops (s : State) (uid : Nat) : State := s.mapWaiters fun w => if w.ctx = uid then w.fail false else w

/-- Whether an earlier acquire, fence or POP of its context holds a waiting POP (R225, R267), or its image is on the way to a core (R336). -/
def State.popHeld (s : State) (w : Waiter) : Bool :=
  s.popBefore w.ctx w.id || match s.ctx? w.ctx with
    | some c => c.mem.heldBefore w.id false || decide (c.id.status = .restoring)
    | none => false

/-- The first POP of a queue for which its run holds a delivery to be made again, and that nothing holds up: it waits for no other context's
(R354). -/
def State.redelivery? (s : State) (q : Nat) (v : VQueue) : Option (Waiter × Delivery) :=
  v.waiters.findSome? fun w => (s.again? w.ctx q).bind fun d => if s.popHeld w then none else some (w, d)

/-- QUEUE_DELIVERY (R229): a POP receives a held delivery of its run again, which the journal holds and counts already (R353, R354); or the first POP
that waits receives the next entry once the pusher's writes have drained. -/
def execQueueDelivery (g q : Nat) (s : State) : Out :=
  let v := (s.clusterOf g).values q
  let unwait (s : State) (v : VQueue) (w : Waiter) : State := s.mapCluster g fun c => c.setValues q { v with waiters := v.waiters.erase w }
  match s.redelivery? q v with
  | some (w, d) =>
    let s := (unwait s v w).mapCtx w.ctx fun c => { c with run := { c.run with again := c.run.again.erase d } }
    .next (s.deliver w d.payload d.weight)
  | none => match v.waiters.head?, v.next? with
    | some w, some e =>
      if !s.stampMet e.stamp || s.popHeld w || w.failed || (s.again? w.ctx q).isSome then .refused .notPending
      else if e.poisoned then .next (s.popPoisoned w)
      else
        let s := (unwait s (v.take e) w).mapCtx w.ctx fun c => c.journal { qid := q, payload := e.payload, weight := e.weight }
        .next (s.deliver w e.payload e.weight)
    | _, _ => .refused .notPending

/-- Drops every POP of a context that waits. -/
def State.dropWaiters (s : State) (uid : Nat) : State :=
  { s with clusters := s.clusters.map fun g =>
      (g.1, { g.2 with value := g.2.value.map fun q => (q.1, { q.2 with waiters := q.2.waiters.filter fun w => w.ctx ≠ uid }) }) }

end Sys2Proof.Machine
end

