-- ==== Sys2Proof/Machine/Hearth.lean ====
section
/-! DEFINITION. The Hearth quiescence agents (R42 to R48, R150, R151, R153): one atomic step on one block at a time. -/

namespace Sys2Proof.Machine

/-- A QD block (R42). -/
structure QD where
  total : Nat
  returned : Nat
  waiter : W64
  flags : W32
  borrows : W32
  deriving DecidableEq, Repr

/-- Reads the block at a place; the reserved bits of WAITER and FLAGS are ignored (R42, R311). -/
def State.readQD (s : State) (key : Nat) : QD :=
  { total := s.word key 16, returned := s.word (key + 16) 16, waiter := BitVec.ofNat 64 (s.word (key + 32) 8) &&& ~~~(0x0200000000000000 : W64),
    flags := BitVec.ofNat 32 (s.word (key + 40) 4) &&& 3, borrows := BitVec.ofNat 32 (s.word (key + 44) 4) }

/-- Writes a block whole; its reserved bytes and bits are zero (R311). -/
def State.newQD (s : State) (key : Nat) (b : QD) : State :=
  s.store key (leBytes 16 b.total ++ leBytes 16 b.returned ++ leBytes 8 b.waiter.toNat ++ leBytes 4 b.flags.toNat ++
    leBytes 4 b.borrows.toNat ++ leBytes 16 0)

/-- Writes a block that has been read: a mark that it bears goes on with what is made of it (R343). -/
def State.writeQD (s : State) (key : Nat) (b : QD) : State :=
  if s.isPoisoned key 64 then (s.newQD key b).poisonLines key 64 else s.newQD key b

def QD.faulted (b : QD) : Bool := bitOf b.flags 0
def QD.waiting (b : QD) : Bool := bitOf b.flags 1

/-- a1 of a waiter of a completed domain (R44). -/
def QD.verdict (b : QD) : W64 := if b.faulted then 0 else 1

/-- The address of a context's record: the base of its save slot (R20). -/
def State.recordAddr (s : State) (c : Context) : Nat := ((s.bind? c.id.pasid).map (·.save.toNat)).getD 0 + c.id.slot * 2 ^ 23

/-- WAITER as QWAIT writes it (R42, R44). -/
def State.waiterWord (s : State) (c : Context) : W64 := BitVec.ofNat 64 (c.id.home % 64 * 2 ^ 58 + s.recordAddr c % 2 ^ 57)

/-- Pushes the record of a waiter with a value for a1 (R44, R47): a new ticket at its acceptance (R36); the mark of its slot
is cleared (R20); a context that is still resident becomes ready; the push of a killed context's record is discarded (R323). The wake is
an acquire (R48, R262). -/
def State.wake (s : State) (uid : Nat) (a1 : W64) : State :=
  let s := s.dropCopies
  match s.ctx? uid with
  | none => s
  | some c =>
    let t := (s.clusterOf c.id.home).ticket
    let c' := { c with
      regs := (c.regs.writeA 1 a1).mark (aRef 1) false
      flow := { c.flow with stop := .none }
      id := { c.id with atQwait := false, marked := false, ticket := t } }
    match c.id.status with
    | .ghost => s
    | .evicted =>
      let s := s.mapCtx uid fun _ => c'
      s.mapCluster c.id.home fun g => g.accept c.id.homeq.toNat (.resume uid c.run.record) c.id.deadline none
        (c.id.gang.map fun _ => c.id.core)
    | .evicting _ r =>
      ({ s with ctxs := Tbl.put s.ctxs uid { c' with id := { c'.id with status := .evicting 0 r } } }).mapCluster c.id.home
        fun g => { g with ticket := g.ticket + 1 }
    | _ =>
      let c' := { c' with id := { c'.id with status := if c.id.stopped then .stopped else .ready } }
      ({ s with ctxs := Tbl.put s.ctxs uid c', images := Tbl.put s.images uid (s.imageOf uid c') }).mapCluster c.id.home
        fun g => { g with ticket := g.ticket + 1 }

/-- Whether a context waits at QWAIT on a block with a WAITER word: the one under which it was registered, whatever is bound since (R284). -/
def Context.isWaiter (c : Context) (key : Nat) (w : W64) : Bool :=
  c.id.atQwait && c.id.waiter = w && match c.flow.stop with
    | .qwait b _ => b.toNat = key
    | _ => false

/-- Wakes the waiter that a block names; one that has been killed is gone (R323). -/
def State.wakeNamed (s : State) (key : Nat) (w : W64) (a1 : W64) : State :=
  match s.ctxs.find? fun e => e.2.isWaiter key w with
  | some e => s.wake e.1 a1
  | none => s

/-- The check of R44 after an operation that changed RETURNED. -/
def State.settle (s : State) (key : Nat) : State :=
  let b := s.readQD key
  if b.waiting && b.returned = b.total then
    (s.writeQD key { b with flags := b.flags &&& ~~~(2 : W32) }).wakeNamed key b.waiter b.verdict
  else s

/-- Weight comes back, with or without the faulted flag (R44). -/
def State.giveBack (s : State) (key : Nat) (w : W64) (faulted : Bool) : State :=
  let b := s.readQD key
  (s.writeQD key { b with
    returned := (b.returned + w.toNat) % 2 ^ 128
    flags := if faulted then b.flags ||| 1 else b.flags }).settle key

/-- QNEW: a waiter is pushed first with a1 = 3, then the block is initialised (R44). -/
def State.initBlock (s : State) (key : Nat) (total : W64) : State :=
  let b := s.readQD key
  let s := if b.waiting then s.wakeNamed key b.waiter 3 else s
  s.newQD key { total := total.toNat, returned := 0, waiter := 0, flags := 0, borrows := 0 }

/-- A borrow (R45). -/
def State.borrowInto (s : State) (key : Nat) (m : W64) : State :=
  let b := s.readQD key
  s.writeQD key { b with total := (b.total + m.toNat) % 2 ^ 128, borrows := b.borrows + 1 }

/-- The registration of R153, with the WAITER word that names the record which QWAIT has written (R44). -/
def State.register (s : State) (uid key : Nat) (w : W64) : State :=
  let b := s.readQD key
  if b.waiting then s.wake uid 2
  else if b.returned = b.total then s.wake uid b.verdict
  else (s.mapCtx uid fun c => { c with id := { c.id with waiter := w } }).writeQD key { b with waiter := w, flags := b.flags ||| 2 }

/-- The return and the registration of QWAIT, which are one step where both go to one block (R153). -/
def State.waitOn (s : State) (uid : Nat) (home : Option W64) (w : W64) (key : Nat) (waiter : W64) : State :=
  match home with
  | none => s.register uid key waiter
  | some h =>
    if h.toNat = key then
      let b := s.readQD key
      let s := s.writeQD key { b with returned := (b.returned + w.toNat) % 2 ^ 128 }
      (s.register uid key waiter).settle key
    else (s.giveBack h.toNat w false).register uid key waiter

/-- HEARTH_QNEW (R44). -/
def execHearthQnew (uid : Nat) (s : State) : Out :=
  match s.nextOp? uid with
  | some (_, .qnew block total) => .next ((s.initBlock block.toNat total).opDone uid)
  | _ => .refused .notPending

/-- HEARTH_BORROW (R44, R45). -/
def execHearthBorrow (uid : Nat) (s : State) : Out :=
  match s.nextOp? uid with
  | some (_, .borrow block m _) => .next ((s.borrowInto block.toNat m).opDone uid)
  | _ => .refused .notPending

/-- HEARTH_RETURN (R44, R150): the writes issued before the return have drained. -/
def execHearthReturn (uid : Nat) (s : State) : Out :=
  match s.nextOp? uid with
  | some (c, .ret block w faulted stamp) =>
    if c.wdc.ult stamp then .refused .notPending else .next ((s.giveBack block.toNat w faulted).opDone uid)
  | _ => .refused .notPending

/-- HEARTH_QWAIT (R153). -/
def execHearthQwait (uid : Nat) (s : State) : Out :=
  match s.nextOp? uid with
  | some (c, .qwait home w block stamp waiter) =>
    if c.wdc.ult stamp then .refused .notPending
    else .next ((s.mapCtx uid fun c => { c with mem := { c.mem with hearth := c.mem.hearth.drop 1 } }).waitOn uid home w block.toNat waiter)
  | _ => .refused .notPending

end Sys2Proof.Machine
end

