-- ==== Sys2Proof/Machine/Sched.lean ====
section
/-! DEFINITION. Dispatch by the Bellows schedulers (R18 to R20, R36 to R39, R54, R286): which entry an idle core takes, room and
victims, fresh starts, gangs, and the halt and eviction of a context (R49, R330, R335). -/

namespace Sys2Proof.Machine

/-! ### Residents and room (R18, R54, R65) -/

/-- Ingots of a core's Crucible pool. -/
def poolIngots : Nat := 64

/-- Whether a context holds its core's ingots. -/
def Context.residentOn (c : Context) (n : Nat) : Bool :=
  c.id.core = n && match c.id.status with
    | .evicted | .ghost => false
    | _ => true

/-- The resident contexts of a core. -/
def State.residents (s : State) (n : Nat) : Tbl Context := s.ctxs.filter fun e => e.2.residentOn n

/-- Whether a resident context can be evicted to make room (R19). -/
def Context.evictable (c : Context) : Bool := match c.id.status with
  | .ready | .parked | .qwait => true
  | _ => false

/-- Whether a context is on its way out of its core (R19, R49). -/
def Context.leaving (c : Context) : Bool := match c.id.status with
  | .evicting _ _ => true
  | _ => false

/-- The operand slots that a context has claimed (R63). -/
def Context.slots (c : Context) : List Nat := (List.range 32).filter fun n => teClaimed (c.te n)

/-- Whether a context with a share and claimed slots fits beside some residents (R18, R54, R65); as the Anvil serves one
context (R233), slots are free only while no other resident holds any. -/
def fitsBeside (rs : Tbl Context) (share : Nat) (slots : List Nat) : Bool :=
  sumNat (rs.map fun e => e.2.id.share) + share ≤ poolIngots && decide (rs.length < 8) &&
    (slots.isEmpty || rs.all fun e => e.2.slots.isEmpty)

/-- The world of a core (R76). -/
def State.coreSecure (s : State) (n : Nat) : Bool := s.fabric.secureCores.contains n

/-- The lowest-numbered free save slot of a PASID (R20). -/
def State.freeSlot? (s : State) (pasid : BitVec 20) (saven : Nat) : Option Nat :=
  let held := s.ctxs.filter fun e => e.2.id.pasid = pasid && e.2.isRun
  (List.range (min saven (held.length + 1))).find? fun n => !held.any fun e => e.2.id.slot = n

/-! ### Object table (R285, R286) -/

/-- An object-table entry. -/
structure ObjEntry where
  hash : BitVec 128
  base : W64
  share : Nat
  clen : Nat
  tvec : W32
  deriving DecidableEq, Repr

/-- The fields of an entry. -/
def objOf (x : Nat) : ObjEntry :=
  { hash := BitVec.ofNat 128 x, base := BitVec.ofNat 64 (x / 2 ^ 128), share := x / 2 ^ 192 % 256, clen := x / 2 ^ 200 % 2 ^ 24,
    tvec := BitVec.ofNat 32 (x / 2 ^ 224) }

/-- The address of an object-table entry. -/
def Bind.objectAt (b : Bind) (obj : Nat) : Nat := b.objt.toNat + 32 * obj

/-- The entry that a fresh record names, where the translation of its place is held (R72) and the place is open to the agent (R77, R348). -/
def State.objectOf? (s : State) (w : Agent) (obj : Nat) : Option ObjEntry :=
  match s.bind? w.pasid with
  | none => none
  | some b => (s.place? w (b.objectAt obj) .read).bind fun k => if (s.bars w.world k).isNone then some (objOf (s.word k 32)) else none

/-! ### Records (R23 to R25) -/

def recObj (r : BitVec 512) : BitVec 16 := recField r 0 16
def recOffset (r : BitVec 512) : W32 := recField r 2 32
def recKind (r : BitVec 512) : BitVec 16 := recField r 6 16
def recDeadline (r : BitVec 512) : W64 := recField r 8 64
def recBudget (r : BitVec 512) : W32 := recField r 16 32
def recPart (r : BitVec 512) : W32 := recField r 20 32
def recPasid (r : BitVec 512) : BitVec 20 := (recField r 24 32 : W32).extractLsb' 0 20
def recWorld (r : BitVec 512) : Bool := bitOf (recField r 24 32 : W32) 20
/-- A record as it is read by a core, for a reader. -/
def recAgent (r : BitVec 512) (core : Nat) (reader : Reader := .none) : Agent :=
  { pasid := recPasid r, world := recWorld r, core := core, reader := reader }
def recHomeq (r : BitVec 512) : BitVec 6 := (recField r 24 32 : W32).extractLsb' 21 6
def recQd (r : BitVec 512) : W32 := recField r 28 32
def recWeight (r : BitVec 512) : W64 := recField r 32 64
def recArg (r : BitVec 512) (i : Nat) : W64 := recField r (40 + 8 * i) 64

/-- The save slot in which the record of a context stands: ARG0 names the image in it, whatever SAVE is bound since (R20, R24, R284, R336). -/
def Context.savedBase (c : Context) : Nat := (recArg c.run.record 0).toNat - 65536

/-! ### Which entry a core takes (R37, R38, R51) -/

/-- The writes of a context away from its core that are still to drain: those that do so by themselves (R353), and those that do so once a POP before
them is delivered; what waits for a pending fault entry is recorded with it (R265, R326). -/
def State.leftBehind (s : State) (uid : Nat) (c : Context) : List Acc :=
  let st := c.mem.stuck (fun _ => false) true fun x => s.counterParts uid (c.agentOf uid x.id) x
  c.mem.outs.filter fun a => a.wic.isSome && !st.contains a.id

/-- Whether an entry may be dispatched to an idle core with some of its residents gone (R37, R65, R259, R265). -/
def State.mayTake (s : State) (n : Nat) (e : Entry) (rs : Tbl Context) : Bool :=
  (match e.stamp with
   | none => true
   | some st => s.stampMet st) &&
  (match e.bound with
   | none => true
   | some m => m = n) &&
  match e.body with
  | .fresh r =>
    let pasid := recPasid r
    recWorld r = s.coreSecure n && (match s.bind? pasid with
      | none => false
      | some b => (s.freeSlot? pasid b.saven).isSome && (match s.objectOf? (recAgent r n) (recObj r).toNat with
        | some o => fitsBeside rs o.share []
        | none => fitsBeside rs 1 []))
  | .resume uid _ => match s.ctx? uid with
    | none => false
    | some c =>
      c.id.status = .evicted && c.id.world = s.coreSecure n && fitsBeside rs c.id.share c.slots &&
        (c.id.core = n || (s.leftBehind uid c).isEmpty)

/-- Residents that stay when every one that can be evicted is. -/
def keepers (rs : Tbl Context) : Tbl Context := rs.filter fun e => !e.2.evictable && !e.2.leaving

/-- Residents that stay when the evictions in course are complete. -/
def stayers (rs : Tbl Context) : Tbl Context := rs.filter fun e => !e.2.leaving

/-- Whether an entry is dispatchable on an idle core (R37). -/
def State.dispatchable (s : State) (n : Nat) (e : Entry) : Bool := s.mayTake n e (keepers (s.residents n))

/-- What a core can be given: a resident that is ready, or entry e of queue q of cluster g. -/
inductive Pick where
  | resident (uid : Nat)
  | entry (g q : Nat) (e : Entry)
  deriving DecidableEq, Repr

/-- A pick with its rank and its cluster. -/
structure Ranked where
  deadline : W64
  ticket : W64
  cluster : Nat
  pick : Pick
  deriving DecidableEq, Repr

/-- Whether another core makes room for an entry already (R19, R28). -/
def State.promised (s : State) (n g q : Nat) (e : Entry) : Bool := s.cores.any fun k => k.1 ≠ n && k.2.room = some (g, q, e.ticket)

/-- Whether the mode of a queue lets an entry be dispatched alone: gang queues give only entries already bound (R39, R282). -/
def Cluster.single (c : Cluster) (q : Nat) (e : Entry) : Bool := e.bound.isSome || Tbl.get 0 c.mode q = (0 : BitVec 2)

/-- The entries of a cluster that an idle core can take, among those that a condition picks. -/
def State.entriesOf (s : State) (n g : Nat) (p : Nat → Entry → Bool) : List Ranked :=
  (List.range 16).flatMap fun q => (((s.clusterOf g).queue q).filter fun e => p q e && s.dispatchable n e && !s.promised n g q e).map fun e =>
    { deadline := e.deadline, ticket := e.ticket, cluster := g, pick := .entry g q e }

/-- The entries of its own cluster, or of another of the stack, that an idle core can take; those of gang queues are never stolen (R38). -/
def State.entriesFor (s : State) (n g : Nat) (steal : Bool) : List Ranked :=
  s.entriesOf n g fun q e => (s.clusterOf g).single q e && !(steal && e.bound.isSome)

/-- The residents of a core that are ready. -/
def State.readyOn (s : State) (n : Nat) : List Ranked :=
  ((s.residents n).filter fun e => e.2.id.status = .ready).map fun e =>
    { deadline := e.2.id.deadline, ticket := e.2.id.ticket, cluster := e.2.id.home, pick := .resident e.1 }

/-- Whether a pick comes before another: rank, then the lower-numbered cluster (R36, R38). -/
def Ranked.before (x y : Ranked) : Bool :=
  rankLess x.deadline x.ticket y.deadline y.ticket ||
    (x.deadline = y.deadline && x.ticket = y.ticket && decide (x.cluster < y.cluster))

/-- The first of some picks. -/
def firstRanked (xs : List Ranked) : Option Ranked :=
  xs.foldl (fun m x => match m with
    | none => some x
    | some y => if x.before y then some x else m) none

/-- Whether a pick has a finite deadline (R51). -/
def Ranked.finite (x : Ranked) : Bool := x.deadline ≠ 0xFFFFFFFFFFFFFFFF

/-- The other clusters of a core's stack. -/
def othersOf (n : Nat) : List Nat := ((List.range 8).map fun i => 8 * stackOfCore n + i).filter (· ≠ clusterOfCore n)

/-- What waits for a core apart from stealing: the entries of its cluster, its ready residents, and the members of a stack gang that are bound to
it, whose queue is in cluster 8s (R37, R39). -/
def State.ownOf (s : State) (n : Nat) : List Ranked :=
  s.entriesFor n (clusterOfCore n) false ++ s.readyOn n ++ (othersOf n).flatMap fun g => s.entriesOf n g fun _ e => e.bound = some n

/-- What an idle core is given: the earliest-ranked entry dispatchable on it in its own cluster, or one stolen from another
cluster of the stack (R37, R38). DEDUCED: an entry without a deadline yields to one with a deadline that could be stolen, as R51 lets it be
dispatched only when none is dispatchable on the core (log 157). -/
def State.bestFor (s : State) (n : Nat) : Option Ranked :=
  let mine := firstRanked (s.ownOf n)
  let stolen := firstRanked ((othersOf n).flatMap fun g => s.entriesFor n g true)
  match mine, stolen with
  | some x, some y => if !x.finite && y.finite then some y else some x
  | some x, none => some x
  | none, y => y

/-! ### Gangs that wait (R39, R51) -/

/-- The entries of a queue by ticket. -/
def byTicket (es : List Entry) : List Entry :=
  es.foldl (fun acc e =>
    let (lo, hi) := acc.span fun x => x.ticket.ult e.ticket
    lo ++ e :: hi) []

/-- Whether tickets are consecutive. -/
def consecutive : List Entry → Bool
  | a :: b :: t => b.ticket = a.ticket + 1 && consecutive (b :: t)
  | _ => true

/-- The windows of n consecutive tickets in entries by ticket, from the front: behind a whole one the next begins, and an entry that begins none is
passed over. -/
def gangsFrom (n : Nat) : Nat → List Entry → List (List Entry)
  | 0, _ => []
  | k + 1, xs =>
    let w := xs.take n
    if w.length < n then []
    else if consecutive w then w :: gangsFrom n k (xs.drop n)
    else gangsFrom n k (xs.drop 1)

/-- The gangs of a queue: n entries of consecutive tickets each, not yet bound. DESIGN CHOICE: R39 does not say how entries group; they do so from the
lowest ticket on, and no entry is of two gangs (log 196). -/
def gangsIn (es : List Entry) (n : Nat) : List (List Entry) :=
  let xs := (byTicket es).filter fun e => e.bound.isNone
  gangsFrom n xs.length xs

/-- The cores of a gang in order: those of the cluster, or of its stack. -/
def gangCores (g : Nat) (stack : Bool) : List Nat :=
  if stack then (List.range 128).map (· + 128 * (g / 8)) else (List.range 16).map (· + 16 * g)

/-- Whether every member has a core that can take it at once, or once it has made room. -/
def State.gangReady (s : State) (ms : List (Nat × Entry)) (now : Bool) : Bool :=
  ms.all fun m => (s.coreOf m.1).cur.isNone && if now then s.mayTake m.1 m.2 (s.residents m.1) else s.dispatchable m.1 m.2

/-- The gangs of a queue that can be dispatched, the members each with its core (R39). -/
def State.gangsOfQueue (s : State) (g q : Nat) : List (List (Nat × Entry)) :=
  let mode := Tbl.get 0 (s.clusterOf g).mode q
  if mode = 0 ∨ 16 ≤ q then []
  else
    let cores := gangCores g (mode = 2)
    ((gangsIn ((s.clusterOf g).queue q) cores.length).map cores.zip).filter fun ms => s.gangReady ms false

/-- Whether an entry has a finite deadline (R51). -/
def Entry.finite (e : Entry) : Bool := e.deadline ≠ 0xFFFFFFFFFFFFFFFF

/-- The rank of a gang of queue q of cluster g. DESIGN CHOICE: that of its earliest-ranked member (R39, log 196). -/
def gangRank (g q : Nat) (ms : List (Nat × Entry)) : Option Ranked :=
  firstRanked (ms.map fun m => { deadline := m.2.deadline, ticket := m.2.ticket, cluster := g, pick := .entry g q m.2 })

/-- The gangs that can be dispatched to a core, with their ranks: those of its cluster and those of its stack (R39). -/
def State.gangsNear (s : State) (n : Nat) : List (Option Ranked × List (Nat × Entry)) :=
  [clusterOfCore n, 8 * stackOfCore n].eraseDups.flatMap fun g => (List.range 16).flatMap fun q =>
    (s.gangsOfQueue g q).map fun ms => (gangRank g q ms, ms)

/-- Whether a member without a deadline gives way to an entry with one that its core can be given alone (R51). -/
def State.givesWay (s : State) (ms : List (Nat × Entry)) : Bool := ms.any fun m => !m.2.finite && (s.bestFor m.1).any Ranked.finite

/-- Whether a rank is earlier than another. -/
def rankedBefore : Option Ranked → Option Ranked → Bool
  | some x, some y => x.before y
  | _, _ => false

/-- Whether a gang that can be dispatched has a member with a finite deadline for a core (R39, R51). -/
def State.finiteGangOn (s : State) (n : Nat) : Bool :=
  (s.gangsNear n).any fun k => !s.givesWay k.2 && k.2.any fun m => m.1 = n && m.2.finite

/-- Whether a gang may go as R51 has it: none of its members without a deadline has on its core an entry with one, alone or in another gang. Of two
gangs that would each wait for the other in this the earlier goes (log 196). -/
def State.gangMayGo (s : State) (rank : Option Ranked) (ms : List (Nat × Entry)) : Bool :=
  !s.givesWay ms && !ms.any fun m => !m.2.finite && (s.gangsNear m.1).any fun k =>
    !s.givesWay k.2 && (k.2.any fun x => x.1 = m.1 && x.2.finite) && ((k.2.all fun x => x.2.finite) || rankedBefore k.1 rank)

/-- The gang that a queue dispatches: the first in rank of those that may go. -/
def State.gangOfQueue (s : State) (g q : Nat) : Option (List (Nat × Entry)) :=
  let ready := ((s.gangsOfQueue g q).map fun ms => (gangRank g q ms, ms)).filter fun k => s.gangMayGo k.1 k.2
  (ready.foldl (fun (m : Option (Option Ranked × List (Nat × Entry))) k => match m with
    | none => some k
    | some y => if rankedBefore k.1 y.1 then some k else m) none).map (·.2)

/-- Whether a pick may be dispatched to a core while a gang with a finite deadline can be (R51). -/
def State.finiteFirst (s : State) (n : Nat) (x : Ranked) : Bool := x.finite || !s.finiteGangOn n

/-! ### Halt and eviction (R19, R49, R330, R332) -/

/-- A context whose halt withdraws its SYNC leaves its gang's list of arrivals. -/
def State.withdraw (s : State) (uid : Nat) : State :=
  { s with gangs := s.gangs.map fun g => (g.1, if g.2.restart.isSome then g.2 else { g.2 with arrived := removeNat uid g.2.arrived }) }

/-- Begins the eviction of a context; its core is free (R321). DESIGN CHOICE: a parked member that waits at its SYNC withdraws its arrival when it is
evicted for room too, as R332 has it of a halt, and arrives again once it is back (R41, log 195). -/
def State.beginEvict (s : State) (uid why : Nat) (report : Option (BitVec 512)) : State :=
  match s.ctx? uid with
  | none => s
  | some c =>
    let s := ((s.mapCtx uid fun c => c.halt why report).withdraw uid).mapCore c.id.core fun k =>
      { k with fetch := k.fetch.filter fun f => f.1 ≠ uid }
    if (s.coreOf c.id.core).cur = some uid then s.mapCore c.id.core fun k => { k with cur := none, waited := 0, source := 0 }
    else s

/-- The victim of R19: the evictable resident of the latest rank. -/
def State.victim? (s : State) (n : Nat) : Option Nat :=
  ((s.residents n).filter fun e => e.2.evictable).foldl (fun m e => match m with
    | none => some e
    | some x => if rankLess x.2.id.deadline x.2.id.ticket e.2.id.deadline e.2.id.ticket then some e else m) none |>.map (·.1)

/-! ### Fresh starts (R23, R54, R111, R138, R286, R294) -/

/-- The declared budget of a record: 0 reads as 0xFFFF_FFFF (R23). -/
def budgetOf (x : W32) : W32 := if x = 0 then 0xFFFFFFFF else x

/-- The debug template of a PASID (R294). -/
def Template.dbg (t : Template) : Dbg :=
  { Dbg.fresh with dctl := t.dctl, bk := t.bk, wa := t.wa, wc := t.wc, dtlen := t.dtlen, speriod := t.speriod }

/-- The run that a dispatch starts: new, or the replay of one (R353, R354). -/
def runOf (r : BitVec 512) (home : Option W64) (replay : Option Run) : Run :=
  match replay with
  | none => { Run.fresh with record := r, account := recWeight r, home := home }
  | some x => { x with record := r, suppress := x.accepted, again := x.held }

/-- The context of a fresh record. DESIGN CHOICE: the share is held as the object table has it, and a spawned record whose partition exceeds it, which
no check of SPAWN refuses, has the rows and the trail that it asks for and no scratchpad (R53, log 172). -/
def freshContext (r : BitVec 512) (o : ObjEntry) (slot core home : Nat) (ticket : W64) (gang : Option Nat)
    (block : Option (W64 × W64)) (t : Template) (replay : Option Run) : Context :=
  { Context.fresh with
    id := { Ident.fresh with
      pasid := recPasid r
      world := recWorld r
      slot := slot
      obj := recObj r
      hash := o.hash
      base := o.base
      clen := o.clen
      share := o.share
      part := recPart r
      homeq := recHomeq r
      home := home
      deadline := recDeadline r
      ticket := ticket
      gang := gang
      core := core
      block := block.map (·.1)
      homeVa := (block.map (·.2)).getD 0 }
    regs := ((Regs.fresh.writeA 1 (recArg r 0)).writeA 2 (recArg r 1)).writeA 3 (recArg r 2)
    sys := { Sys.fresh with tvec := o.tvec, qdi := recQd r, myw := recWeight r }
    flow := { Flow.fresh with pc := recOffset r }
    budget := { Budget.fresh with declared := budgetOf (recBudget r), counter := budgetOf (recBudget r) }
    run := runOf r (if recQd r = (0xFFFFFFFF : W32) then none else block.map (·.1)) replay
    dbg := t.dbg }

/-- What the tables say for a fresh record: entry and block with its virtual address, a wait, or a failure. -/
inductive Tables where
  | ok (o : ObjEntry) (block : Option (W64 × W64))
  | wait
  | bad (code reason : Byte) (unit va : Nat)
  deriving DecidableEq, Repr

/-- Reads the object-table entry and the domain's block for a fresh record (R43, R286). -/
def State.readTables (s : State) (n : Nat) (r : BitVec 512) (reader : Reader) : State × Tables :=
  match s.bind? (recPasid r) with
  | none => (s, .bad 0x20 1 0 0)
  | some b =>
    let at_ := b.objectAt (recObj r).toNat
    match s.readTable (recAgent r n reader) at_ 32 with
    | (s, .wait, _) => (s, .wait)
    | (s, .fail code e, _) => (s, .bad code e (s.unitOfFault (recAgent r n) code e at_) at_)
    | (s, .at_ k, x) =>
      if s.isPoisoned k 32 then (s, .bad 0x30 2 (lineVa at_) at_)
      else if recQd r = (0xFFFFFFFF : W32) then (s, .ok (objOf x) none)
      else match s.nameDomain (recAgent r n reader) (recQd r).toNat with
        | (s, .block key va) => (s, .ok (objOf x) (some (BitVec.ofNat 64 key, BitVec.ofNat 64 va)))
        | (s, .wait) => (s, .wait)
        | (s, .bad code e unit va) => (s, .bad code e unit va)

/-- Removes an entry from its queue. -/
def State.dequeue (s : State) (g q : Nat) (e : Entry) : State := s.mapCluster g fun c => c.setQueue q ((c.queue q).erase e)

/-- A fault report without a context (R322). -/
def bareReport (s : State) (core : Nat) (code reason : Byte) (r : BitVec 512) (unit va record : Nat) (kind slot : Nat) : BitVec 512 :=
  let x := recSet 0 0 8 code.toNat
  let x := recSet x 1 8 reason.toNat
  let x := recSet x 2 16 core
  let x := recSet x 4 32 (whoOf (recPasid r) (recWorld r))
  let x := recSet x 8 64 s.mcc.toNat
  let x := recSet x 16 64 record
  let x := recSet x 24 64 (tpcOf (recObj r) (recOffset r)).toNat
  let x := recSet x 32 64 unit
  let x := recSet x 40 64 va
  let x := recSet x 51 8 kind
  recSet x 52 32 slot

/-- Whether a fresh record owes its domain no weight. -/
def owesNothing (r : BitVec 512) : Bool := recQd r = (0xFFFFFFFF : W32) || recWeight r = 0

/-- A fresh record whose tables cannot be read is reported and ended, its weight returned with the faulted flag set (R30, see the log); it
stays in its queue while the page of the domain's block is still to come, so that no weight is lost (R46). -/
def State.dropFresh (s : State) (n g q : Nat) (e : Entry) (r : BitVec 512) (code reason : Byte) (unit va : Nat) : State :=
  let gone (s : State) : State := (s.dequeue g q e).sendFault (bareReport s n code reason r unit va 0 0 0)
  if owesNothing r then gone s
  else match s.nameDomain (recAgent r n (.entry g q e.ticket)) (recQd r).toNat with
    | (s, .block key _) => (gone s).giveBack key (recWeight r) true
    | (s, .wait) => s
    | (s, .bad _ _ _ _) => gone s

/-- A context takes a core; a switch to it is the stall source 9 of its next bundle (R22, R300). -/
def State.occupy (s : State) (n uid switch : Nat) : State :=
  s.mapCore n fun k => { k with cur := some uid, switch := switch, waited := 0, source := if switch = 0 then 0 else 9 }

/-- A replayed member takes the place of the one that was discarded (R39, R352). -/
def State.rejoin (s : State) (gang : Option (Nat × Nat)) (uid : Nat) : State :=
  match gang with
  | none => s
  | some (g, old) => { s with gangs := Tbl.update (fun k => { k with
      members := k.members.map fun m => if m = old then uid else m
      arrived := removeNat old k.arrived }) s.gangs g }

/-- Starts a fresh record on a core: the dispatch is an acquire, so the tables are read as they are now (R260, R262); an entry whose share, as
read, finds no room stays where it is (R37, R54). -/
def State.startFresh (s : State) (n g q : Nat) (e : Entry) (r : BitVec 512) (gang : Option Nat) : State :=
  match s.dropCopies.readTables n r (.entry g q e.ticket) with
  | (s, .wait) => s
  | (s, .bad code reason unit va) => s.dropFresh n g q e r code reason unit va
  | (s, .ok o block) => match s.bind? (recPasid r) with
    | none => s
    | some b =>
      if !fitsBeside (s.residents n) o.share [] then s
      else match s.freeSlot? (recPasid r) b.saven with
      | none => s
      | some slot =>
        let c := freshContext r o slot n g e.ticket (gang.orElse fun _ => e.gang.map (·.1)) block (Tbl.get Template.fresh s.templates (recPasid r).toNat) e.replay
        let s := s.dequeue g q e
        let uid := s.nextUid
        let s := { s with ctxs := Tbl.put s.ctxs uid c, nextUid := uid + 1 }
        (s.rejoin e.gang uid).occupy n uid 0

/-- The run that a resumption starts: the replay that the record stopped in the middle goes on (R354, log 168). -/
def Run.resumed (x : Run) (r : BitVec 512) (home : Option W64) (replay : Option Run) : Run :=
  if replay.isNone && !(x.suppress.isEmpty && x.again.isEmpty) then { x with record := r } else runOf r home replay

/-- Takes an evicted context back to a core: its image is on the way (R336), from which a replay of this run starts (R352). DESIGN CHOICE: of the
fields of a context-resume record that system software has changed DEADLINE takes effect, as a part of the entry's rank, and the image's own values stand
for the others (R25, log 197). -/
def State.startResume (s : State) (n g q : Nat) (e : Entry) (uid : Nat) (r : BitVec 512) : State :=
  let s := match s.ctx? uid with
    | some c => { s with images := Tbl.put s.images uid (s.imageOf uid c) }
    | none => s
  let s := (s.dequeue g q e).mapCtx uid fun c => { c with
    id := { c.id with status := .restoring, core := n, home := g, ticket := e.ticket, deadline := e.deadline, marked := false }
    run := c.run.resumed r c.homeNow e.replay }
  (s.occupy n uid 0).dropCopies

/-- A resident that is ready takes its core; the switch takes 24 cycles (R18). -/
def State.switchTo (s : State) (n uid : Nat) : State :=
  (s.mapCtx uid fun c => { c with id := { c.id with status := .running } }).occupy n uid 24

/-- The entry that a core makes room for, as long as it waits in its queue and can be dispatched there (R19, R37). DEDUCED: the
evictions are part of the dispatch that the core chose when it became idle. -/
def State.claimed (s : State) (n : Nat) : Option Ranked :=
  match (s.coreOf n).room with
  | none => none
  | some r => (((s.clusterOf r.1).queue r.2.1).find? fun e =>
      e.ticket = r.2.2 && (s.clusterOf r.1).single r.2.1 e && s.dispatchable n e).map fun e =>
    { deadline := e.deadline, ticket := e.ticket, cluster := r.1, pick := .entry r.1 r.2.1 e }

/-- The next eviction that room for an entry takes (R19); none while those in course will make the room. -/
def State.makeRoom (s : State) (n : Nat) (e : Entry) : Option State :=
  if s.mayTake n e (stayers (s.residents n)) then none else (s.victim? n).map fun v => s.beginEvict v 0 none

/-- Gives an idle core what R37 and R38 choose for it, or begins an eviction to make room (R19). -/
def State.give (s : State) (n : Nat) (x : Ranked) : Option State :=
  match x.pick with
  | .resident uid => some (s.switchTo n uid)
  | .entry g q e =>
    let promise (s : State) : State := s.mapCore n fun k => { k with room := some (g, q, e.ticket) }
    if !s.mayTake n e (s.residents n) then (s.makeRoom n e).map promise
    else match e.body with
      | .fresh r =>
        let s := s.startFresh n g q e r none
        some (if ((s.clusterOf g).queue q).contains e then promise s else s)
      | .resume uid r => some (s.startResume n g q e uid r)

/-- What a core that is idle takes now: the entry it makes room for, or the best; one without a deadline only where no entry with one can be
dispatched on the core, alone or with its gang (R51, log 157). -/
def State.pickFor (s : State) (n : Nat) : Option Ranked :=
  let x := match s.claimed n, s.bestFor n with
    | some x, some y => if !x.finite && y.finite then some y else some x
    | some x, none => some x
    | none, y => y
  x.filter (s.finiteFirst n)

/-- DISPATCH (R37, R38, R51). -/
def execDispatch (n : Nat) (s : State) : Out :=
  if (s.coreOf n).cur.isSome || decide (1024 ≤ n) || s.mail.failed then .refused .notPending
  else match s.pickFor n with
    | none => .refused .notPending
    | some x => match (s.mapCore n fun k => { k with room := none }).give n x with
      | some s' => .next s'
      | none => .refused .notPending

/-! ### Gangs (R39) -/

/-- A member that lacks room: first one for which no eviction in course makes it. -/
def State.gangLacks (s : State) (ms : List (Nat × Entry)) : Option (Nat × Entry) :=
  match ms.find? fun m => !s.mayTake m.1 m.2 (stayers (s.residents m.1)) with
  | some m => some m
  | none => ms.find? fun m => !s.mayTake m.1 m.2 (s.residents m.1)

/-- The members' tables can be read at once, or what is owed for a member whose tables cannot be read can be given back at once. -/
def State.gangTables (s : State) (g q : Nat) : List (Nat × Entry) → State × Bool
  | [] => (s, true)
  | m :: t => match m.2.body with
    | .fresh r => match s.readTables m.1 r (.entry g q m.2.ticket) with
      | (s, .ok _ _) => s.gangTables g q t
      | (s, .wait) => (s, false)
      | (s, .bad _ _ _ _) =>
        if owesNothing r then s.gangTables g q t
        else match s.nameDomain (recAgent r m.1 (.entry g q m.2.ticket)) (recQd r).toNat with
          | (s, .wait) => (s, false)
          | (s, _) => s.gangTables g q t
    | .resume _ _ => s.gangTables g q t

/-- Starts the members of a gang, each bound to its core. -/
def State.startGang (s : State) (g q gang : Nat) : List (Nat × Entry) → State
  | [] => s
  | m :: t => match m.2.body with
    | .fresh r => (s.startFresh m.1 g q m.2 r (some gang)).startGang g q gang t
    | .resume uid r => (s.startResume m.1 g q m.2 uid r).startGang g q gang t

/-- A number that no gang has. -/
def State.freshGang (s : State) : Nat := s.gangs.foldl (fun m g => max m (g.1 + 1)) 0

/-- The contexts of a gang in core order. -/
def State.gangMembers (s : State) (gang : Nat) : List Nat := (s.ctxs.filter fun e => e.2.id.gang = some gang).map (·.1)

/-- GANG_DISPATCH (R39): every member at once, each to its core, in ticket order; where one cannot start, for want of a save slot among the
gang, none does. A member without a deadline gives way to an entry with one (R51). -/
def execGangDispatch (g q : Nat) (s : State) : Out :=
  match s.gangOfQueue g q with
  | none => .refused .notPending
  | some ms => match s.gangLacks ms with
    | some m => match s.makeRoom m.1 m.2 with
      | some s => .next s
      | none => .refused .notPending
    | none =>
      let (s, ready) := s.gangTables g q ms
      if !ready then .next s
      else
        let gang := s.freshGang
        let s := s.startGang g q gang ms
        if ms.any fun m => ((s.clusterOf g).queue q).contains m.2 then .refused .notPending
        else
          let k : Gang := { stack := decide (128 ≤ ms.length), members := s.gangMembers gang, arrived := [], restart := none }
          .next { s with gangs := Tbl.put s.gangs gang k }

end Sys2Proof.Machine
end

