-- ==== Sys2Proof/Machine/Save.lean ====
section
/-! DEFINITION. What a save slot holds beside the record (R19, R20, R65, R284, R335, R336): the image, the ingots, the claimed slots with
their side areas, and how a resumption reads them back. -/

namespace Sys2Proof.Machine

/-! ### Layout (R20, R55) -/

/-- Offset of the image in a save slot (R20). -/
def imageOffset : Nat := 65536

/-- Bytes of a claimed slot with its side area (R63, R64). -/
def slotBytes : Nat := 32768 + 4096

/-- Where the accumulator ingots begin, counted from the image. DESIGN CHOICE: the image is the first register-file ingot, the others follow
it, then the accumulator, trail and scratchpad ingots in the order in which R19 names them (log 160). -/
def Context.accAt (c : Context) : Nat := 65536 * rfIngots c.id.part

/-- Where the trail ingots begin. -/
def Context.trailAt (c : Context) : Nat := c.accAt + 65536 * accIngots c.id.part

/-- Where the scratchpad ingots begin. -/
def Context.scrAt (c : Context) : Nat := c.trailAt + 65536 * trailIngots c.id.part

/-- Where the claimed slots begin. -/
def Context.slotsAt (c : Context) : Nat := c.scrAt + c.scrSize

/-- Bytes of the image, the ingots and the claimed slots. -/
def Context.areaSize (c : Context) : Nat := c.slotsAt + slotBytes * c.slots.length

/-- The pages of a save slot that an eviction writes: that of the record, then those of the image and what follows it. -/
def Context.savePages (c : Context) (base : Nat) : List Nat :=
  base :: (List.range ((c.areaSize + 4095) / 4096)).map fun i => base + imageOffset + 4096 * i

/-! ### Bytes -/

/-- n bytes of which only the device knows the meaning. -/
def freeBytes (tick at_ n : Nat) : List Byte := (List.range n).map fun i => Config.savedByte tick (at_ + i)

/-- The bytes of an operand slot: 128 rows, then the side area (R63, R64). -/
def slotData (x : Tbl VecV × Tbl (BitVec 256)) : List Byte :=
  ((List.range 128).flatMap fun j => leBytes 256 (Tbl.get 0 x.1 j).toNat) ++ (List.range 128).flatMap fun j => leBytes 32 (Tbl.get 0 x.2 j).toNat

/-- What an eviction writes from the image on. The image and the trail have no layout of the manual's: their bytes are free values. -/
def Context.area (c : Context) (om : Tbl (Tbl VecV × Tbl (BitVec 256))) (tick : Nat) : List Byte :=
  freeBytes tick 0 65536 ++ List.replicate (65536 * (rfIngots c.id.part - 1)) 0 ++
    ((List.range c.accRows).flatMap fun r => leBytes 512 (Tbl.get 0 c.mem.acc r).toNat) ++
    freeBytes tick c.trailAt (65536 * trailIngots c.id.part) ++
    ((List.range (c.scrSize / 64)).flatMap fun w => leBytes 64 (scrWord c.mem.scr w).toNat) ++
    c.slots.flatMap fun n => slotData (Tbl.get ([], []) om n)

/-- The lines of the area that a poisoned unit covers (R343). -/
def Context.areaMarks (c : Context) (omPoison : List Nat) : List Nat :=
  let lines (at_ n : Nat) : List Nat := (List.range (n / 64)).map (· + at_ / 64)
  (c.mem.accPoison.map fun w => c.accAt / 64 + w) ++ (c.mem.trailPoison.map fun w => c.trailAt / 64 + w) ++
    (c.mem.scrPoison.map fun w => c.scrAt / 64 + w) ++ ((List.range c.slots.length).zip c.slots).flatMap fun s =>
      (omPoison.filter fun l => markSlot l = s.2).flatMap fun l => lines (c.slotsAt + slotBytes * s.1 + 256 * (l % 128)) 256

/-- Writes bytes to some pages, 4096 to each. -/
def State.storePages (s : State) : List Nat → List Byte → State
  | [], _ => s
  | k :: ks, bs => (s.store k (bs.take 4096)).storePages ks (bs.drop 4096)

/-- The place of line l of some pages. -/
def lineIn (keys : List Nat) (l : Nat) : Nat := keys.getD (l / 64) 0 + 64 * (l % 64)

/-- Writes the image, the ingots and the claimed slots of a context to the pages of its save slot, with their marks. -/
def State.storeArea (s : State) (c : Context) (keys : List Nat) : State :=
  let k := s.coreOf c.id.core
  let s := s.storePages keys (c.area k.om s.tick)
  (c.areaMarks k.omPoison).foldl (fun s l => s.poisonLines (lineIn keys l) 64) s

/-! ### The way back (R336) -/

/-- A table from its entries. -/
def tblOf {α : Type} [DecidableEq α] (d : α) (n : Nat) (f : Nat → α) : Tbl α := (List.range n).foldl (fun t i => Tbl.set d t i (f i)) []

/-- A little-endian number of n bytes at an offset. -/
def numAt (bs : List Byte) (off n : Nat) : Nat := leNat ((bs.drop off).take n)

/-- A context with the ingots and slots that an area holds; `bad` tells the poisoned lines. -/
def Context.restored (c : Context) (bs : List Byte) (bad : Nat → Bool) : Context :=
  let marked (at_ n : Nat) : Bool := (linesOf at_ n).any bad
  let slotAt (i : Nat) : Nat := c.slotsAt + slotBytes * i
  let slots := (List.range c.slots.length).zip c.slots
  { c with mem := { c.mem with
    acc := tblOf 0 c.accRows fun r => BitVec.ofNat 4096 (numAt bs (c.accAt + 512 * r) 512)
    accPoison := (List.range (8 * c.accRows)).filter fun w => bad (c.accAt / 64 + w)
    trailPoison := (List.range (1024 * trailIngots c.id.part)).filter fun w => bad (c.trailAt / 64 + w)
    scr := tblOf 0 (c.scrSize / 64) fun w => BitVec.ofNat 512 (numAt bs (c.scrAt + 64 * w) 64)
    scrPoison := (List.range (c.scrSize / 64)).filter fun w => bad (c.scrAt / 64 + w)
    savedOm := slots.foldl (fun t s => Tbl.set ([], []) t s.2
      (tblOf 0 128 fun j => BitVec.ofNat 2048 (numAt bs (slotAt s.1 + 256 * j) 256),
       tblOf 0 128 fun j => BitVec.ofNat 256 (numAt bs (slotAt s.1 + 32768 + 32 * j) 32))) []
    savedPoison := slots.flatMap fun s =>
      (((List.range 128).filter fun j => marked (slotAt s.1 + 256 * j) 256).map (· + 128 * s.2)) ++
        ((List.range 128).filter fun j => marked (slotAt s.1 + 256 * j) 256 || marked (slotAt s.1 + 32768 + 32 * j) 32).map fun j =>
          sideMark (128 * s.2 + j) } }

/-- Reads a context's ingots and slots back from the pages of its save slot. -/
def State.readArea (s : State) (c : Context) (keys : List Nat) : Context :=
  if c.id.stored then c.restored (keys.flatMap fun k => s.bytes k 4096) fun l => s.isPoisoned (lineIn keys l) 64 else c

end Sys2Proof.Machine
end

