-- ==== Sys2Proof/Machine/Evict.lean ====
section
/-! DEFINITION. The end of an eviction and the return of an image (R19, R20, R49, R330, R335, R336), parking (R22), the end of a run
by END, SUSP, KILL or divergence (R32, R33, R323, R356), and its replay after a reset (R351 to R354). -/

namespace Sys2Proof.Machine

/-! ### Eviction (R330, R335) -/

/-- Whether a gather can land a row now. -/
def Context.gatherMoves (c : Context) (g : Gather) : Bool :=
  !g.queue.isEmpty && decide (g.phase = .waiting) && teSt (c.te g.te.toNat) = teFilling

/-- The number of bytes of a copy's dependence counter, and their address. -/
def State.countOf (s : State) (uid : Nat) (c : Context) (x : Copy) : List (Nat × Nat) := s.counterParts uid (c.agentOf uid x.id) x

/-- The engine threads that run to completion before a halt is complete (R330). -/
def State.runsThrough (s : State) (uid : Nat) (c : Context) : List Copy × List Gather :=
  let st := s.stuck uid c false
  (c.mem.copies.filter fun x => !c.mem.copyStays (s.popBefore uid) (s.countOf uid c) st x,
   c.mem.gathers.filter fun g => c.gatherMoves g && !c.mem.gatherStays (s.popBefore uid) st g)

/-- The accesses of a context that perform before its halt is complete (R264, R332), those among them that an engine thread waits for which the
halt does not cut (R330). -/
def State.mustLand (s : State) (uid : Nat) (c : Context) : List Nat :=
  let on := s.runsThrough uid c
  c.mem.mustLand (s.stuck uid c false) fun e =>
    (on.1.any fun x => c.mem.accHoldsCopy (s.countOf uid c) x e) || on.2.any fun g => c.mem.accHoldsGather g e

/-- Whether nothing still reads or writes what an eviction saves. DESIGN CHOICE: a claimed slot that TSET or TDRAIN has left FILLING or DRAINING, with no
engine thread on its way to serve it, is saved in that state: nothing could end it (R65, log 198). -/
def State.settled (s : State) (uid : Nat) (c : Context) : Bool :=
  let on := s.runsThrough uid c
  on.1.isEmpty && on.2.isEmpty && c.mem.divs.isEmpty && (c.mem.scats.all fun x => x.failed) && (s.mustLand uid c).isEmpty

/-- The context-resume record of a context whose save slot lies at an address (R20, R23, R24, R49). -/
def Context.resumeRecord (c : Context) (base : Nat) : BitVec 512 :=
  let r := recSet 0 0 16 c.id.obj.toNat
  let r := recSet r 2 32 c.flow.pc.toNat
  let r := recSet r 6 16 (1 + if c.budget.mark then 2 else 0)
  let r := recSet r 8 64 c.id.deadline.toNat
  let r := recSet r 16 32 c.budget.counter.toNat
  let r := recSet r 20 32 c.id.part.toNat
  let r := recSet r 24 32 (whoOf c.id.pasid c.id.world + 2 ^ 21 * c.id.homeq.toNat)
  let r := recSet r 28 32 c.sys.qdi.toNat
  let r := recSet r 32 64 c.sys.myw.toNat
  recSet r 40 64 (base + 65536)

/-- Saves the claimed slots of a context and frees them on its core (R65, R233). -/
def State.saveSlots (s : State) (uid : Nat) (c : Context) : State :=
  let k := s.coreOf c.id.core
  let mine (n : Nat) : Bool := c.slots.contains n
  let s := s.mapCtx uid fun c => { c with mem := { c.mem with
    savedOm := k.om.filter fun e => mine e.1
    savedPoison := k.omPoison.filter fun l => mine (markSlot l) } }
  s.mapCore c.id.core fun k => { k with
    om := k.om.filter fun e => !mine e.1
    omPoison := k.omPoison.filter fun l => !mine (markSlot l)
    owner := if k.owner = some uid then none else k.owner }

/-- Writes a record's address to the list buffer of the PREEMPT in course, or notes that the buffer is full (R283). -/
def State.listRecord (s : State) (addr : W64) : State :=
  match s.mail.preempt with
  | none => s
  | some p =>
    let put (s : State) (p : Preempt) : State := { s with mail := { s.mail with preempt := some p } }
    if p.listed < p.capacity then
      put (s.store (keyOf s.fabric.hdm (p.buffer + 8 * p.listed)) (leBytes 8 addr.toNat)) { p with listed := p.listed + 1 }
    else put s { p with pending := p.pending ++ [addr] }

/-- What becomes of a record whose eviction is complete: the device offers it again, lists it for PREEMPT, reports it, or
leaves it to the Hearth (R19, R49, R321). -/
def State.afterEviction (s : State) (uid why base : Nat) (report : Option (BitVec 512)) (c : Context) (r : BitVec 512) : State :=
  match why with
  | 0 =>
    if c.id.atQwait then s
    else
      let s := s.mapCtx uid fun c => { c with id := { c.id with marked := false } }
      s.mapCluster c.id.home fun g => g.insert c.id.homeq.toNat
        { body := .resume uid r, deadline := c.id.deadline, ticket := c.id.ticket, stamp := none, spilled := false, replay := none,
          bound := c.id.gang.map fun _ => c.id.core, gang := none }
  | 1 => if c.id.atQwait then s else s.listRecord (BitVec.ofNat 64 base)
  | 2 => match report with
    | none => s
    | some x => s.sendFault (recSet (recSet x 16 64 base) 48 16 (s.pendingFaults uid c))
  | _ => s

/-- A save slot that cannot be reached: the context stays halted and resident, without a record; the report names the address (R335). -/
def State.haltUnsaved (s : State) (uid why : Nat) (code reason : Byte) (unit va : Nat) (c : Context) : State :=
  let x : Cause := { code := code, reason := reason, slot := 0, off := c.flow.pc, tinfo := BitVec.ofNat 64 unit, va := BitVec.ofNat 64 va,
                     kind := 1 }
  let s := s.mapCtx uid fun c => { c with id := { c.id with status := .halted why } }
  s.sendFault (recSet (faultReport c.id.core c s.mcc x) 48 16 (s.pendingFaults uid c))

/-- A record is written for a run, which ends there (R351). What a replay has still to match of the first run's accepted work and to receive of its
deliveries goes on with the record, so that nothing is done twice (R354). DEDUCED (log 168). -/
def Run.closed (x : Run) (record : BitVec 512) : Run :=
  if x.suppress.isEmpty && x.again.isEmpty then { Run.fresh with record := record }
  else { x with record := record, accepted := x.suppress, held := x.again }

/-- Writes the record, the image, the ingots and the claimed slots to the pages of the save slot; the context's ingots and slots are free
(R19, R20, R65, R335). -/
def State.saveImage (s : State) (uid why base : Nat) (keys : List Nat) (report : Option (BitVec 512)) (c : Context) : State :=
  let r := c.resumeRecord base
  let s := ((s.storeBlock (keys.headD 0) r).storeArea c (keys.drop 1)).saveSlots uid c
  let s := s.mapCtx uid fun c => { c with
    id := { c.id with status := .evicted, marked := true, stored := true }
    budget := { c.budget with mark := false, started := false }
    run := c.run.closed r }
  s.afterEviction uid why base report c r

/-- EVICTION_COMPLETES (R19, R330, R335); the image of a context that waits at QWAIT goes where its record has been written (R20, R47). DESIGN CHOICE: an
eviction, like the fetch of an overlay, that has begun before a BINDPASID goes by the new binding: R284 keeps the old one for operations issued
(log 205). -/
def execEvictionCompletes (uid : Nat) (s : State) : Out :=
  match s.ctx? uid with
  | none => .refused .notPending
  | some c => match c.id.status with
    | .evicting why report =>
      if !s.settled uid c then .refused .notPending
      else
        let base := if c.id.atQwait then c.savedBase else s.recordAddr c
        match s.reachPages (c.reads (.image uid)) .write (c.savePages base) with
        | (s, .at_ keys) => .next (s.saveImage uid why base keys report c)
        | (s, .wait) => .next s
        | (s, .fail code reason unit va) => .next (s.haltUnsaved uid why code reason unit va c)
    | _ => .refused .notPending

/-! ### Resumption (R336) -/

/-- TINFO of a fetch fault (R328). -/
def Context.fetchInfo (c : Context) : W64 :=
  match c.flow.last with
  | none => 0
  | some off =>
    (if c.flow.lastTx then 0x8000000000000000 else 0) ||| (if c.flow.lastLoop then 0x4000000000000000 else 0) ||| tpcOf c.id.obj off

/-- A record that cannot be resumed is reported, holds no core, and stands marked again so that it can be written or killed. -/
def State.notResumed (s : State) (uid : Nat) (c : Context) (code reason : Byte) (tinfo va : W64) (kind : Byte) : State :=
  let x : Cause := { code := code, reason := reason, slot := 0, off := c.flow.pc, tinfo := tinfo, va := va, kind := kind }
  let s := s.mapCtx uid fun c => { c with id := { c.id with status := .evicted, marked := true } }
  let s := s.mapCore c.id.core fun k => if k.cur = some uid then { k with cur := none } else k
  s.sendFault (recSet (recSet (faultReport c.id.core c s.mcc x) 16 64 c.savedBase) 48 16 (s.pendingFaults uid c))

/-- An access is issued again: one that had failed or waited for its page walks afresh. -/
def Acc.again (a : Acc) : Acc := if a.phase = .waiting then a else { a with phase := .waiting, placed := [] }

/-- A gather from scratchpad reads again what had been poisoned (R344). -/
def Scatter.again (m : MemSide) (x : Scatter) : Scatter :=
  if x.failed then
    { x with
      failed := false
      data := mkV fun n => BitVec.ofNat 32 (leNat (scrBytes m.scr (x.offs.getD n 0) 4))
      bad := (x.offs.findSome? fun o => (linesOf o 4).find? fun l => m.scrPoison.contains l).map (64 * ·) }
  else x

/-- Every pending entry and remainder is issued again (R331, R336 step 4). -/
def MemSide.reissue (m : MemSide) : MemSide :=
  { m with
    outs := m.outs.map Acc.again
    scats := m.scats.map (Scatter.again m)
    copies := m.copies.map fun x => { x with paged := [], failed := none, quench := false }
    gathers := m.gathers.map fun g => { g with phase := .waiting }
    pops := []
    savedOm := []
    savedPoison := [] }

/-- What the gate writes of an outgoing copy (R353). -/
def Copy.key? (x : Copy) : Option AccKey := match x.kind with
  | .s2g => some { kind := kCs2g, target := 0 }
  | .g2g => some { kind := kCg2g, target := 0 }
  | .xred => some { kind := kCxred, target := x.dst.toNat }
  | .g2s | .g2o | .s2o => none

/-- An access that a resumption issues again passes the gate; one that the first try of the run had accepted is left out (R336, R353,
R354). -/
def Context.regateAcc (c : Context) (a : Acc) : Context :=
  match a.key? with
  | none => c
  | some key => match c.gateOf key with
    | .suppressed =>
      let c := c.gate key
      { c with mem := { c.mem with outs := c.mem.outs.filter fun e => e.id ≠ a.id } }
    | _ => c.gate key

/-- The remainder of an outgoing copy passes the gate; one that is left out counts what it lacked into its entry (R354). -/
def Context.regateCopy (c : Context) (x : Copy) : Context :=
  match x.key? with
  | none => c
  | some key => match c.gateOf key with
    | .suppressed =>
      let c := c.gate key
      let c := { c with mem := { c.mem with copies := c.mem.copies.filter fun y => y.id ≠ x.id } }
      match x.te with
      | some t => c.countTile t.toNat (decide (x.kind = .g2g)) (sumNat (x.left.map x.sectorSize)) x.off x.bclk
      | none => c
    | _ => c.gate key

/-- The pending operations of an image, those that could not perform without their context among them, pass the gate in the order in which they are
issued again (R336 step 4, R353). -/
def Context.regate (c : Context) (st : List Nat) : Context :=
  let c := (c.mem.outs.filter fun a => st.contains a.id).foldl Context.regateAcc c
  c.mem.copies.foldl Context.regateCopy c

/-- Gives a context its slots back (R65). -/
def Core.restoreSlots (k : Core) (uid : Nat) (c : Context) : Core :=
  { k with
    om := c.mem.savedOm.foldl (fun t e => Tbl.put t e.1 e.2) k.om
    omPoison := c.mem.savedPoison.foldl (fun p l => insertNat l p) k.omPoison
    owner := if c.slots.isEmpty then k.owner else some uid }

/-- The context continues at its halt point, a wake queue that a cause kept being propagated first (R171); one that the debugger
stopped stays stopped (R295, R298, R336), DSTAT tells that any other runs (R294) unless it holds a hit still to be taken (R338), and one whose core a barrier has taken back meanwhile is ready (R41). -/
def State.resumed (s : State) (uid : Nat) (c : Context) (o : ObjEntry) : State :=
  let s := s.mapCore c.id.core fun k => k.restoreSlots uid c
  let p := c.regate (s.stuck uid c true)
  let c' : Context := { p with
    mem := p.mem.reissue
    swage := if c.trap.handler || c.swage.busy then c.swage else c.swage.begin
    flow := { p.flow with exempt := true }
    budget := { c.budget with started := false }
    id := { p.id with
      status := if c.id.stopped then .stopped else if (s.coreOf c.id.core).cur = some uid then .running else .ready
      clen := o.clen
      base := o.base
      stored := false }
    dbg := if c.id.stopped || c.flow.causes.any (fun x => x.code = 0x28) then p.dbg else { p.dbg with dstat := stopStat p.dbg.dstat 0 0 } }
  let s := { s with images := Tbl.put s.images uid (s.imageOf uid c), ctxs := Tbl.put s.ctxs uid c' }
  let s := (s.rereadPops uid).repop uid c.mem.pops
  if c.id.stopped then s.mapCore c.id.core fun k => if k.cur = some uid then { k with cur := none } else k else s

/-- IMAGE_RESTORED (R336): every page of the image, which ARG0 of the record names, of the ingots and of the slots is reached before anything is
restored. -/
def execImageRestored (uid : Nat) (s : State) : Out :=
  match s.ctx? uid with
  | none => .refused .notPending
  | some c =>
    if c.id.status ≠ .restoring then .refused .notPending
    else
      match s.reachPages (c.reads (.image uid)) .read ((c.savePages c.savedBase).drop 1) with
      | (s, .wait) => .next s
      | (s, .fail code reason unit va) => .next (s.notResumed uid c code reason (BitVec.ofNat 64 unit) (BitVec.ofNat 64 va) 0)
      | (s, .at_ keys) =>
        if c.id.unresumable then
          let va := BitVec.ofNat 64 (c.savedBase + imageOffset)
          .next (s.notResumed uid c 0x30 1 va va 4)
        else
          let at_ := ((s.bind? c.id.pasid).map fun b => b.objectAt c.id.obj.toNat).getD 0
          let va := BitVec.ofNat 64 at_
          match s.readTable (c.reads (.image uid)) at_ 32 with
          | (s, .wait, _) => .next s
          | (s, .fail code reason, _) =>
            .next (s.notResumed uid c code reason (BitVec.ofNat 64 (s.unitOfFault c.agent code reason at_)) va 0)
          | (s, .at_ k, x) =>
            if s.isPoisoned k 32 then .next (s.notResumed uid c 0x30 2 (BitVec.ofNat 64 (lineVa at_)) va 4)
            else if (objOf x).hash ≠ c.id.hash then
              .next (s.notResumed uid c 0x21 4 c.fetchInfo ((objOf x).base + 32 * zext64 c.flow.pc) 2)
            else .next (s.resumed uid (s.readArea c keys) (objOf x))

/-! ### Parking (R22) -/

/-- Whether a stop for the debugger halts the context now (R295): as a halt does, between two wakes (R49), but a single step only when its
propagation is complete (R297), and a member that its SYNC has released only behind that bundle (R332). -/
def Context.stopsNow (c : Context) : Bool :=
  (c.flow.barrier = .none || c.flow.barrier = .arrived) && c.dbg.pend.any fun p => !c.swage.busy || decide (p.1 ≠ 4)

/-- Whether a core's bundle has waited so long that its context parks: never while a wake takes the cycle, whose source may not park, and the causes and
stops that stand at its boundary come first (R22, R295, R306, R319). -/
def State.parkDue (s : State) (n : Nat) : Bool :=
  let k := s.coreOf n
  decide (256 ≤ k.waited) && match k.cur.bind s.ctx? with
    | some c => c.flow.causes.isEmpty && !c.budget.spent && !c.swage.busy && !c.stopsNow
    | none => false

/-- PARK (R22): 256 cycles of waits that may park. -/
def execPark (n : Nat) (s : State) : Out :=
  match (s.coreOf n).cur with
  | none => .refused .notPending
  | some uid =>
    if !s.parkDue n then .refused .notPending
    else .next ((s.mapCtx uid fun c => { c with id := { c.id with status := .parked } }).mapCore n fun k =>
      { k with cur := none, waited := 0, source := 0 })

/-! ### The end of a run (R32, R33, R351) -/

/-- The tags of a run that is over, by what goes on of it: a tag stays until the last operation of its bundle has landed, and goes where one is
abandoned, which never lands (R302). -/
def Context.tagsLeft (old left : Context) (pops : W64 → Bool) : List Tag :=
  let still : Context := { left with flow := { left.flow with flights := [] }, trap := { left.trap with snapshot := [] } }
  old.dbg.tags.filterMap fun t =>
    let out := t.wait.filter fun w => old.slotRuns t.bclk w.1 w.2 || (w.1 = 5 && pops t.bclk)
    if out.all fun w => still.slotRuns t.bclk w.1 0 then some { t with wait := out.map fun w => (w.1, 0) } else none

/-- Frees what a run held: its core, its slots, its place in queues; what it sent out still completes. -/
def State.retire (s : State) (uid : Nat) (c : Context) (ghost : Context) : State :=
  let tags := c.tagsLeft ghost (s.popWaits uid)
  let s := s.mapCore c.id.core fun k => if c.residentOn c.id.core then
      { k with
        cur := if k.cur = some uid then none else k.cur
        om := k.om.filter fun e => !c.slots.contains e.1
        omPoison := k.omPoison.filter fun l => !c.slots.contains (markSlot l)
        owner := if k.owner = some uid then none else k.owner
        fetch := k.fetch.filter fun f => f.1 ≠ uid }
    else k
  let s := s.dropWaiters uid
  ({ s with
    ctxs := Tbl.put s.ctxs uid { ghost with
      id := { ghost.id with status := .ghost, gang := none, marked := false, atQwait := false }
      dbg := { ghost.dbg with tags := tags } }
    images := Tbl.erase s.images uid }).reap uid

/-- Whether an access has failed. -/
def Acc.hasFailed (a : Acc) : Bool := match a.phase with
  | .failed _ _ => true
  | _ => false

/-- Whether an operation is a fence. -/
def AccOp.isFence : AccOp → Bool
  | .fence _ => true
  | _ => false

/-- What is left of a run that is over: of its accesses the writes that a condition picks, with the fences that hold one behind another. A load that
had not performed is gone with the register it was for, and whatever it held is free (R253, R353). -/
def MemSide.remains (m : MemSide) (keep : Acc → Bool) (copies : List Copy) : MemSide :=
  ({ m with
    outs := m.outs.filter fun a => (a.wic.isSome || a.op.isFence) && keep a
    copies := copies
    gathers := []
    divs := []
    scats := []
    pops := [] } : MemSide).sweepFences

/-- What has passed the gate goes on to its completion when a reset ends the run, whatever had become of it: every write, in its order, and outgoing
copies (R273, R275, R352, R353); what had failed is tried again. -/
def MemSide.writesOnly (m : MemSide) : MemSide :=
  ({ m with outs := m.outs.map Acc.again } : MemSide).remains (fun _ => true)
    ((m.copies.filter fun x => x.wic.isSome).map fun x => { x with paged := [], failed := none })

/-- What of a run that was still to be restored goes on after a reset: what its image leaves out (R352, R353). -/
def MemSide.leavesOnly (m image : MemSide) : MemSide := m.remains (fun a => a.op.isFence || !image.outs.any fun e => e.id = a.id) []

/-- A run ends as KILL ends one: pending entries, those that wait for them, remainders and the snapshot are abandoned, and weight goes back with the
faulted flag set (R323, R356). -/
def State.endRun (s : State) (uid : Nat) (c : Context) (home : Option W64) (w : W64) : State :=
  let away := !c.threadsMove
  let st := s.stuck uid c away
  let m := c.mem.remains (fun a => !st.contains a.id) (c.mem.copies.filter fun x =>
    x.wic.isSome && (x.quench || !away) && !c.mem.copyStays (s.popBefore uid) (s.countOf uid c) st x)
  let c' := { c with mem := m, id := { c.id with killed := true } }
  let c' := match home with
    | some h => c'.send (.ret h w true c'.sys.wic)
    | none => c'
  s.retire uid c c'

/-- Writes 64 bytes made of what stood there: a mark goes on with them (R343). -/
def State.rewriteBlock (s : State) (key : Nat) (x : BitVec 512) : State :=
  if s.isPoisoned key 64 then (s.storeBlock key x).poisonLines key 64 else s.storeBlock key x

/-- FAULTED := 1 in a record that stands in memory (R323); its reserved bits are written as zero (R311). -/
def State.markFaulted (s : State) (key : Nat) : State :=
  let r := s.block key
  let r := recSet r 6 16 (((recKind r) ||| 4) &&& 0xFF07).toNat
  s.rewriteBlock key (recSet r 24 32 ((recField r 24 32 : W32) &&& 0x07FFFFFF).toNat)

/-- The record in a save slot from which a run was resumed, reached by a walk for a write (R72, R77). -/
def State.recordPlace? (s : State) (c : Context) : Option (State × Nat) :=
  if bitOf (recKind c.run.record) 0 then s.findOpen c.agent c.savedBase .write else none

/-- A run that cannot be replayed, or that diverges: MACHINE, and the gate's weight account goes back, to the domain that the run had reached;
a run resumed from a save slot has FAULTED written into its record there, as KILL writes it (R323, R356). DESIGN CHOICE: where a walk does not find
the slot, open to a write, now, it is not written (log 169). -/
def State.machineEnd (s : State) (uid : Nat) (c : Context) (reason : Byte) : State :=
  let x : Cause := { code := 0x3F, reason := reason, slot := 0, off := c.flow.pc, tinfo := 0, va := 0, kind := 4 }
  let s := match s.recordPlace? c with
    | some (s, key) => s.markFaulted key
    | none => s
  (s.sendFault (faultReport c.id.core c s.mcc x)).endRun uid c c.run.home c.run.account

/-- Whether every engine queue is empty for a context (R33). -/
def Context.enginesEmpty (c : Context) : Bool :=
  c.mem.copies.isEmpty && c.mem.scats.isEmpty && c.mem.outs.isEmpty && !(c.mem.gathers.any fun g => !g.queue.isEmpty)

/-- The record that SUSP forms (R32). DESIGN CHOICE: a1 to a3 are read once the engines are empty, and a result of fixed latency that is on its way to
one of them then does not reach the record (R149, log 190). -/
def Context.suspRecord (c : Context) (deadline : W64) (next : W32) : BitVec 512 :=
  let r := recSet 0 0 16 c.id.obj.toNat
  let r := recSet r 2 32 next.toNat
  let r := recSet r 6 16 (if c.budget.mark then 2 else 0)
  let r := recSet r 8 64 deadline.toNat
  let r := recSet r 16 32 c.budget.declared.toNat
  let r := recSet r 20 32 c.id.part.toNat
  let r := recSet r 24 32 (whoOf c.id.pasid c.id.world + 2 ^ 21 * c.id.homeq.toNat)
  let r := recSet r 28 32 c.sys.qdi.toNat
  let r := recSet r 32 64 c.sys.myw.toNat
  let r := recSet r 40 64 (c.regs.readA 1).toNat
  let r := recSet r 48 64 (c.regs.readA 2).toNat
  recSet r 56 64 (c.regs.readA 3).toNat

/-- END returns the weight of a context in a domain (R33, R44). -/
def Context.endWeight (c : Context) : Context :=
  if !c.inDomain then c
  else c.pass { kind := kEnd, target := c.sys.qdi.toNat }
    (fun c => (c.send (.ret c.home? c.sys.myw false c.sys.wic)).account (-c.sys.myw))
    (fun c => { c with sys := { c.sys with myw := 0 } })

/-- SUSP offers its record, as a push (R32, R259). -/
def Context.suspOffer (c : Context) (deadline : W64) (qid : BitVec 6) (next : W32) : Context :=
  c.pass { kind := kSusp, target := qid.toNat } (fun c => c.send (.offer qid (c.suspRecord deadline next) c.sys.wic)) fun c => c

/-- The SAMPLE records of a run that ends. DEDUCED: an operation of a tagged bundle that still runs on the bundle clock completes with its
run (log 163). -/
def State.lastSamples (s : State) (c : Context) : State :=
  c.dbg.tags.foldl (fun s t => s.traceOf c.id.core c (t.step s.mcc fun _ _ => false).record) s

/-- ENGINES_EMPTY (R33): the run ends. -/
def execEnginesEmpty (uid : Nat) (s : State) : Out :=
  match s.ctx? uid with
  | none => .refused .notPending
  | some c =>
    if c.id.status ≠ .running ∨ !c.enginesEmpty ∨ !c.flow.causes.isEmpty ∨ c.swage.busy then .refused .notPending
    else
      let untagged : Context := { c with dbg := { c.dbg with tags := [] } }
      let finish (c' : Context) : Out := .next (if c'.id.killed then s.machineEnd uid c 1 else (s.lastSamples c).retire uid untagged c')
      match c.flow.stop with
      | .ending => finish c.endWeight
      | .susp d q next => finish (c.suspOffer d q next)
      | _ => .refused .notPending

/-! ### Resets and replay (R346, R352, R354) -/

/-- A record offered again, REPLAY one higher (R352). -/
def replayed (r : BitVec 512) : BitVec 512 := recSet r 7 8 ((recField r 7 8 : Byte).toNat + 1)

/-- The entry of a replay: its record again, with its original rank. DEDUCED: it is dispatched when everything of the run before it that has passed
the gate is complete, the outgoing copies of the quench among it (log 164). -/
def replayEntry (uid : Nat) (c : Context) (body : EntryBody) : Entry :=
  { body := body, deadline := c.id.deadline, ticket := c.id.ticket, stamp := some (uid, BitVec.allOnes 64), spilled := false,
    replay := some c.run,
    bound := c.id.gang.map fun _ => c.id.core, gang := c.id.gang.map fun g => (g, uid) }

/-- Whether a run can be replayed: one replayed 255 times is killed instead (R356). -/
def Context.replayable (c : Context) : Bool := (recField c.run.record 7 8 : Byte) ≠ 255

/-- Discards a run and offers its last record again; one replayed 255 times is killed (R352, R356). -/
def State.replayRun (s : State) (uid : Nat) (c : Context) : State :=
  let r := c.run.record
  if !c.replayable then s.machineEnd uid c 2
  else
    let image := Tbl.find s.images uid
    let left := match c.id.status, image with
      | .restoring, some x => c.mem.leavesOnly x.mem
      | _, _ => c.mem.writesOnly
    let old := s
    let s := (s.retire uid c { c with mem := left }).withdraw uid
    let q := c.id.homeq.toNat
    if bitOf (recKind r) 0 then
      let nu := s.nextUid
      let x := image.getD (old.imageOf uid c)
      let x := { x with id := { x.id with status := .evicted, marked := false } }
      let s := { s with ctxs := Tbl.put s.ctxs nu x, nextUid := nu + 1 }
      (s.rejoin (c.id.gang.map fun g => (g, uid)) nu).mapCluster c.id.home fun g => g.insert q (replayEntry uid c (.resume nu (replayed r)))
    else s.mapCluster c.id.home fun g => g.insert q (replayEntry uid c (.fresh (replayed r)))

/-- The quench of a context whose image stays: its outgoing copies go on to their end, whatever had become of them (R352). -/
def MemSide.quench (m : MemSide) : MemSide :=
  { m with copies := m.copies.map fun x => if x.wic.isSome then { x with paged := [], failed := none, quench := true } else x }

/-- Discards every resident context of a core: one that waits at QWAIT has written its record, and the slot that is marked with it holds its image
(R20), from which it goes on when it is woken; every other run is replayed. -/
def State.resetContexts (s : State) : List (Nat × Context) → State
  | [] => s
  | (uid, c) :: t =>
    if c.id.atQwait then
      ((s.saveSlots uid c).mapCtx uid fun c =>
        { c with id := { c.id with status := .evicted }, mem := c.mem.quench }).resetContexts t
    else (s.replayRun uid c).resetContexts t

/-- A core reset: contexts discarded and replayed, ingots, slots and overlays zeroed (R352). -/
def State.resetCore (s : State) (n : Nat) : State :=
  let s := s.resetContexts (s.residents n)
  s.mapCore n fun k => { Core.fresh with credit := k.credit, trace := k.trace }

/-- How many runs a reset of some cores will offer again (R352, R357). -/
def State.runsOn (s : State) (ns : List Nat) : Nat :=
  sumNat (ns.map fun n => ((s.residents n).filter fun e => !e.2.id.atQwait && e.2.replayable).length)

/-- Resets cores and logs the reset (R352, R357). -/
def State.resetCores (s : State) (ns : List Nat) (unit where_ operand : Nat) : State :=
  let n := s.runsOn ns
  let s := ns.foldl (fun s n => s.resetCore n) s
  s.logError (logEntry 7 unit where_ s.mcc operand 0 n)

/-- The cores of a cluster. -/
def coresOf (g : Nat) : List Nat := (List.range 16).map (· + 16 * g)

end Sys2Proof.Machine
end

