-- ==== Sys2Proof/Machine/Landing.lean ====
section
/-! DEFINITION. How results in flight take effect at a bundle-clock point (R119, R121, R213, R214, R334). -/

namespace Sys2Proof.Machine

/-- TINFO of a contractor FAIL (R213). -/
def contractInfo (emptied : W32) (first : BitVec 5) : W64 :=
  BitVec.ofNat 64 (emptied.toNat * 2 ^ 32 + 0xFFFF0080 + first.toNat)

/-- Whether a contractor failure is among the causes of this point: they count as one (R305). -/
def hasContractFail (cs : List Cause) : Bool := cs.any fun x => x.code = 0x01 && x.slot = 4

/-- The FAIL of a contractor that empties lanes, where QCTL asks for it (R213). -/
def Context.contractFail (c : Context) (bclk : W64) (off emptied : W32) (first : BitVec 5) : Context :=
  if bitOf c.sys.qctl 0 && emptied ≠ 0 && !hasContractFail c.flow.causes then
    c.blame (causeAt bclk 0x01 4 off (contractInfo emptied first))
  else c

/-- A target buffer under ARM or ARMM (R124). -/
def TBuf.arm (t : TBuf) (taken : Bool) : TBuf := { t with st := if taken then .armedTaken else .armedNot }

/-- One result takes effect; mcc is the cycle of the bundle's issue (R22, R119). DESIGN CHOICE: a contractor reads QCTL[0] at its write point,
after a MOVG to QCTL that lands there (R213, log 155). -/
def Context.land (c : Context) (mcc : W64) (f : Flight) : Context :=
  match f.eff with
  | .k r x =>
    let g := c.regs.writeK r x
    { c with regs := if c.mem.owesK r.toNat then g else g.mark (.k, r.toNat) false }
  | .kFail r => c.blame (causeAt f.bclk 0x01 f.slot f.off (failInfo 0xFFFF r))
  | .a r x => { c with regs := c.regs.writeA r x }
  | .p r x => { c with regs := c.regs.writeP r x }
  | .m r lanes bits => { c with regs := c.regs.writeM r ((c.regs.readM r &&& ~~~lanes) ||| (bits &&& lanes)) }
  | .v r lanes x => { c with regs := c.regs.writeV r (mergeV lanes (c.regs.readV r) x) }
  | .q r lanes x => { c with regs := c.regs.writeQ r (mergeQ lanes (c.regs.readQ r) x) }
  | .vovf n => { c with sys := { c.sys with vovf := satAdd c.sys.vovf n } }
  | .ovfc n => { c with sys := { c.sys with ovfc := satAdd c.sys.ovfc n } }
  | .sys n x =>
    { c with sys := c.sys.movg n x, trap := if n = 0x00A then { c.trap with tpcMoved := true } else c.trap }
  | .narrow ws => match c.narrow ws with
    | .ok c' => c'
    | .error r => c.blame (causeAt f.bclk 0x05 f.slot f.off (regInfo .k r.toNat))
  | .narrowFail r => c.blame (causeAt f.bclk 0x01 f.slot f.off (failInfo 0xFFFF r))
  | .post rel => { c with swage := { c.swage with
      store := c.swage.store ++ [rel], queue := c.swage.queue ++ [c.swage.store.length] } }
  | .ckpt => { c with swage := { c.swage with
      ckpts := (c.swage.store.length, c.swage.trail.length) :: c.swage.ckpts } }
  | .roll => c.roll
  | .commit => { c with swage := c.swage.commit }
  | .qclear prog mask =>
    { c with sys := if prog then { c.sys with qprog := c.sys.qprog &&& ~~~mask } else { c.sys with qempty := c.sys.qempty &&& ~~~mask } }
  | .contract ws lanes prog emptied first =>
    let c : Context := { c with
      regs := ws.foldl (fun g w => g.writeQ w.1 (mergeQ lanes (g.readQ w.1) w.2)) c.regs
      sys := { c.sys with qprog := c.sys.qprog ||| prog, qempty := c.sys.qempty ||| emptied } }
    c.contractFail f.bclk f.off emptied first
  | .qfail emptied first => c.contractFail f.bclk f.off emptied first
  | .scr off bytes poisoned => { c with mem := c.mem.scrWrite off bytes poisoned }
  | .epi off => { c with mem := c.mem.scrWrite off (leBytes 4 c.sys.ovfc.toNat) false }
  | .prep b kind target => { c with flow := { c.flow with
      bufs := Tbl.put c.flow.bufs b.toNat { st := .prepared, target := target, kind := kind, at_ := mcc } } }
  | .arm b taken => { c with flow := { c.flow with
      bufs := Tbl.put c.flow.bufs b.toNat ((Tbl.get TBuf.none c.flow.bufs b.toNat).arm taken) } }
  | .loop lv start last count => { c with flow := { c.flow with
      loops := Tbl.put c.flow.loops lv.toNat { active := true, start := start, last := last, count := count, delta := [] } } }
  | .ldelta lv r x =>
    let l := Tbl.get Loop.none c.flow.loops lv.toNat
    { c with flow := { c.flow with loops := Tbl.put c.flow.loops lv.toNat { l with delta := Tbl.set 0 l.delta r.toNat x } } }
  | .budget n => { c with budget := { c.budget with declared := n, counter := n, spent := false, reloaded := true } }
  | .myw x => { c with sys := { c.sys with myw := x } }
  | .mywSub x => { c with sys := { c.sys with myw := c.sys.myw - x } }
  | .qdi x => { c with sys := { c.sys with qdi := x } }
  | .te n x =>
    let old := Tbl.get 0 c.mem.te n.toNat
    { c with mem := { c.mem with te := Tbl.set 0 c.mem.te n.toNat (if f.slot = 7 then (old &&& 0xF8000004) ||| (x &&& 0x07FFFFFB) else x) } }
  | .cause code tinfo => c.blame (causeAt f.bclk code f.slot f.off tinfo)
  | .poisoned addr =>
    ({ c with id := { c.id with unresumable := true } }).blame
      { code := 0x30, reason := 1, slot := f.slot, off := f.off, tinfo := addr, va := 0, kind := 4, seq := f.bclk.toNat }

/-- The registers that a result writes where it lands now: ROLL those that it restores (R176), a narrowing none where no trail entry is free
(R175). -/
def Context.targetsOf (c : Context) (e : Eff) : List (Nat × Nat) :=
  match e with
  | .roll => (c.swage.trailed.filter (· ≠ 0)).map fun r => (0, r.toNat)
  | .narrow ws => match c.narrow ws with
    | .ok _ => e.targets
    | .error _ => []
  | _ => e.targets

/-- Some results land one after another, and each notes what it writes. -/
def Context.landAll (c : Context) (mcc : W64) : List Flight → Context
  | [] => c
  | f :: t =>
    let written := (c.targetsOf f.eff).map fun t => (t.1, t.2, f.slot, f.bclk)
    let c := c.land mcc f
    ({ c with flow := { c.flow with landed := c.flow.landed ++ written } } : Context).landAll mcc t

/-- The end of a bundle: every result in flight comes one bundle nearer and those that are due land; the registers that more than one of them
writes set their class's bit of DUPW (R119, R121). -/
def Context.landPoint (c : Context) (mcc : W64) : Context :=
  let fs := c.flow.flights.map fun f => { f with dist := f.dist - 1 }
  let due := fs.filter fun f => f.dist = 0
  let c := { c with flow := { c.flow with flights := fs.filter fun f => f.dist ≠ 0, landed := [] } }
  let c := c.landAll mcc (landingOrder ((byIssue due).flatMap Flight.parts))
  { c with sys := { c.sys with dupw := c.sys.dupw ||| dupBits (c.flow.landed.map fun w => (w.1, w.2.1)) } }

end Sys2Proof.Machine
end

