-- ==== Sys2Proof/Machine/Interval.lean ====
section
/-! DEFINITION. Interval lanes (R99 to R102, R206 to R212): exact bounds, images piece by piece over the extended reals,
contractors over the reals, comparisons. -/

namespace Sys2Proof.Machine

/-! ### Lanes -/

/-- What a lane reads as (R99). -/
inductive Lane where
  | nai
  | empty
  | iv (lo hi : W32)
  deriving DecidableEq, Repr

/-- The order of FP32 patterns that are not NaN as an integer: zeros alike. -/
def ordF32 (x : W32) : Int := if bitOf x 31 then -(magPat x : Int) else magPat x
where
  magPat (x : W32) : Nat := x.toNat % 2 ^ 31

/-- −0 as +0 (R99). -/
def plusZero (x : W32) : W32 := if x = 0x80000000 then 0 else x

/-- The lane of a pair of FP32 patterns (R99). -/
def laneOf (lo hi : W32) : Lane :=
  if lo = 0x7FC00001 ∧ hi = 0x7FC00001 then .empty
  else if isNaN lo || isNaN hi then .nai
  else if ordF32 hi < ordF32 lo then .nai
  else .iv (plusZero lo) (plusZero hi)

/-- Reads 64 bits (R99). -/
def readLane (x : W64) : Lane := laneOf (x.extractLsb' 0 32) (x.extractLsb' 32 32)

/-- The canonical 64 bits of a lane (R99). -/
def Lane.bits : Lane → W64
  | .nai => 0x7FC000027FC00002
  | .empty => 0x7FC000017FC00001
  | .iv lo hi => hi ++ lo

/-- Ordered comparisons of bounds. -/
def leF (x y : W32) : Bool := ordF32 x ≤ ordF32 y

def maxF (x y : W32) : W32 := if leF x y then y else x

def minF (x y : W32) : W32 := if leF x y then x else y

def infP : W32 := 0x7F800000

def infN : W32 := 0xFF800000

/-- The negation of a bound. -/
def negF (x : W32) : W32 := plusZero (x ^^^ 0x80000000)

/-! ### Exact bounds -/

/-- A bound: an infinity or the exact number n / d, d > 0. -/
inductive Bnd where
  | minf
  | pinf
  | q (n : Int) (d : Nat)
  deriving DecidableEq, Repr

/-- The bound an FP32 pattern holds. -/
def bndOf (x : W32) : Bnd :=
  match unpackF32 x with
  | .inf neg => if neg then .minf else .pinf
  | .fin neg m e => if 0 ≤ e then .q (signedMag neg m * 2 ^ e.toNat) 1 else .q (signedMag neg m) (2 ^ (-e).toNat)
  | .nan _ => .q 0 1

def Bnd.le : Bnd → Bnd → Bool
  | .minf, _ => true
  | _, .pinf => true
  | .q a b, .q c d => a * d ≤ c * b
  | _, _ => false

def Bnd.max (x y : Bnd) : Bnd := if x.le y then y else x

def Bnd.min (x y : Bnd) : Bnd := if x.le y then x else y

def Bnd.neg : Bnd → Bnd
  | .minf => .pinf
  | .pinf => .minf
  | .q n d => .q (-n) d

/-- A sum of two lower or of two upper bounds: an infinity absorbs. -/
def Bnd.add : Bnd → Bnd → Bnd
  | .q a b, .q c d => .q (a * d + c * b) (b * d)
  | .q _ _, y => y
  | x, _ => x

/-- A product of two bounds that are not negative; an infinity absorbs (the other is then above 0). -/
def Bnd.mulP : Bnd → Bnd → Bnd
  | .q a b, .q c d => .q (a * c) (b * d)
  | .q _ _, y => y
  | x, _ => x

/-- The least quotient: lower bound over upper bound, both not negative; 0 when the divisor is unbounded. -/
def Bnd.divLo : Bnd → Bnd → Bnd
  | .q a b, .q c d => .q (a * d) (b * c.toNat)
  | _, _ => .q 0 1

/-- The greatest quotient: upper bound over lower bound, both not negative; +∞ when the divisor reaches to 0. -/
def Bnd.divHi : Bnd → Bnd → Bnd
  | .q a b, .q c d => if c = 0 then .pinf else .q (a * d) (b * c.toNat)
  | _, _ => .pinf

def Bnd.zero : Bnd := .q 0 1

/-- A bound above 0. -/
def Bnd.pos (x : Bnd) : Bool := !x.le .zero

/-- A bound rounded (R100); every zero is +0. -/
def Bnd.round (rm : Rm) : Bnd → W32
  | .minf => infN
  | .pinf => infP
  | .q n d => plusZero (packF32 rm (n < 0) n.natAbs d 0).1

/-! ### Images over the extended reals (R100) -/

/-- A piece of a set of extended reals: an infinity, zero, or a range of reals from lo to hi (limits at ±∞ not in it).
Ranges are split at zero where a product or a quotient needs it. -/
inductive Piece where
  | minf
  | pinf
  | fin (lo hi : Bnd)
  deriving DecidableEq, Repr

/-- The real part of [lo, hi], if any. -/
def realPart (lo hi : Bnd) : List Piece := if lo = .pinf ∨ hi = .minf then [] else [.fin lo hi]

/-- The pieces of an interval, its infinite bounds being members (R99, R100). -/
def pieces (lo hi : W32) : List Piece :=
  (if lo = infN then [.minf] else []) ++ realPart (bndOf lo) (bndOf hi) ++ (if hi = infP then [.pinf] else [])

/-- A piece with a sign: −1, 0, 1, and its magnitudes as a range, or an infinite magnitude. -/
inductive SPiece where
  | zero
  | inf (neg : Bool)
  | fin (neg : Bool) (lo hi : Bnd)
  deriving DecidableEq, Repr

/-- A piece split at zero. -/
def Piece.signed : Piece → List SPiece
  | .minf => [.inf true]
  | .pinf => [.inf false]
  | .fin lo hi =>
    (if hi.pos then [.fin false (lo.max .zero) hi] else []) ++ (if lo.le .zero && Bnd.zero.le hi then [.zero] else []) ++
      (if lo.neg.pos then [.fin true (hi.neg.max .zero) lo.neg] else [])

/-- Magnitudes with a sign as a piece. -/
def signPiece (neg : Bool) (lo hi : Bnd) : Piece := if neg then .fin hi.neg lo.neg else .fin lo hi

/-- The products of two pieces; 0 × ∞ is left out (R100). -/
def mulPieces : SPiece → SPiece → List Piece
  | .zero, .inf _ => []
  | .inf _, .zero => []
  | .zero, _ => [.fin .zero .zero]
  | _, .zero => [.fin .zero .zero]
  | .inf s, .inf t => [if s = t then .pinf else .minf]
  | .inf s, .fin t _ _ => [if s = t then .pinf else .minf]
  | .fin s _ _, .inf t => [if s = t then .pinf else .minf]
  | .fin s l h, .fin t l' h' => [signPiece (s != t) (l.mulP l') (h.mulP h')]

/-- The quotients of two pieces; division by 0 and ∞/∞ are left out (R100). -/
def divPieces : SPiece → SPiece → List Piece
  | _, .zero => []
  | .inf _, .inf _ => []
  | .zero, _ => [.fin .zero .zero]
  | .fin _ _ _, .inf _ => [.fin .zero .zero]
  | .inf s, .fin t _ _ => [if s = t then .pinf else .minf]
  | .fin s l h, .fin t l' h' => [signPiece (s != t) (l.divLo h') (h.divHi l')]

/-- The sums of two pieces; ∞ − ∞ is left out (R100). -/
def addPieces : Piece → Piece → List Piece
  | .minf, .pinf => []
  | .pinf, .minf => []
  | .fin l h, .fin l' h' => [.fin (l.add l') (h.add h')]
  | .minf, _ => [.minf]
  | _, .minf => [.minf]
  | _, _ => [.pinf]

def Piece.neg : Piece → Piece
  | .minf => .pinf
  | .pinf => .minf
  | .fin l h => .fin h.neg l.neg

def Piece.inf : Piece → Bnd
  | .minf => .minf
  | .pinf => .pinf
  | .fin l _ => l

def Piece.sup : Piece → Bnd
  | .minf => .minf
  | .pinf => .pinf
  | .fin _ h => h

/-- The infimum and the supremum of a set of pieces, if it has members. -/
def extent : List Piece → Option (Bnd × Bnd)
  | [] => none
  | p :: t => match extent t with
    | none => some (p.inf, p.sup)
    | some (l, h) => some (p.inf.min l, p.sup.max h)

/-- [rdn(inf I), rup(sup I)], or EMPTY (R100). -/
def enclose (ps : List Piece) : Lane :=
  match extent ps with
  | none => .empty
  | some (l, h) => .iv (l.round .rdn) (h.round .rup)

def sumSet (xs ys : List Piece) : List Piece := xs.flatMap fun x => ys.flatMap fun y => addPieces x y

def mulSet (xs ys : List Piece) : List Piece :=
  (xs.flatMap Piece.signed).flatMap fun x => (ys.flatMap Piece.signed).flatMap fun y => mulPieces x y

def divSet (xs ys : List Piece) : List Piece :=
  (xs.flatMap Piece.signed).flatMap fun x => (ys.flatMap Piece.signed).flatMap fun y => divPieces x y

/-- The magnitude and exponent of a finite pattern. -/
def finParts (x : W32) : Nat × Int :=
  match unpackF32 x with
  | .fin _ m e => (m, e)
  | _ => (0, 0)

/-- √x for x ≥ 0 or +∞, rounded. -/
def sqrtBound (rm : Rm) (x : W32) : W32 :=
  if x = infP then infP else if ordF32 x ≤ 0 then 0 else sqrtRound rm (finParts x).1 (finParts x).2

/-- e^x for any bound, rounded. -/
def expBound (rm : Rm) (x : W32) : W32 :=
  if x = infP then infP else if x = infN then 0
  else if ordF32 x = 0 then 0x3F800000
  else expRound rm (signedMag (bitOf x 31) (finParts x).1) (finParts x).2

/-- ln x for x > 0 or +∞, rounded; −∞ for a bound at or below 0. -/
def lnBound (rm : Rm) (x : W32) : W32 :=
  if x = infP then infP else if ordF32 x ≤ 0 then infN
  else if x = 0x3F800000 then 0
  else plusZero (lnRound rm (finParts x).1 (finParts x).2)

/-- The smallest magnitude in [lo, hi]. -/
def leastMag (lo hi : W32) : W32 := if 0 ≤ ordF32 lo then lo else if ordF32 hi ≤ 0 then negF hi else 0

/-- The greatest magnitude in [lo, hi]. -/
def mostMag (lo hi : W32) : W32 := maxF hi (negF lo)

/-- Squares of a bound that is not negative, exactly. -/
def sqBnd (x : W32) : Bnd := match bndOf x with
  | .q n d => .q (n * n) (d * d)
  | b => b

/-- The forward operations (R206) and the set operations with one result (R207). -/
inductive QOp where
  | add | sub | mul | div | max | min | sqr | sqrt | relu | neg | abs | exp | fma | meet | hull | mid | wid
  deriving DecidableEq, Repr

/-- The midpoint of R207. -/
def midF32 (lo hi : W32) : W32 :=
  if ordF32 lo = ordF32 hi then plusZero lo
  else if lo = infN then (if hi = infP then 0 else 0xFF7FFFFF)
  else if hi = infP then 0x7F7FFFFF
  else match (bndOf lo).add (bndOf hi) with
    | .q n d => (Bnd.q n (2 * d)).round .rne
    | b => b.round .rne

/-- The result on interval operands (R206, R207). -/
def QOp.onIv (op : QOp) (al ah bl bh cl ch : W32) : Lane :=
  match op with
  | .add => enclose (sumSet (pieces al ah) (pieces bl bh))
  | .sub => enclose (sumSet (pieces al ah) ((pieces bl bh).map Piece.neg))
  | .mul => enclose (mulSet (pieces al ah) (pieces bl bh))
  | .div => enclose (divSet (pieces al ah) (pieces bl bh))
  | .fma => enclose (sumSet (pieces cl ch) (mulSet (pieces al ah) (pieces bl bh)))
  | .max => .iv (maxF al bl) (maxF ah bh)
  | .min => .iv (minF al bl) (minF ah bh)
  | .relu => .iv (maxF al 0) (maxF ah 0)
  | .neg => .iv (negF ah) (negF al)
  | .abs => .iv (leastMag al ah) (mostMag al ah)
  | .sqr => .iv ((sqBnd (leastMag al ah)).round .rdn) ((sqBnd (mostMag al ah)).round .rup)
  | .sqrt => if ordF32 ah < 0 then .empty else .iv (sqrtBound .rdn al) (sqrtBound .rup ah)
  | .exp => .iv (expBound .rdn al) (expBound .rup ah)
  | .meet => if leF (maxF al bl) (minF ah bh) then .iv (maxF al bl) (minF ah bh) else .empty
  | .hull => .iv (minF al bl) (maxF ah bh)
  | .mid => .iv (midF32 al ah) (midF32 al ah)
  | .wid =>
    if al = infN ∨ ah = infP ∨ al = infP ∨ ah = infN then .iv infP infP
    else
      let w := (bndOf ah).add (bndOf al).neg
      .iv (w.round .rdn) (w.round .rup)

/-- How many operands an operation names. -/
def QOp.arity : QOp → Nat
  | .fma => 3
  | .add | .sub | .mul | .div | .max | .min | .meet | .hull => 2
  | _ => 1

/-- A forward or set operation on lanes: NaI before EMPTY, EMPTY before values (R100, R206, R207). Operands beyond the
arity are not looked at. -/
def QOp.apply (op : QOp) (a b c : Lane) : Lane :=
  let b := if 2 ≤ op.arity then b else a
  let c := if 3 ≤ op.arity then c else a
  match a, b, c with
  | .nai, _, _ => .nai
  | _, .nai, _ => .nai
  | _, _, .nai => .nai
  | .empty, y, _ => if op = .hull then y else .empty
  | x, .empty, _ => if op = .hull then x else .empty
  | _, _, .empty => .empty
  | .iv al ah, .iv bl bh, .iv cl ch => op.onIv al ah bl bh cl ch

/-- QBIS: lower half and upper half (R207). -/
def bisect : Lane → Lane × Lane
  | .iv lo hi => (.iv lo (midF32 lo hi), .iv (midF32 lo hi) hi)
  | x => (x, x)

/-! ### Comparisons (R101, R209) -/

/-- The verdict of relation C: F, T or U as in R88. -/
def qVerdict (c : Nat) (a b : Lane) : BitVec 2 :=
  let decide3 (t f : Bool) : BitVec 2 := if t then 1 else if f then 0 else 2
  match a, b with
  | .nai, _ => 2
  | _, .nai => 2
  | .empty, _ => 0
  | _, .empty => 0
  | .iv al ah, .iv bl bh =>
    let apart := !(leF (maxF al bl) (minF ah bh))
    let inside := leF bl al && leF ah bh
    if c = 0 then decide3 (!leF bl ah) (leF bh al)
    else if c = 1 then decide3 (leF ah bl) (!leF al bh)
    else if c = 2 then decide3 (leF ah al && leF bh bl && leF al bl && leF bl al) apart
    else if c = 3 then decide3 inside apart
    else decide3 apart inside

/-! ### Contractors (R102, R211) -/

/-- The relations of R211. -/
inductive COp where
  | add | sub | mul | fma | sqr | relu | max | exp | le
  deriving DecidableEq, Repr

/-- A set of reals [lo, hi]; lo may be −∞ and hi +∞, which are not in it. -/
abbrev RSet := Bnd × Bnd

/-- The real values of an interval. -/
def realOf (lo hi : W32) : Option RSet := if lo = infP ∨ hi = infN then none else some (bndOf lo, bndOf hi)

/-- The meet of an operand with [rdn(inf P), rup(sup P)], P being the operand's reals met with a closed set of reals;
none when P is empty. -/
def meetExact (lo hi : W32) (s : RSet) : Option (W32 × W32) :=
  if (Bnd.max (bndOf lo) s.1).le (Bnd.min (bndOf hi) s.2) then
    some (maxF lo (s.1.round .rdn), minF hi (s.2.round .rup))
  else none

/-- The hull of two optional parts. -/
def joinParts : Option (W32 × W32) → Option (W32 × W32) → Option (W32 × W32)
  | none, y => y
  | x, none => x
  | some (a, b), some (c, d) => some (minF a c, maxF b d)

/-- The part of a pair of bounds mirrored at 0. -/
def mirror : Option (W32 × W32) → Option (W32 × W32) := Option.map fun p => (negF p.2, negF p.1)

/-- {x + y}. -/
def addR (x y : RSet) : RSet := (x.1.add y.1, x.2.add y.2)

def negR (x : RSet) : RSet := (x.2.neg, x.1.neg)

/-- {x · y}: closed, since both are closed. -/
def mulR (x y : RSet) : RSet := (extent (mulSet [.fin x.1 x.2] [.fin y.1 y.2])).getD (.zero, .zero)

def hasZero (x : RSet) : Bool := x.1.le .zero && Bnd.zero.le x.2

/-- The magnitudes of the members above 0, if any: from a limit at or above 0. -/
def posOf (x : RSet) : Option RSet := if x.2.pos then some (x.1.max .zero, x.2) else none

/-- The members x > 0 of [lo, hi] with x · y = z for a z of one sign class and y of another: [l / h', h / l']. -/
def quotPart (lo hi : W32) (z y : Option RSet) : Option (W32 × W32) :=
  match posOf (bndOf lo, bndOf hi), z, y with
  | some a, some z, some y =>
    let s := z.1.divLo y.2
    let t := z.2.divHi y.1
    if (a.1.max s).le (a.2.min t) then some (maxF (maxF lo 0) (s.round .rdn), minF hi (t.round .rup)) else none
  | _, _, _ => none

/-- {x in [lo, hi] : x · y = z for some y in Y, z in Z}: its hull rounded outward and met with [lo, hi]. -/
def factorPart (lo hi : W32) (y z : RSet) : Option (W32 × W32) :=
  if hasZero y && hasZero z then some (lo, hi)
  else
    let zero : Option (W32 × W32) := if hasZero z && hasZero (bndOf lo, bndOf hi) then some (0, 0) else none
    let zp := posOf z
    let zn := posOf (negR z)
    let yp := posOf y
    let yn := posOf (negR y)
    let up := joinParts (quotPart lo hi zp yp) (quotPart lo hi zn yn)
    let dn := mirror (joinParts (quotPart (negF hi) (negF lo) zp yn) (quotPart (negF hi) (negF lo) zn yp))
    joinParts zero (joinParts up dn)

/-- {x ≥ 0 in [lo, hi] : x² in [zl, zh]}. -/
def rootPart (lo hi zl zh : W32) : Option (W32 × W32) :=
  if ordF32 hi < 0 || ordF32 zh < 0 then none
  else
    let l := maxF lo 0
    let z := maxF zl 0
    if (sqBnd l).le (bndOf zh) && (bndOf z).le (sqBnd hi) then
      some (maxF l (sqrtBound .rdn z), minF hi (sqrtBound .rup zh))
    else none

/-- The new bounds of the operands, in the order D, A, B, C as far as the relation names them (for QLE.C: A, B), or none
when some Pi is empty. Operands it does not name come back as they were. -/
def COp.onIv (op : COp) (d a b c : W32 × W32) : Option ((W32 × W32) × (W32 × W32) × (W32 × W32) × (W32 × W32)) :=
  match realOf d.1 d.2, realOf a.1 a.2, realOf b.1 b.2, realOf c.1 c.2 with
  | some D, some A, some B, some C =>
    match op with
    | .add => do
      let d' ← meetExact d.1 d.2 (addR A B)
      let a' ← meetExact a.1 a.2 (addR D (negR B))
      let b' ← meetExact b.1 b.2 (addR D (negR A))
      pure (d', a', b', c)
    | .sub => do
      let d' ← meetExact d.1 d.2 (addR A (negR B))
      let a' ← meetExact a.1 a.2 (addR D B)
      let b' ← meetExact b.1 b.2 (addR A (negR D))
      pure (d', a', b', c)
    | .mul => do
      let d' ← meetExact d.1 d.2 (mulR A B)
      let a' ← factorPart a.1 a.2 B D
      let b' ← factorPart b.1 b.2 A D
      pure (d', a', b', c)
    | .fma => do
      let d' ← meetExact d.1 d.2 (addR C (mulR A B))
      let a' ← factorPart a.1 a.2 B (addR D (negR C))
      let b' ← factorPart b.1 b.2 A (addR D (negR C))
      let c' ← meetExact c.1 c.2 (addR D (negR (mulR A B)))
      pure (d', a', b', c')
    | .sqr => do
      let d' ← meetExact d.1 d.2 (sqBnd (leastMag a.1 a.2), sqBnd (mostMag a.1 a.2))
      let a' ← joinParts (rootPart a.1 a.2 d.1 d.2) (mirror (rootPart (negF a.2) (negF a.1) d.1 d.2))
      pure (d', a', b, c)
    | .relu => do
      let d' ← meetExact d.1 d.2 (A.1.max .zero, A.2.max .zero)
      let a' ← meetExact a.1 a.2 (if D.1.le .zero then .minf else D.1, D.2)
      pure (d', a', b, c)
    | .max => do
      let d' ← meetExact d.1 d.2 (A.1.max B.1, A.2.max B.2)
      let part (y : RSet) (l h : W32) : Option (W32 × W32) :=
        if (y.1.max D.1).le (y.2.min D.2) then meetExact l h (.minf, D.2)
        else if y.1.le D.2 then meetExact l h D
        else none
      let a' ← part B a.1 a.2
      let b' ← part A b.1 b.2
      pure (d', a', b', c)
    | .exp =>
      if leF (expBound .rup a.1) d.2 && leF d.1 (expBound .rdn a.2) && ordF32 d.2 > 0 then
        some ((maxF d.1 (expBound .rdn a.1), minF d.2 (expBound .rup a.2)),
          (maxF a.1 (lnBound .rdn d.1), minF a.2 (lnBound .rup d.2)), b, c)
      else none
    | .le => do
      let a' ← meetExact a.1 a.2 (.minf, B.2)
      let b' ← meetExact b.1 b.2 (A.1, .pinf)
      pure (d, a', b', c)
  | _, _, _, _ => none

/-- Which of D, A, B, C a relation names (R211). -/
def COp.names : COp → Bool × Bool × Bool × Bool
  | .add | .sub | .mul | .max => (true, true, true, false)
  | .fma => (true, true, true, true)
  | .sqr | .relu | .exp => (true, true, false, false)
  | .le => (false, true, true, false)

/-- A contractor in one lane: the new lanes of D, A, B, C (R102, R211). -/
def COp.apply (op : COp) (d a b c : Lane) : Lane × Lane × Lane × Lane :=
  let n := op.names
  let all := (if n.1 then [d] else []) ++ (if n.2.1 then [a] else []) ++ (if n.2.2.1 then [b] else []) ++
    (if n.2.2.2 then [c] else [])
  if all.contains .nai then (d, a, b, c)
  else if all.contains .empty then (.empty, .empty, .empty, .empty)
  else
    let pair : Lane → W32 × W32 := fun
      | .iv l h => (l, h)
      | _ => (0, 0)
    match op.onIv (if n.1 then pair d else (0, 0)) (pair a) (if n.2.2.1 then pair b else (0, 0))
        (if n.2.2.2 then pair c else (0, 0)) with
    | none => (.empty, .empty, .empty, .empty)
    | some (d', a', b', c') => (.iv d'.1 d'.2, .iv a'.1 a'.2, .iv b'.1 b'.2, .iv c'.1 c'.2)

/-- The meet of two projections of one register (R212). -/
def Lane.meet (x y : Lane) : Lane := QOp.meet.apply x y .empty

end Sys2Proof.Machine
end

