-- ==== Sys2Proof/Machine/Mem.lean ====
section
/-! DEFINITION. The memory slot, slot 5 (R216 to R230): scratchpad, global loads and stores, atomics, exact accumulators,
fences, value queues, CBINV. Every source and destination blocks while empty. -/

namespace Sys2Proof.Machine

/-! ### Scratchpad (R219, R220) -/

/-- The scratchpad offset of an access: aB plus the scaled field, unsigned. -/
def State.scrOff (s : State) (b : BitVec 5) (f : BitVec 11) (scale : Nat) : Nat := (s.a b).toNat + f.toNat * scale

/-- RANGE for bytes beyond the partition or a misaligned offset (R230). -/
def State.scrCheck (s : State) (off n align : Nat) : Option Cause :=
  s.check 5 (s.issue.scrSize < off + n || off % align ≠ 0) 0x09 (BitVec.ofNat 64 off)

/-- A scratchpad load of latency 8; a marked bank word is consumed at the write point (R219, R344). -/
def State.lds (s : State) (g : BitVec 4) (r : RegRef) (b : BitVec 5) (f : BitVec 11) (n align : Nat) (late : List (Option Cause))
    (eff : Nat → Eff) : Out :=
  let off := s.scrOff b f n
  s.issueOp (s.guard4 g) [] [s.waitRegs [aRef b], s.waitDest r] (s.scrCheck off n align :: late) fun s =>
    match s.issue.viewMarked? s.tick off n with
    | some w => s.fly 8 5 (.poisoned (BitVec.ofNat 64 (2 ^ 63 + 64 * w)))
    | none => s.fly 8 5 (eff (leNat (s.issue.scrView s.tick off n)))

/-- A scratchpad store, seen by an LDS issued two or more bundles later (R219). -/
def State.sts (s : State) (g : BitVec 4) (r : RegRef) (b : BitVec 5) (f : BitVec 11) (n align : Nat) (data : Nat) : Out :=
  let off := s.scrOff b f n
  s.issueOp (s.guard4 g) [] [s.waitRegs [aRef b, r]] [s.scrCheck off n align] fun s =>
    s.fly 2 5 (.scr off (leBytes n data) false)

/-- The domain that a loaded pattern denotes (R83). -/
def kPattern (x : Dom) : Option Dom := hullRuns (domRuns x)

/-- BOUNDWRITE of a load to a bound register (R165). -/
def State.loadBound (s : State) (r : BitVec 6) : Option Cause :=
  s.check 5 (s.issue.swage.bound r) 0x07
    (BitVec.ofNat 64 (s.issue.swage.firstNaming r % 65536 * 2 ^ 32) ||| regInfo .k r.toNat)

/-- Every lane in canonical form (R99). -/
def canonQ (x : VecV) : VecV := mkQ fun i => (readLane (laneQ x i)).bits

/-- NOP_MEM (R109). -/
def execNopMem (s : State) : Out := s.issueOp true [] [] [] fun s => s

/-- LDS.V (R219). -/
def execLdsV (g : BitVec 4) (r : BitVec 6) (b : BitVec 5) (f : BitVec 11) (s : State) : Out :=
  s.lds g (vRef r) b f 256 64 [] fun x => .v r (BitVec.allOnes 64) (BitVec.ofNat 2048 x)

/-- STS.V (R219). -/
def execStsV (g : BitVec 4) (r : BitVec 6) (b : BitVec 5) (f : BitVec 11) (s : State) : Out :=
  s.sts g (vRef r) b f 256 64 (s.v r).toNat

/-- LDS.Q (R219): every lane in canonical form. -/
def execLdsQ (g : BitVec 4) (r b : BitVec 5) (f : BitVec 11) (s : State) : Out :=
  s.lds g (qRef r) b f 256 64 [] fun x => .q r (BitVec.allOnes 32) (canonQ (BitVec.ofNat 2048 x))

/-- STS.Q (R219). -/
def execStsQ (g : BitVec 4) (r b : BitVec 5) (f : BitVec 11) (s : State) : Out :=
  s.sts g (qRef r) b f 256 64 (s.q r).toNat

/-- LDS.K (R83, R219). -/
def execLdsK (g : BitVec 4) (r : BitVec 6) (b : BitVec 5) (f : BitVec 11) (s : State) : Out :=
  s.lds g (kRef r) b f 16 16 [s.loadBound r] fun x => match kPattern (BitVec.ofNat 128 x) with
    | some d => .k r d
    | none => .kFail r

/-- STS.K (R219): the canonical pattern. -/
def execStsK (g : BitVec 4) (r : BitVec 6) (b : BitVec 5) (f : BitVec 11) (s : State) : Out :=
  s.sts g (kRef r) b f 16 16 (s.k r).toNat

/-- LDS.A (R219). -/
def execLdsA (g : BitVec 4) (r b : BitVec 5) (f : BitVec 11) (s : State) : Out :=
  s.lds g (aRef r) b f 8 8 [] fun x => .a r (BitVec.ofNat 64 x)

/-- STS.A (R219). -/
def execStsA (g : BitVec 4) (r b : BitVec 5) (f : BitVec 11) (s : State) : Out :=
  s.sts g (aRef r) b f 8 8 (s.a r).toNat

/-- The offset of each lane of an indexed access (R220). -/
def State.laneOffs (s : State) (b : BitVec 5) (i : BitVec 6) : List Nat :=
  (List.range 64).map fun n => (s.a b).toNat + 4 * (laneV (s.v i) n).toNat

/-- RANGE of an indexed access: the base, then the first lane that lies outside (R220, R230). -/
def State.laneCheck (s : State) (b : BitVec 5) (offs : List Nat) : Option Cause :=
  match (if (s.a b).toNat % 4 ≠ 0 then some (s.a b).toNat else offs.find? fun o => s.issue.scrSize < o + 4) with
  | some o => some (s.cause 5 0x09 (BitVec.ofNat 64 o))
  | none => none

/-- LDS.VX (R58, R220): the destination is empty until the gather is done. -/
def execLdsVx (g : BitVec 4) (r : BitVec 6) (b : BitVec 5) (i : BitVec 6) (s : State) : Out :=
  let offs := s.laneOffs b i
  s.issueOp (s.guard4 g) [] [s.waitRegs [aRef b, vRef i, vRef r]] [s.laneCheck b offs] fun s => s.mapLive fun c =>
    let data := mkV fun n => BitVec.ofNat 32 (leNat (s.issue.scrView s.tick (offs.getD n 0) 4))
    { c with
      regs := c.regs.mark (vRef r) true
      mem := { c.mem with
        nextId := c.mem.nextId + 1
        scats := c.mem.scats ++ [{ id := c.mem.nextId, bclk := c.flow.bclk, at_ := s.mcc, off := c.flow.pc, r := r, index := none, offs := offs, data := data,
                                   bad := (offs.findSome? fun o => s.issue.viewMarked? s.tick o 4).map (64 * ·) }] } }

/-- STS.VX (R58, R220): data and index are empty until the scatter is done. -/
def execStsVx (g : BitVec 4) (r : BitVec 6) (b : BitVec 5) (i : BitVec 6) (s : State) : Out :=
  let offs := s.laneOffs b i
  s.issueOp (s.guard4 g) [] [s.waitRegs [aRef b, vRef i, vRef r]] [s.laneCheck b offs] fun s => s.mapLive fun c =>
    { c with
      regs := (c.regs.mark (vRef r) true).mark (vRef i) true
      mem := { c.mem with
        nextId := c.mem.nextId + 1
        scats := c.mem.scats ++ [{ id := c.mem.nextId, bclk := c.flow.bclk, at_ := s.mcc, off := c.flow.pc, r := r, index := some i, offs := offs,
                                   data := s.v r }] } }

/-! ### Global accesses (R221 to R224) -/

/-- The virtual address of a global access (R52, R221). -/
def State.gva (s : State) (b : BitVec 5) (f scale : Nat) : BitVec 57 := (s.a b).extractLsb' 0 57 + BitVec.ofNat 57 (f * scale)

/-- ALIGN of a global address (R230). -/
def State.gAlign (s : State) (va : BitVec 57) (align : Nat) (kind : Byte) : Option Cause :=
  if va.toNat % align ≠ 0 then some (s.sysCause 5 0x23 0 (zext64 va) (zext64 va) kind) else none

/-- An access goes out in program order; a counted write adds 1 to WIC (R218). -/
def Context.launch (c : Context) (va : BitVec 57) (op : AccOp) (ord : BitVec 3) (counted : Bool) : Context :=
  let n := c.sys.wic + 1
  { c with
    sys := if counted then { c.sys with wic := n } else c.sys
    mem := { c.mem with
      nextId := c.mem.nextId + 1
      outs := c.mem.outs ++ [{ id := c.mem.nextId, off := c.flow.pc, bclk := c.flow.bclk, va := va, op := op, ord := ord,
                               wic := if counted then some n else none, done := 0, phase := .waiting }] } }

/-- A global load: the destination is empty until it lands (R116, R221); one that narrows reads it, and so keeps it. -/
def State.ldg (s : State) (g : BitVec 4) (r : RegRef) (b : BitVec 5) (o : BitVec 3) (va : BitVec 57) (align : Nat) (late : List (Option Cause))
    (keeps empties : Bool) (op : AccOp) : Out :=
  s.issueOp (s.guard4 g) [] [s.waitRegs [aRef b], if keeps then s.waitRegs [r] else s.waitDest r] (s.gAlign va align 0 :: late) fun s =>
    s.mapLive fun c =>
    let c := c.launch va op o false
    if empties then { c with regs := c.regs.mark r true } else c

/-- A global store (R221). -/
def State.stg (s : State) (g : BitVec 4) (r : RegRef) (b : BitVec 5) (o : BitVec 3) (va : BitVec 57) (align n data : Nat) : Out :=
  s.issueOp (s.guard4 g) [] [s.waitRegs [aRef b, r]] [s.gAlign va align 1] fun s => s.mapLive fun c =>
    c.launch va (.store (leBytes n data)) o true

/-- LDG.A (R221). -/
def execLdgA (g : BitVec 4) (r b : BitVec 5) (o : BitVec 3) (f : BitVec 8) (s : State) : Out :=
  s.ldg g (aRef r) b o (s.gva b f.toNat 8) 8 [] false true (.ldgA r)

/-- STG.A (R221). -/
def execStgA (g : BitVec 4) (r b : BitVec 5) (o : BitVec 3) (f : BitVec 8) (s : State) : Out :=
  s.stg g (aRef r) b o (s.gva b f.toNat 8) 8 8 (s.a r).toNat

/-- LDG.V (R221). -/
def execLdgV (g : BitVec 4) (r : BitVec 6) (b : BitVec 5) (o : BitVec 3) (f : BitVec 8) (s : State) : Out :=
  s.ldg g (vRef r) b o (s.gva b f.toNat 256) 64 [] false true (.ldgV r)

/-- STG.V (R221). -/
def execStgV (g : BitVec 4) (r : BitVec 6) (b : BitVec 5) (o : BitVec 3) (f : BitVec 8) (s : State) : Out :=
  s.stg g (vRef r) b o (s.gva b f.toNat 256) 64 256 (s.v r).toNat

/-- LDG.K (R221). -/
def execLdgK (g : BitVec 4) (r : BitVec 6) (b : BitVec 5) (o : BitVec 3) (f : BitVec 7) (s : State) : Out :=
  s.ldg g (kRef r) b o (s.gva b f.toNat 16) 16 [s.loadBound r] false true (.ldgK r false)

/-- LDG.K with its narrowing bit (R165, R221): only an unbound register is marked empty. -/
def execLdgKN (g : BitVec 4) (r : BitVec 6) (b : BitVec 5) (o : BitVec 3) (f : BitVec 7) (s : State) : Out :=
  s.ldg g (kRef r) b o (s.gva b f.toNat 16) 16 [] true (!s.issue.swage.bound r) (.ldgK r true)

/-- An atomic (R222): it reads aB, aS and, for ACAS, aD; aD is empty until it lands. -/
def State.atomic (s : State) (g : BitVec 4) (d b : BitVec 5) (src : Option (BitVec 5)) (o : BitVec 3) (align : Nat) (op : BitVec 3) : Out :=
  let va := s.gva b 0 8
  s.issueOp (s.guard4 g) [] [s.waitRegs (aRef b :: aRef d :: (src.map aRef).toList)] [s.gAlign va align 3] fun s =>
    s.mapLive fun c =>
      let c := c.launch va (.atomic op d ((src.map s.a).getD 0) (s.a d)) o true
      { c with regs := c.regs.mark (aRef d) true }

/-- AADD (R222). -/
def execAadd (g : BitVec 4) (d b r : BitVec 5) (o : BitVec 3) (s : State) : Out := s.atomic g d b (some r) o 8 0

/-- AMAX (R222). -/
def execAmax (g : BitVec 4) (d b r : BitVec 5) (o : BitVec 3) (s : State) : Out := s.atomic g d b (some r) o 8 1

/-- AMIN (R222). -/
def execAmin (g : BitVec 4) (d b r : BitVec 5) (o : BitVec 3) (s : State) : Out := s.atomic g d b (some r) o 8 2

/-- AXCH (R222). -/
def execAxch (g : BitVec 4) (d b r : BitVec 5) (o : BitVec 3) (s : State) : Out := s.atomic g d b (some r) o 8 3

/-- ACAS (R222). -/
def execAcas (g : BitVec 4) (d b r : BitVec 5) (o : BitVec 3) (s : State) : Out := s.atomic g d b (some r) o 8 4

/-- AMAXF (R222). -/
def execAmaxf (g : BitVec 4) (d b r : BitVec 5) (o : BitVec 3) (s : State) : Out := s.atomic g d b (some r) o 4 5

/-- AMAXRST (R222). -/
def execAmaxrst (g : BitVec 4) (d b : BitVec 5) (o : BitVec 3) (s : State) : Out := s.atomic g d b none o 4 6

/-- An XA operation that writes (R224): it passes the gate, and a suppressed one counts as issued and drained (R354). -/
def State.xaWrite (s : State) (g : BitVec 4) (b : BitVec 5) (srcs : List RegRef) (late : List (Option Cause)) (kind : Nat)
    (op : AccOp) : Out :=
  let va := s.gva b 0 8
  s.issueOp (s.guard4 g) [] [s.waitRegs (aRef b :: srcs)] (late ++ [s.gAlign va 64 3]) fun s => s.mapLive fun c =>
    let key : AccKey := { kind := kind, target := va.toNat }
    match c.gateOf key with
    | .perform => (c.gate key).launch va op 0 true
    | .suppressed =>
      let c := c.gate key
      { c with sys := { c.sys with wic := c.sys.wic + 1 } }
    | .diverged => c.gate key

/-- XADD (R104, R224). -/
def execXadd (g : BitVec 4) (b r : BitVec 5) (s : State) : Out := s.xaWrite g b [aRef r] [] kXadd (.xadd (low32 (s.a r)))

/-- XADDV (R104, R224). -/
def execXaddv (g : BitVec 4) (b : BitVec 5) (r : BitVec 6) (s : State) : Out :=
  s.xaWrite g b [vRef r] [] kXaddv (.xaddv (s.v r))

/-- XRD (R105, R224). -/
def execXrd (g : BitVec 4) (d b : BitVec 5) (m : BitVec 2) (s : State) : Out :=
  let va := s.gva b 0 8
  s.issueOp (s.guard4 g) [] [s.waitRegs [aRef b, aRef d]] [s.gAlign va 64 3] fun s => s.mapLive fun c =>
    let c := c.launch va (.xrd d m) 0 false
    { c with regs := c.regs.mark (aRef d) true }

/-- XRDV (R105, R224). -/
def execXrdv (g : BitVec 4) (d : BitVec 6) (b : BitVec 5) (m : BitVec 2) (s : State) : Out :=
  let va := s.gva b 0 8
  s.issueOp (s.guard4 g) [] [s.waitRegs [aRef b, vRef d]] [s.gAlign va 64 3] fun s => s.mapLive fun c =>
    let c := c.launch va (.xrdv d m) 0 false
    { c with regs := c.regs.mark (vRef d) true }

/-- XCLR (R224): RANGE when the cells run beyond one 4 KiB page (R230). DESIGN CHOICE: TINFO is the number of cells, the value out of range (R308,
log 82). -/
def execXclr (g : BitVec 4) (b : BitVec 5) (c : BitVec 7) (s : State) : Out :=
  let n := c.toNat + 1
  s.xaWrite g b [] [s.check 5 (4096 < (s.gva b 0 8).toNat % 4096 + 64 * n) 0x09 (BitVec.ofNat 64 n)] kXclr (.xclr n)

/-! ### Fences and control blocks -/

/-- A fence holds later accesses by standing among them (R225). -/
def State.fence (s : State) (g : BitVec 4) (kind : BitVec 2) (scope : BitVec 3) : Out :=
  s.issueOp (s.guard4 g) [] [] [] fun s => s.mapLive fun c => c.launch 0 (.fence kind) scope false

/-- FENCE, acquire (R225). -/
def execFenceAcq (g : BitVec 4) (sc : BitVec 3) (s : State) : Out := s.fence g 0 sc

/-- FENCE, release (R225). -/
def execFenceRel (g : BitVec 4) (sc : BitVec 3) (s : State) : Out := s.fence g 1 sc

/-- FENCE, full (R225). -/
def execFenceFull (g : BitVec 4) (sc : BitVec 3) (s : State) : Out := s.fence g 2 sc

/-- The walkers forget the descriptors that they hold of bindings which a condition picks (R226, R262). -/
def State.dropDescs (s : State) (p : Bind → Bool) : State :=
  let drop (b : Bind) : Bind := if p b then { b with desc := none } else b
  { s with mmu := { s.mmu with
      binds := s.mmu.binds.map fun b => (b.1, drop b.2)
      prior := s.mmu.prior.map fun x => { x with bind := drop x.bind } } }

/-- Drops the copies of a control block (R226, R262). -/
def State.dropBlock (s : State) (key : Nat) : State :=
  ({ s with mmu := { s.mmu with copies := Tbl.erase s.mmu.copies (key / 64 * 64) } } : State).dropDescs fun b =>
    keyOf s.fabric.hdm b.walkd.toNat / 64 = key / 64

/-- The next read of a control block at an address of a PASID's space comes from memory (R226). -/
def State.nameAfresh (s : State) (pasid : BitVec 20) (va : Nat) : State :=
  { s with mmu := { s.mmu with afresh := (pasid.toNat, va % 2 ^ 57 / 64) :: s.mmu.afresh } }

/-- CBINV (R226): copies of the block are dropped where it lies now, and wherever it lies when it is read next; where no translation tells, the walkers
keep no descriptor at all, since it may be any. -/
def execCbinv (g : BitVec 4) (b : BitVec 5) (s : State) : Out :=
  s.issueOp (s.guard4 g) [] [s.waitRegs [aRef b]] [s.alignCheck 5 ((s.a b).toNat % 64 ≠ 0) (s.a b)] fun s =>
    let s := s.nameAfresh s.issue.id.pasid (s.a b).toNat
    match s.seek s.issue.agent (s.a b).toNat with
    | some key => s.dropBlock key
    | none => s.dropDescs fun _ => true

/-! ### Value queues (R227 to R229) -/

/-- The value queue that a qid names: one of the home cluster (R227). -/
def State.queue (s : State) (q : BitVec 6) : VQueue := Tbl.get VQueue.fresh (s.clusterOf s.issue.id.home).value q.toNat

/-- ILLEGAL where the queue's mode forbids the operation (R310). -/
def State.modeCheck (s : State) (q : BitVec 6) (ticket : Bool) (word : Nat) : Option Cause :=
  s.context7 5 (decide ((s.queue q).ticketMode ≠ ticket)) word

/-- RANGE where no place is free, TINFO the qid (R35); a replayed push has its place. -/
def State.placeCheck (s : State) (q : BitVec 6) (kind : Nat) : Option Cause :=
  s.check 5 (!s.placeFree && s.issue.run.suppress.head? ≠ some { kind := kind, target := q.toNat }) 0x09 (zext64 q)

/-- A push: it is accepted at the end of its bundle, with WIC as it then stands (R229). -/
def State.pushIt (s : State) (kind : Nat) (p : Push) (inside : Context → Context) : State :=
  s.mapLive fun c => c.pass { kind := kind, target := p.qid.toNat }
    (fun c => ({ c with flow := { c.flow with tail := { c.flow.tail with push := some p } } }).account (-p.weight)) inside

/-- The word of a queue operation. -/
def queueWord (op : Nat) (g : BitVec 4) (q : BitVec 6) (a b : BitVec 5) : Nat :=
  op * 2 ^ 26 + g.toNat * 2 ^ 22 + q.toNat * 2 ^ 16 + a.toNat * 2 ^ 11 + b.toNat * 2 ^ 6

/-- PUSH (R228). -/
def execPush (g : BitVec 4) (q : BitVec 6) (r : BitVec 5) (s : State) : Out :=
  s.issueOp (s.guard4 g) [] [s.waitRegs [aRef r]] [s.modeCheck q false (queueWord 0x30 g q r 0), s.placeCheck q kPush] fun s =>
    s.pushIt kPush { qid := q, payload := (s.a r).zeroExtend 512, weight := 0, ticket := 0, poisoned := false } fun c => c

/-- PUSHT (R228): RANGE for a ticket below NT or equal to one queued. DESIGN CHOICE: where no place is free either, TINFO is the ticket (log 193). -/
def execPusht (g : BitVec 4) (q : BitVec 6) (r t : BitVec 5) (s : State) : Out :=
  let v := s.queue q
  let stale := (s.a t).ult v.nt || v.entries.any fun e => e.ticket = s.a t
  s.issueOp (s.guard4 g) [] [s.waitRegs [aRef r, aRef t]]
    [s.modeCheck q true (queueWord 0x31 g q r t),
     s.check 5 (stale && s.issue.run.suppress.head? ≠ some { kind := kPusht, target := q.toNat }) 0x09 (s.a t), s.placeCheck q kPusht] fun s =>
    s.pushIt kPusht { qid := q, payload := (s.a r).zeroExtend 512, weight := 0, ticket := s.a t, poisoned := false } fun c => c

/-- PUSHQW (R228): RANGE where aW exceeds MYW. DESIGN CHOICE: where no place is free either, TINFO is the weight (log 193). -/
def execPushqw (g : BitVec 4) (q : BitVec 6) (r w : BitVec 5) (s : State) : Out :=
  s.issueOp (s.guard4 g) [] [s.waitRegs [aRef r, aRef w], s.mywWait]
    [s.modeCheck q false (queueWord 0x32 g q r w), s.check 5 (s.issue.sys.myw.ult (s.a w)) 0x09 (s.a w), s.placeCheck q kPushqw] fun s =>
    s.pushIt kPushqw { qid := q, payload := (s.a r).zeroExtend 512, weight := s.a w, ticket := 0, poisoned := false }
      fun c => c.fly 1 5 (.mywSub (s.a w))

/-- A POP or POPR waits at the queue in the order of arrival (R228). -/
def State.waitAt (s : State) (q : BitVec 6) (r : BitVec 5) (off : Option Nat) : State :=
  let c := s.live
  let w : Waiter := { ctx := s.uid, r := r, off := off, id := c.mem.nextId, bclk := c.flow.bclk, pc := c.flow.pc }
  let v := s.queue q
  let s := s.mapCluster s.issue.id.home fun g => { g with value := Tbl.put g.value q.toNat { v with waiters := v.waiters ++ [w] } }
  s.mapLive fun c => { c with
    regs := c.regs.mark (aRef r) true
    mem := { c.mem with nextId := c.mem.nextId + 1 } }

/-- POP (R228). -/
def execPop (g : BitVec 4) (q : BitVec 6) (d : BitVec 5) (s : State) : Out :=
  s.issueOp (s.guard4 g) [] [s.waitRegs [aRef d]] [] fun s => s.waitAt q d none

/-- The checks of a scratchpad record of 64 bytes (R228, R230). -/
def State.recordCheck (s : State) (off : W64) : List (Option Cause) :=
  [s.check 5 (s.issue.scrSize < off.toNat + 64) 0x09 off, s.alignCheck 5 (off.toNat % 64 ≠ 0) off]

/-- PUSHR (R228). DESIGN CHOICE: where no place is free and the record lies beyond the partition too, TINFO is the qid (log 193). -/
def execPushr (g : BitVec 4) (q : BitVec 6) (r : BitVec 5) (s : State) : Out :=
  let off := (s.a r).toNat
  s.issueOp (s.guard4 g) [] [s.waitRegs [aRef r]]
    (s.modeCheck q false (queueWord 0x34 g q r 0) :: s.placeCheck q kPushr :: s.recordCheck (s.a r)) fun s =>
    s.pushIt kPushr { qid := q, payload := BitVec.ofNat 512 (leNat (s.issue.scrView s.tick off 64)), weight := 0, ticket := 0,
                      poisoned := (s.issue.viewMarked? s.tick off 64).isSome } fun c => c

/-- POPR (R228). -/
def execPopr (g : BitVec 4) (q : BitVec 6) (r : BitVec 5) (s : State) : Out :=
  s.issueOp (s.guard4 g) [] [s.waitRegs [aRef r]] (s.recordCheck (s.a r)) fun s => s.waitAt q r (some (s.a r).toNat)

end Sys2Proof.Machine
end

