-- ==== Sys2Proof/Machine/Access.lean ====
section
/-! DEFINITION. When outstanding accesses perform and what they do (R116, R218, R222 to R225, R249 to R255): the write path
of a cluster, loads, stores, atomics and exact accumulators, faults and watchpoints at the moment of
performing (R299, R326, R344, R348, R350); late writes of DIV, REM and the indexed scratchpad forms (R164, R220). -/

namespace Sys2Proof.Machine

/-! ### Who may perform -/

/-- Whether a context takes late values as it stands: halted and evicted ones do not (R331). -/
def Context.awake (c : Context) : Bool := match c.id.status with
  | .running | .ready | .parked | .stopped | .qwait => true
  | _ => false

/-- Whether the writes of a context go on draining. -/
def Context.drains (c : Context) : Bool := decide (c.id.status ≠ .restoring)

/-! ### Places (R70 to R73) -/

/-- The parts of [va, va + n) in the 64-byte lines it touches. -/
def piecesOf (va n : Nat) : List (Nat × Nat) :=
  (linesOf va n).map fun l => (max va (64 * l), min (va + n) (64 * l + 64) - max va (64 * l))

/-- The places of some parts, if every page is at hand. -/
def State.placesOf (s : State) (w : Agent) (kind : AccKind) : List (Nat × Nat) → Option (List (Nat × Nat))
  | [] => some []
  | p :: t => match s.place? w p.1 kind, s.placesOf w kind t with
    | some k, some ps => some ((k, p.2) :: ps)
    | _, _ => none

/-- The places of a range of virtual addresses. -/
def State.spans (s : State) (w : Agent) (va n : Nat) (kind : AccKind) : Option (List (Nat × Nat)) :=
  s.placesOf w kind (piecesOf va n)

/-- The bytes of some places. -/
def State.readSpans (s : State) (ps : List (Nat × Nat)) : List Byte := ps.flatMap fun p => s.bytes p.1 p.2

/-- Writes bytes to some places. -/
def State.writeSpans (s : State) : List (Nat × Nat) → List Byte → State
  | [], _ => s
  | p :: t, bs => (s.store p.1 (bs.take p.2)).writeSpans t (bs.drop p.2)

/-- Poisons some places. -/
def State.poisonSpans (s : State) (ps : List (Nat × Nat)) : State := ps.foldl (fun s p => s.poisonLines p.1 p.2) s

def State.spansPoisoned (s : State) (ps : List (Nat × Nat)) : Bool := ps.any fun p => s.isPoisoned p.1 p.2

/-- Whether a place is closed to a world (R77). -/
def State.spansSecure (s : State) (world : Bool) (ps : List (Nat × Nat)) : Bool := !world && ps.any fun p => s.isSecure p.1

/-- Whether no port leads to a place (R348). -/
def State.spansCut (s : State) (ps : List (Nat × Nat)) : Bool := ps.any fun p => s.linkDown p.1

/-! ### Accesses -/

/-- The translation an access needs: XA reads set FLAGS, so every atomic and XA operation writes. -/
def AccOp.kind : AccOp → AccKind
  | .ldgA _ | .ldgV _ | .ldgK _ _ => .read
  | _ => .write

/-- KIND of a fault report (R322). -/
def AccOp.reportKind : AccOp → Byte
  | .ldgA _ | .ldgV _ | .ldgK _ _ => 0
  | .store _ => 1
  | .fence _ => 4
  | _ => 3

/-- The address that the next event of an access concerns: vector XA operations go cell by cell (R224). -/
def Acc.cellVa (a : Acc) : Nat := match a.op with
  | .xaddv _ | .xrdv _ _ | .xclr _ => a.va.toNat + 64 * a.done
  | _ => a.va.toNat

/-- The bytes of that event. -/
def Acc.cellSize (a : Acc) : Nat := match a.op with
  | .xaddv _ | .xrdv _ _ | .xclr _ => 64
  | op => op.size

/-! ### Failure (R326, R344, R348, R350) -/

/-- The cause of a failed access. -/
def Acc.cause (a : Acc) (code reason : Byte) (tinfo va : W64) : Cause :=
  { code := code, reason := reason, slot := 5, off := a.off, tinfo := tinfo, va := va, kind := a.op.reportKind, seq := a.bclk.toNat }

/-- Changes one outstanding access. -/
def MemSide.mapAcc (m : MemSide) (id : Nat) (f : Acc → Acc) : MemSide :=
  { m with outs := m.outs.map fun e => if e.id = id then f e else e }

/-- An access fails: it becomes a pending fault entry, and the context learns of it unless it is halted (R326, R331); one of
a run that is over is tried again if a reset ended the run (R353), and abandoned if it was killed (R323). -/
def Context.failAcc (c : Context) (a : Acc) (code reason : Byte) (tinfo va : W64) : Context :=
  let c' := { c with mem := c.mem.mapAcc a.id fun e => { e with phase := .failed code reason } }
  if c.awake then c'.blame (a.cause code reason tinfo va)
  else if c.id.status = .ghost then
    if c.persists code reason then { c with mem := c.mem.mapAcc a.id fun e => { e with phase := .waiting } }
    else { c with mem := ({ c.mem with outs := c.mem.outs.filter fun e => e.id ≠ a.id } : MemSide).sweepFences }
  else c'

/-- An access fails, and a run that is over may be done with. -/
def State.failAccess (s : State) (uid : Nat) (a : Acc) (code reason : Byte) (tinfo va : W64) : State :=
  (s.mapCtx uid fun c => c.failAcc a code reason tinfo va).reap uid

/-- The first poisoned line that an access consumes, by its number; one that an earlier store still out replaces whole is not read from memory
(R252, R343, R344). -/
def State.consumed? (s : State) (m : MemSide) (a : Acc) (ps : List (Nat × Nat)) : Option Nat :=
  (List.range ps.length).find? fun i => match ps[i]? with
    | some p => s.isPoisoned p.1 p.2 && !m.replaces (fun e => decide (e.id < a.id)) (a.cellVa / 64 + i)
    | none => false

/-- Why an access with its places found does not perform, if anything; of what no port leads to TINFO names the first part, of poison the unit
(R77, R344, R348). -/
def State.accFault (s : State) (c : Context) (a : Acc) (ps : List (Nat × Nat)) : Option (Byte × Byte × W64 × W64) :=
  let va := zext64 a.va
  let unit (i : Nat) : W64 := BitVec.ofNat 64 ((a.cellVa / 64 + i) * 64)
  match ps.findIdx? fun p => s.linkDown p.1 with
  | some i => some (0x31, 0, if i = 0 then BitVec.ofNat 64 a.cellVa else unit i, va)
  | none =>
    if s.spansSecure c.id.world ps then some (0x22, 3, 0, va)
    else match (if a.op.reads then s.consumed? c.mem a ps else none) with
      | some i => some (0x30, 0, unit i, va)
      | none => none

/-! ### Watchpoints (R299, R338) -/

/-- Whether watchpoint i covers an access. -/
def Context.watches (c : Context) (i : Nat) (va n : Nat) (rd wr : Bool) : Bool :=
  let wc := Tbl.get 3 c.dbg.wc i
  bitOf wc 8 && ((rd && bitOf wc 6) || (wr && bitOf wc 7)) &&
    rangesMeet va n ((Tbl.get 0 c.dbg.wa i).toNat % 2 ^ 57) (2 ^ (wc.extractLsb' 0 6).toNat)

/-- DSTAT after a hit: of several the lowest INDEX stays (R299, R338). -/
def hitStat (d : W64) (i : Nat) : W64 :=
  if d.extractLsb' 0 4 = 3 ∧ (d.extractLsb' 4 3).toNat < i then d else stopStat d 3 i

/-- One hit: a STOP record, and a stop or WATCH at the next boundary. -/
def State.watchHit (s : State) (uid : Nat) (c : Context) (a : Acc) (i : Nat) : State :=
  let va := zext64 a.va
  let s := s.traceOf c.id.core c (stopRecord c.id.core c s.mcc 3 i 5 a.off a.bclk va)
  s.mapCtx uid fun c =>
    let c := { c with dbg := { c.dbg with dwaddr := va, dstat := hitStat c.dbg.dstat i } }
    if bitOf c.dbg.dctl 0 then { c with dbg := { c.dbg with pend := c.dbg.pend ++ [(3, i, va, 5, a.off)] } }
    else c.blame { causeAt a.bclk 0x28 5 a.off va with va := va, kind := a.op.reportKind }

/-- The watchpoints that an access hits as it performs. -/
def State.watch (s : State) (uid : Nat) (c : Context) (a : Acc) : State :=
  if !(bitOf c.dbg.dctl 4 && s.traces? c) then s
  else
    let hits := (List.range 4).filter fun i => c.watches i a.va.toNat a.op.size a.op.reads (a.op.kind = .write && !a.op.loads)
    hits.foldl (fun s i => s.watchHit uid c a i) s

/-! ### Performing -/

/-- Whether an earlier write that is to be seen with one that has come before it is still out: of an engine's any write of its context, of one of
the path those of the path (R254, R267). -/
def MemSide.passed (m : MemSide) (r : Ahead) : Bool :=
  m.outs.any fun e => decide (e.id < r.id) && if r.coreOnly then e.wic.isSome else e.op.onPath

/-- The writes that have come before earlier ones which are still out. -/
def MemSide.sweepAhead (m : MemSide) : MemSide := { m with ahead := m.ahead.filter m.passed }

/-- An access is done: it leaves the list, and fences that waited for it go. -/
def Context.accDone (c : Context) (id : Nat) : Context :=
  { c with mem := ({ c.mem with outs := c.mem.outs.filter fun e => e.id ≠ id } : MemSide).sweepFences.sweepAhead }

/-- Whether an access that is done, or a fence whose last earlier read it was, acquires (R253). -/
def Context.acquiresBy (c : Context) (a : Acc) : Bool :=
  a.acquires || (a.op.reads &&
    ({ c.mem with outs := c.mem.outs.filter fun e => e.id ≠ a.id } : MemSide).acquires fun id => decide (a.id < id))

/-- The end of an access: watchpoints, tags, the copies that an acquire ends (R262), and the end of a context that waited for nothing
else. -/
def State.finishAcc (s : State) (uid : Nat) (c : Context) (a : Acc) : State :=
  let s := if c.acquiresBy a then s.dropCopies else s
  let s := (s.watch uid c a).mapCtx uid fun c => c.accDone a.id
  (s.mapCtx uid fun c => s.tagStep uid c).reap uid

/-- The new value of an atomic's word (R222). -/
def atomicNew (op : BitVec 3) (old x cmp : W64) : W64 :=
  match op.toNat with
  | 0 => old + x
  | 1 => if old.slt x then x else old
  | 2 => if x.slt old then x else old
  | 3 => x
  | 4 => if old = cmp then x else old
  | 5 => zext64 (fMax (low32 old) (low32 x))
  | _ => 0

/-- What LDG.K writes, and whether it does: a load that fails writes nothing (R83, R165, R175, R221). -/
def Context.landK (c : Context) (a : Acc) (r : BitVec 6) (narrow : Bool) (x : Dom) : Context × Bool :=
  let fail (code : Byte) (tinfo : W64) : Context × Bool :=
    (c.blame (causeAt a.bclk code 5 a.off tinfo), false)
  match kPattern x with
  | none => fail 0x01 (failInfo 0xFFFF r)
  | some d =>
    if !narrow then ({ c with regs := c.regs.writeK r d }, true)
    else match hullRuns ((domRuns d).inter (domRuns (c.regs.readK r))) with
      | none => fail 0x01 (failInfo 0xFFFF r)
      | some m => match c.narrow [(r, m)] with
        | .ok c => (c, true)
        | .error q => fail 0x05 (regInfo .k q.toNat)

/-- A narrowing load that has landed makes a propagation due at its boundary, one with the other narrowings of that point (R169); where a halt has come
between two wakes, what it wakes joins the queue that is kept (R171). -/
def Context.wakeAtBoundary (c : Context) : Context :=
  if c.trap.handler || (c.swage.busy && c.swage.begun) then { c with swage := c.swage.wakeUp }
  else { c with swage := c.swage.begin }

/-- LDG.K lands: a bound register was never empty, any other is filled; a narrowing wakes the relations that name it (R165, R169). -/
def State.landLdgK (s : State) (uid : Nat) (a : Acc) (r : BitVec 6) (narrow : Bool) (x : Dom) : State :=
  let s := s.landLate uid 5 a.id a.off a.bclk (kRef r) (some fun c => c.landK a r narrow x)
  if narrow then s.mapCtx uid Context.wakeAtBoundary else s

/-- A load, an atomic or an XA read performs (R221, R222, R224). -/
def State.performLoad (s : State) (uid : Nat) (c : Context) (a : Acc) (ps : List (Nat × Nat)) : State :=
  let late (r : RegRef) (put : Regs → Regs) (s : State) : State := s.landReg uid 5 a.id a.off a.bclk r put
  let bytes := c.mem.overlay a.va.toNat (fun e => decide (e.id < a.id)) (s.readSpans ps)
  match a.op with
  | .ldgA r => (late (aRef r) (fun g => g.writeA r (BitVec.ofNat 64 (leNat bytes))) s).finishAcc uid c a
  | .ldgV r => (late (vRef r) (fun g => g.writeV r (BitVec.ofNat 2048 (leNat bytes))) s).finishAcc uid c a
  | .ldgK r n => (s.landLdgK uid a r n (BitVec.ofNat 128 (leNat bytes))).finishAcc uid c a
  | .atomic op d x cmp =>
    let old := BitVec.ofNat 64 (leNat (s.readSpans ps))
    let s := s.writeSpans ps (leBytes a.op.size (atomicNew op old x cmp).toNat)
    (late (aRef d) (fun g => g.writeA d old) s).finishAcc uid c a
  | .xrd d m =>
    let v := xaRead (BitVec.ofNat 512 (leNat (s.readSpans ps))) (rmOf m)
    let s := s.writeSpans ps (leBytes 64 v.2.toNat)
    (late (aRef d) (fun g => g.writeA d (zext64 v.1)) s).finishAcc uid c a
  | .xrdv d m =>
    let v := xaRead (BitVec.ofNat 512 (leNat (s.readSpans ps))) (rmOf m)
    let s := s.writeSpans ps (leBytes 64 v.2.toNat)
    let lanes := mkV fun i => if i = a.done then v.1 else laneV a.lanes i
    if 63 ≤ a.done then (late (vRef d) (fun g => g.writeV d lanes) s).finishAcc uid c a
    else s.mapCtx uid fun c => { c with mem := c.mem.mapAcc a.id fun e => { e with done := e.done + 1, lanes := lanes } }
  | _ => s

/-- A cell with an addition; a poisoned cell stays poisoned (R104, R343). -/
def State.addCell (s : State) (ps : List (Nat × Nat)) (x : W32) (poisoned : Bool) : State :=
  let mark := poisoned || s.spansPoisoned ps
  let s := s.writeSpans ps (leBytes 64 (xaAdd (BitVec.ofNat 512 (leNat (s.readSpans ps))) x).toNat)
  if mark then s.poisonSpans ps else s

/-- A store or an XA write performs; it drains in the same event (R218, R224). -/
def State.performWrite (s : State) (uid : Nat) (c : Context) (a : Acc) (ps : List (Nat × Nat)) : State :=
  let step (s : State) (n : Nat) : State :=
    if n ≤ a.done + 1 then s.finishAcc uid c a
    else s.mapCtx uid fun c => { c with mem := c.mem.mapAcc a.id fun e => { e with done := e.done + 1 } }
  match a.op with
  | .store bs => (s.writeSpans ps bs).finishAcc uid c a
  | .xadd x => (s.addCell ps x false).finishAcc uid c a
  | .xaddv x => step (s.addCell ps (laneV x a.done) false) 64
  | .xclr n => step (s.writeSpans ps (leBytes 64 xaCleared.toNat)) n
  | _ => s

/-! ### The write path and forked readers (R251, R254, R256) -/

/-- Whether two lists of places share a byte. -/
def placesMeet (ps qs : List (Nat × Nat)) : Bool := ps.any fun p => qs.any fun q => rangesMeet p.1 p.2 q.1 q.2

/-- Whether an agent of a core must wait to read some places: a write of another context lies there that the agent would see before earlier
ones which it has to see with it (R254, R267), and which are then among what it has observed before a release of its own (R253). -/
def State.passedThere (s : State) (uid core : Nat) (ps : List (Nat × Nat)) : Bool :=
  s.ctxs.any fun d => d.1 ≠ uid && d.2.mem.ahead.any fun r =>
    (if r.coreOnly then decide (r.core = core) else decide (r.core / 16 = core / 16)) && placesMeet ps r.ps && d.2.mem.passed r

/-- The places of the next event of an access: those at which it has come to its cluster, or those that its translations give. -/
def State.accPlaces (s : State) (uid : Nat) (c : Context) (a : Acc) : Option (List (Nat × Nat)) :=
  if a.placed.isEmpty then s.spans (c.agentOf uid a.id) a.cellVa a.cellSize a.op.kind else some a.placed

/-- Whether an outstanding write of the path drains as soon as the cluster's other agents let it: its page is at hand, nothing faults, and
nothing of its context but earlier writes of the path holds it. DEDUCED: an atomic that has to wait to read does not drain so (log 85). -/
def State.couldDrain (s : State) (uid : Nat) (c : Context) (e : Acc) : Bool :=
  e.phase = .waiting && !c.mem.pinned e && !s.popBefore uid e.id &&
    match s.accPlaces uid c e with
    | some ps => (s.accFault c e ps).isNone && !(e.op.reads && s.passedThere uid c.id.core ps)
    | none => false

/-- Whether an earlier write of the path holds one that takes it: writes drain to their cluster in order, and beyond it in any order, so
that one which could drain may be passed (R254). -/
def State.pathHolds (s : State) (uid : Nat) (c : Context) (a : Acc) : Bool :=
  a.op.onPath && c.mem.outs.any fun e => decide (e.id < a.id) && e.op.onPath && !s.couldDrain uid c e

/-- A write from a core comes to memory: where earlier ones are still out with which it is to be seen, it is noted as ahead of them
(R254, R267). -/
def MemSide.getAhead (m : MemSide) (id core : Nat) (coreOnly : Bool) (ps : List (Nat × Nat)) : MemSide :=
  if ps.isEmpty then m
  else ({ m with ahead := m.ahead ++ [{ id := id, core := core, coreOnly := coreOnly, ps := ps }] } : MemSide).sweepAhead

/-- A write of the path that a later one passes has come to its cluster, and keeps the places at which it has (R254). -/
def State.passAcc (s : State) (uid : Nat) (c : Context) (id : Nat) (e : Acc) : Acc :=
  if decide (e.id < id) && e.op.onPath && decide (e.phase = .waiting) then { e with placed := (s.accPlaces uid c e).getD [] } else e

/-- A write of the path has come to memory. -/
def State.passPath (s : State) (uid : Nat) (a : Acc) (ps : List (Nat × Nat)) (c : Context) : Context :=
  if a.op.onPath then
    let m := c.mem.getAhead a.id c.id.core false ps
    { c with mem := { m with outs := m.outs.map (s.passAcc uid c a.id) } }
  else c

/-- Whether anything but the state of its context holds an access whose places are found. -/
def State.accHeld (s : State) (uid : Nat) (c : Context) (a : Acc) (ps : List (Nat × Nat)) : Bool :=
  s.popBefore uid a.id || s.pathHolds uid c a || (a.op.reads && s.passedThere uid c.id.core ps)

/-- The old bytes of some places are kept from a gather's issuer's later write, those that are kept already apart. -/
def Gather.hide (g : Gather) (key : Nat) : List Byte → Gather
  | [] => g
  | b :: t => ({ g with hidden := Tbl.put g.hidden key ((Tbl.find g.hidden key).getD b) } : Gather).hide (key + 1) t

/-- Another agent has written some places: what was kept of them is gone. -/
def Gather.reveal (g : Gather) (ps : List (Nat × Nat)) : Gather :=
  { g with hidden := g.hidden.filter fun e => !ps.any fun p => decide (p.1 ≤ e.1) && decide (e.1 < p.1 + p.2) }

/-- A write of some places is seen whole by every gather but those of one context (R251, R256). -/
def State.reveal (s : State) (but : Option Nat) (ps : List (Nat × Nat)) : State :=
  { s with ctxs := s.ctxs.map fun d => if some d.1 = but then d else
      (d.1, { d.2 with mem := { d.2.mem with gathers := d.2.mem.gathers.map fun g => g.reveal ps } }) }

/-- After a write of some places, from the state before it: the gathers that its context had open before it keep what was there (R256), those
of others see the write, and a write of the path is noted where it comes before earlier ones. -/
def State.hideFrom (s t : State) (uid : Nat) (a : Acc) (ps : List (Nat × Nat)) : State :=
  let keep (g : Gather) : Gather :=
    if g.bclk.ule a.bclk then ps.foldl (fun g p => g.hide p.1 (s.bytes p.1 p.2)) g else g
  (t.reveal (some uid) ps).mapCtx uid fun c =>
    s.passPath uid a ps { c with mem := { c.mem with gathers := c.mem.gathers.map keep } }

/-- An outstanding access by its number. -/
def Context.acc? (c : Context) (id : Nat) : Option Acc := c.mem.outs.find? fun a => a.id = id

/-- Whether a narrowing load must wait for a propagation in course to end: it lands at a boundary (R169). DEDUCED: at a halt between two wakes,
a stop for the debugger among them, that boundary is the halt (R264, R295, log 166). -/
def Context.midWake (c : Context) (a : Acc) : Bool := c.swage.busy && c.swage.begun && decide (c.id.status = .running) && match a.op with
  | .ldgK _ true => true
  | _ => false

/-- LOAD_LANDING (R116). -/
def execLoadLanding (uid id : Nat) (s : State) : Out :=
  match s.ctx? uid with
  | none => .refused .notPending
  | some c => match c.acc? id with
    | none => .refused .notPending
    | some a =>
      let may := c.awake || (match c.id.status with
        | .evicting _ _ => (s.mustLand uid c).contains a.id || a.wic.isSome
        | .restoring => false
        | _ => a.wic.isSome)
      if !may || !a.op.reads || a.phase ≠ .waiting || c.midWake a || c.mem.holds a then .refused .notPending
      else match s.accPlaces uid c a with
        | none => .refused .notPending
        | some ps =>
          if s.accHeld uid c a ps then .refused .notPending
          else match s.accFault c a ps with
            | some (code, reason, tinfo, va) => .next (s.failAccess uid a code reason tinfo va)
            | none => .next (if a.op.loads then s.performLoad uid c a ps else s.hideFrom (s.performLoad uid c a ps) uid a ps)

/-- WRITE_DRAINED (R249). -/
def execWriteDrained (uid id : Nat) (s : State) : Out :=
  match s.ctx? uid with
  | none => .refused .notPending
  | some c => match c.acc? id with
    | none => .refused .notPending
    | some a =>
      if !c.drains || a.op.reads || a.op.size = 0 || a.phase ≠ .waiting || c.mem.holds a then .refused .notPending
      else match s.accPlaces uid c a with
        | none => .refused .notPending
        | some ps =>
          if s.accHeld uid c a ps then .refused .notPending
          else match s.accFault c a ps with
            | some (code, reason, tinfo, va) => .next (s.failAccess uid a code reason tinfo va)
            | none => .next (s.hideFrom (s.performWrite uid c a ps) uid a ps)

/-! ### Late writes without memory (R164, R220) -/

/-- DIV_REM_WRITE (R164): the singleton, or DIVZERO with the destination left empty. -/
def execDivRemWrite (uid id : Nat) (s : State) : Out :=
  match s.ctx? uid with
  | none => .refused .notPending
  | some c => match c.mem.divs.find? fun d => d.id = id with
    | none => .refused .notPending
    | some d =>
      let s := s.mapCtx uid fun c => { c with mem := { c.mem with divs := c.mem.divs.filter fun x => x.id ≠ id } }
      let s := match d.result with
        | some x => s.landReg uid 1 id d.off d.bclk (kRef d.d) fun g => g.writeK d.d (domSingle x.toInt)
        | none => s.mapCtx uid fun c => c.blame (causeAt d.bclk 0x14 1 d.off (regInfo .k d.d.toNat))
      .next (s.mapCtx uid fun c => s.tagStep uid c)

/-- A gather from scratchpad has read a poisoned bank word: MEMERR where its value would land, and it becomes a pending fault entry that reads again
when its context resumes; while the context is halted it raises nothing (R58, R326, R344). -/
def Context.failScatter (c : Context) (x : Scatter) (at_ : Nat) : Context :=
  let c' := { c with mem := { c.mem with scats := c.mem.scats.map fun y => if y.id = x.id then { y with failed := true } else y } }
  if c.awake then
    c'.blame (causeAt x.bclk 0x30 5 x.off (BitVec.ofNat 64 (2 ^ 63 + at_)))
  else c'

/-- SCATTER_GATHER_DONE (R220). -/
def execScatterGatherDone (uid id : Nat) (s : State) : Out :=
  match s.ctx? uid with
  | none => .refused .notPending
  | some c => match c.mem.scats.find? fun x => x.id = id && !x.failed with
    | none => .refused .notPending
    | some x =>
      let gone (s : State) : State := s.mapCtx uid fun c => { c with mem := { c.mem with scats := c.mem.scats.filter fun y => y.id ≠ id } }
      let s := match x.index, x.bad with
        | some i, _ =>
          let s := (gone s).mapCtx uid fun c => { c with mem := c.mem.scatter x }
          (s.landLate uid 5 id x.off x.bclk (vRef x.r) none).landLate uid 5 id x.off x.bclk (vRef i) none
        | none, some o => s.mapCtx uid fun c => c.failScatter x o
        | none, none => (gone s).landReg uid 5 id x.off x.bclk (vRef x.r) fun g => g.writeV x.r x.data
      .next (s.mapCtx uid fun c => s.tagStep uid c)

end Sys2Proof.Machine
end

