-- ==== Sys2Proof/Machine/Cpy.lean ====
section
/-! DEFINITION. The Tongs slot, slot 7 (R241 to R247): copies and exact reductions as engine threads, tile counts, gathers.
Sources and lengths are read at issue, and an empty register blocks. -/

namespace Sys2Proof.Machine

/-- The word of a CPY command. -/
def cpyWord (op : Nat) (t : BitVec 6) (d r l : BitVec 5) (dc : Bool) : Nat :=
  op * 2 ^ 27 + t.toNat * 2 ^ 21 + d.toNat * 2 ^ 16 + r.toNat * 2 ^ 11 + l.toNat * 2 ^ 6 + if dc then 1 else 0

/-! ### Threads of the Tongs (R241) -/

/-- Whether the Tongs of its core carry what a context has issued: what lies in its image they do not, but for a quench, nor what a halt has cut (R22,
R241, R330, R352). -/
def Context.carries (c : Context) (x : Copy) : Bool := match c.id.status with
  | .evicted | .restoring | .halted _ => x.quench
  | .evicting _ _ => x.moves
  | _ => true

/-- Engine threads of a context that the Tongs carry. -/
def Context.threads (c : Context) : Nat :=
  (c.mem.copies.filter c.carries).length + match c.id.status with
    | .evicted | .restoring | .halted _ => 0
    | .evicting _ _ => (c.mem.gathers.filter fun g => decide (g.phase = .waiting) && !g.queue.isEmpty).length
    | _ => c.mem.gathers.length

/-- Indices of a context in its core's queue (R246). -/
def Context.indices (c : Context) : Nat := match c.id.status with
  | .evicted | .restoring | .halted _ | .ghost => 0
  | _ => sumNat (c.mem.gathers.map fun g => g.queue.length)

/-- Sums over the contexts of the running core, the live one as it stands. -/
def State.sumCore (s : State) (f : Context → Nat) : Nat :=
  sumNat (s.ctxs.map fun e => if e.1 ≠ s.uid && e.2.id.core = s.core then f e.2 else 0) + f s.live

/-- The wait for a free thread: stall source 11. -/
def State.threadWait (s : State) : Option Nat := if 64 ≤ s.sumCore Context.threads then some 11 else none

/-! ### Checks (R247, R304) -/

/-- ILLEGAL 7 for an aL value that breaks R241. -/
def State.lenCheck (s : State) (l : BitVec 5) (dc : Bool) (word : Nat) : Option Cause :=
  let x := s.a l
  s.context7 7 (x.extractLsb' 32 16 ≠ 0 || (!dc && x.extractLsb' 48 16 ≠ 0)) word

/-- TILESTATE in stage 2: te0 to te31 need their slot claimed (R245). -/
def State.claimCheck (s : State) (t : BitVec 6) : Option Cause :=
  s.check 7 (decide (t.toNat < 32) && !teClaimed (s.issue.te t.toNat)) 0x15 (tileInfo 0 (s.issue.te t.toNat) .te t.toNat)

/-- TILESTATE in stage 4: an entry in the wrong state. -/
def State.tileCheck (s : State) (t : BitVec 6) (bad : BitVec 2 → Bool) : Option Cause :=
  let x := s.issue.te t.toNat
  s.check 7 (bad (teSt x)) 0x15 (tileInfo 0 x .te t.toNat)

/-- RANGE for a value outside its limits. -/
def State.limitCheck (s : State) (x : Nat) (lo hi : Nat) : Option Cause :=
  s.check 7 (x < lo || hi < x) 0x09 (BitVec.ofNat 64 x)

/-- RANGE for scratchpad bytes beyond the partition. -/
def State.scrEnd (s : State) (off : W64) (n : Nat) : Option Cause := s.check 7 (s.issue.scrSize < off.toNat + n) 0x09 off

/-- ALIGN of an offset, stride or length. -/
def State.unitCheck (s : State) (x : W64) (unit : Nat) : Option Cause := s.alignCheck 7 (x.toNat % unit ≠ 0) x

/-- ALIGN of a global address, with the access kind of R322. -/
def State.globalCheck (s : State) (x : W64) (kind : Byte) : Option Cause :=
  if x.toNat % 64 ≠ 0 then some (s.sysCause 7 0x23 0 x x kind) else none

/-- The largest length of a copy (R243). -/
def lenMax : Nat := 2 ^ 24 - 64

/-! ### Starting a thread -/

/-- The sectors of n bytes (R242, R244). -/
def sectorsOf (n : Nat) : List Nat := List.range ((n + 4095) / 4096)

/-- The dependence counter that aL names (R241). -/
def State.dcOf (s : State) (l : BitVec 5) (dc : Bool) : Option (BitVec 16) := if dc then some ((s.a l).extractLsb' 48 16) else none

/-- A global address without the bits that R52 ignores. -/
def global57 (x : W64) : W64 := x &&& 0x01FFFFFFFFFFFFFF

/-- Whether a copy reads global memory, and whether it writes it (R243, R244). -/
def CopyKind.readsGlobal : CopyKind → Bool
  | .g2s | .g2o | .g2g => true
  | _ => false

def CopyKind.writesGlobal : CopyKind → Bool
  | .s2g | .g2g | .xred => true
  | _ => false

/-- The thread of a copy; of a global address bits [63:57] are ignored (R52). -/
def State.thread (s : State) (kind : CopyKind) (t : BitVec 6) (dc : Option (BitVec 16)) (dst src : W64) (len stride : Nat) (fmt : W32)
    (source : List Byte × List Nat) : Copy :=
  { id := s.live.mem.nextId, bclk := s.issue.flow.bclk, off := s.issue.flow.pc, kind := kind,
    te := if dc.isSome then none else some t, dc := dc, dst := if kind.writesGlobal then global57 dst else dst,
    src := if kind.readsGlobal then global57 src else src, len := len, stride := stride, fmt := fmt,
    left := sectorsOf len, paged := [], failed := none, data := source.1, poison := source.2, wic := none }

/-- Forks a thread (R256). -/
def Context.fork (c : Context) (x : Copy) : Context :=
  { c with mem := { c.mem with nextId := c.mem.nextId + 1, copies := c.mem.copies ++ [x] } }

/-- Forks a thread whose writes count in WIC (R218). -/
def Context.forkCounted (c : Context) (x : Copy) : Context :=
  let n := c.sys.wic + 1
  ({ c with sys := { c.sys with wic := n } }).fork { x with wic := some n }

/-- Forks an outgoing thread through the gate; a suppressed one counts as issued and drained, and counts its full length
into its entry at once (R354). -/
def Context.forkGated (c : Context) (key : AccKey) (incoming : Bool) (x : Copy) : Context :=
  match c.gateOf key with
  | .perform => (c.gate key).forkCounted x
  | .suppressed =>
    let c := c.gate key
    let c := { c with sys := { c.sys with wic := c.sys.wic + 1 } }
    match x.te with
    | some t => c.countTile t.toNat incoming x.len x.off x.bclk
    | none => c
  | .diverged => c.gate key

/-! ### Commands -/

/-- NOP_CPY (R109). -/
def execNopCpy (s : State) : Out := s.issueOp true [] [] [] fun s => s

/-- CG2S (R243). -/
def State.cg2s (s : State) (t : BitVec 6) (d r l : BitVec 5) (dc : Bool) : Out :=
  let len := (low32 (s.a l)).toNat
  s.issueOp true [] [s.waitRegs [aRef d, aRef r, aRef l], s.threadWait]
    [s.lenCheck l dc (cpyWord 1 t d r l dc), if dc then none else s.tileCheck t (· ≠ teFilling),
     s.limitCheck len 64 lenMax, s.scrEnd (s.a d) len, s.globalCheck (s.a r) 0, s.unitCheck (s.a d) 64,
     s.unitCheck (BitVec.ofNat 64 len) 64] fun s =>
      s.mapLive fun c => c.fork (s.thread .g2s t (s.dcOf l dc) (s.a d) (s.a r) len 0 0 ([], []))

/-- CG2S. -/
def execCg2s (t : BitVec 6) (d r l : BitVec 5) (s : State) : Out := s.cg2s t d r l false

/-- CG2S with a dependence counter. -/
def execCg2sDc (d r l : BitVec 5) (s : State) : Out := s.cg2s 0 d r l true

/-- CS2G (R243): an outgoing copy, accepted work. -/
def State.cs2g (s : State) (t : BitVec 6) (d r l : BitVec 5) (dc : Bool) : Out :=
  let len := (low32 (s.a l)).toNat
  s.issueOp true [] [s.waitRegs [aRef d, aRef r, aRef l], s.threadWait]
    [s.lenCheck l dc (cpyWord 2 t d r l dc), if dc then none else s.tileCheck t (· ≠ teDraining),
     s.limitCheck len 64 lenMax, s.scrEnd (s.a r) len, s.globalCheck (s.a d) 1, s.unitCheck (s.a r) 64,
     s.unitCheck (BitVec.ofNat 64 len) 64] fun s =>
      s.mapLive fun c => c.forkGated { kind := kCs2g, target := 0 } false
        (s.thread .s2g t (s.dcOf l dc) (s.a d) (s.a r) len 0 0 (s.issue.scrSource s.tick (s.a r).toNat len))

/-- CS2G. -/
def execCs2g (t : BitVec 6) (d r l : BitVec 5) (s : State) : Out := s.cs2g t d r l false

/-- CS2G with a dependence counter. -/
def execCs2gDc (d r l : BitVec 5) (s : State) : Out := s.cs2g 0 d r l true

/-- The format bound to slot t (R63). -/
def State.copyFmt (s : State) (t : BitVec 6) : W32 := s.fmtReg (teFmt (s.issue.te t.toNat))

/-- Bytes in the stream of a slot under a format (R64). -/
def streamBytes (fmt : W32) : Nat := 32768 + 128 * sideBytes fmt

/-- CG2O (R243): rows at a stride, then the side area; with DC it counts out of a dependence counter (R242). -/
def execCg2o (site : SlotDest) (d r l : BitVec 5) (s : State) : Out :=
  let t := site.te
  let stride := (low32 (s.a l)).toNat
  let dc : Bool := site.dc = 1
  s.issueOp true [s.claimCheck t] [s.waitRegs [aRef r, aRef l], s.threadWait]
    [s.lenCheck l dc (cpyWord 3 t d r l dc), s.fmtCheck 7 (teFmt (s.issue.te t.toNat)), if dc then none else s.tileCheck t (· ≠ teFilling),
     s.limitCheck stride 256 (2 ^ 32 - 64), s.globalCheck (s.a r) 0, s.unitCheck (BitVec.ofNat 64 stride) 64] fun s =>
      s.mapLive fun c => c.fork (s.thread .g2o t (s.dcOf l dc) (zext64 t) (s.a r) (streamBytes (s.copyFmt t)) stride (s.copyFmt t) ([], []))

/-- CS2O (R243): the first bytes of the slot's stream from contiguous scratchpad. DESIGN CHOICE: a length beyond the slot's byte stream
(R64), which gives such bytes no place, raises RANGE (log 152). -/
def execCs2o (site : SlotDest) (d r l : BitVec 5) (s : State) : Out :=
  let t := site.te
  let len := (low32 (s.a l)).toNat
  let dc : Bool := site.dc = 1
  s.issueOp true [s.claimCheck t] [s.waitRegs [aRef r, aRef l], s.threadWait]
    [s.lenCheck l dc (cpyWord 4 t d r l dc), s.fmtCheck 7 (teFmt (s.issue.te t.toNat)), if dc then none else s.tileCheck t (· ≠ teFilling),
     s.limitCheck len 64 (streamBytes (s.copyFmt t)), s.scrEnd (s.a r) len, s.unitCheck (s.a r) 64,
     s.unitCheck (BitVec.ofNat 64 len) 64] fun s =>
      s.mapLive fun c => c.fork
        (s.thread .s2o t (s.dcOf l dc) (zext64 t) (s.a r) len 0 (s.copyFmt t) (s.issue.scrSource s.tick (s.a r).toNat len))

/-- CG2G (R243): global to global, counted as incoming, accepted work. -/
def State.cg2g (s : State) (t : BitVec 6) (d r l : BitVec 5) (dc : Bool) : Out :=
  let len := (low32 (s.a l)).toNat
  s.issueOp true [] [s.waitRegs [aRef d, aRef r, aRef l], s.threadWait]
    [s.lenCheck l dc (cpyWord 5 t d r l dc), if dc then none else s.tileCheck t (· ≠ teFilling),
     s.limitCheck len 64 lenMax, s.globalCheck (s.a d) 1, s.globalCheck (s.a r) 0, s.unitCheck (BitVec.ofNat 64 len) 64] fun s =>
      s.mapLive fun c => c.forkGated { kind := kCg2g, target := 0 } true
        (s.thread .g2g t (s.dcOf l dc) (s.a d) (s.a r) len 0 0 ([], []))

/-- CG2G. -/
def execCg2g (t : BitVec 6) (d r l : BitVec 5) (s : State) : Out := s.cg2g t d r l false

/-- CG2G with a dependence counter. -/
def execCg2gDc (d r l : BitVec 5) (s : State) : Out := s.cg2g 0 d r l true

/-- CXRED (R244): FP32 values from scratchpad into XA cells, counted as outgoing, accepted work. -/
def State.cxred (s : State) (t : BitVec 6) (d r l : BitVec 5) (dc : Bool) : Out :=
  let len := (low32 (s.a l)).toNat
  s.issueOp true [] [s.waitRegs [aRef d, aRef r, aRef l], s.threadWait]
    [s.lenCheck l dc (cpyWord 6 t d r l dc), if dc then none else s.tileCheck t (· ≠ teDraining),
     s.limitCheck len 4 (2 ^ 24 - 4), s.scrEnd (s.a r) len, s.globalCheck (s.a d) 3, s.unitCheck (s.a r) 4,
     s.unitCheck (BitVec.ofNat 64 len) 4] fun s =>
      s.mapLive fun c => c.forkGated { kind := kCxred, target := (s.a d).toNat } false
        (s.thread .xred t (s.dcOf l dc) (s.a d) (s.a r) len 0 0 (s.issue.scrSource s.tick (s.a r).toNat len))

/-- CXRED. -/
def execCxred (t : BitVec 6) (d r l : BitVec 5) (s : State) : Out := s.cxred t d r l false

/-- CXRED with a dependence counter. -/
def execCxredDc (d r l : BitVec 5) (s : State) : Out := s.cxred 0 d r l true

/-- HAZARD: the slot that an entry answers to is still read, by a command of the same bundle too (R239). -/
def State.readHazard (s : State) (t : BitVec 6) : Option Cause :=
  s.check 7 (decide (t.toNat < 32) && (s.issue.anvil.reads t.toNat || s.beside = some t.toNat)) 0x0F (hazardInfo 3 (256 * classCode .te + t.toNat))

/-- TSET and TDRAIN: the entry changes at the end of the bundle (R61, R245). DEDUCED: R241's bounds on aL are for every CPY command, so that a value with
[63:32] set raises ILLEGAL and any other outside 1 to 2^24 − 1 RANGE (R247, R304, log 173). -/
def State.setEntry (s : State) (op : Nat) (t : BitVec 6) (l : BitVec 5) (bad : BitVec 2 → Bool) (st : BitVec 2) : Out :=
  s.issueOp true [s.claimCheck t] [s.waitRegs [aRef l]]
    [s.lenCheck l false (cpyWord op t 0 0 l false), s.tileCheck t bad, s.readHazard t, s.limitCheck (s.a l).toNat 1 (2 ^ 24 - 1)] fun s =>
      s.fly 1 7 (.te t (teTo (s.issue.te t.toNat) (s.a l).toNat 0 st))

/-- TSET (R245): legal on an EMPTY or READY entry. -/
def execTset (t : BitVec 6) (l : BitVec 5) (s : State) : Out :=
  s.setEntry 7 t l (fun st => st = teFilling || st = teDraining) teFilling

/-- TDRAIN (R245): legal on a READY entry. -/
def execTdrain (t : BitVec 6) (l : BitVec 5) (s : State) : Out := s.setEntry 8 t l (fun st => st ≠ teReady) teDraining

/-! ### Gathers (R246) -/

/-- Whether a gather is open: GEND has not issued. -/
def Context.gatherOpen (c : Context) : Bool := c.mem.gathers.any fun g => !g.closed

/-- A closed gather whose rows have all landed is complete. -/
def MemSide.sweepGathers (m : MemSide) : MemSide := { m with gathers := m.gathers.filter fun g => !(g.closed && g.queue.isEmpty) }

/-- Changes the open gather. -/
def MemSide.mapOpen (m : MemSide) (f : Gather → Gather) : MemSide :=
  { m with gathers := m.gathers.map fun g => if g.closed then g else f g }

/-- GIDX (R246): one index at the end of the queue, which holds 4096 per core. DESIGN CHOICE: an index leaves the queue when its row has landed
(log 189). -/
def execGidx (r : BitVec 5) (s : State) : Out :=
  s.issueOp true [] [s.waitRegs [aRef r]]
    [s.context7 7 (!s.issue.gatherOpen) (cpyWord 9 0 0 r 0 false), s.check 7 (decide (4096 ≤ s.sumCore Context.indices)) 0x09 (s.a r)] fun s =>
      s.mapLive fun c => { c with mem := c.mem.mapOpen fun g => { g with queue := g.queue ++ [low32 (s.a r)] } }

/-- GATHER (R246): opens a gather into a ring. -/
def execGather (t : BitVec 6) (d r l : BitVec 5) (s : State) : Out :=
  let x := s.a l
  let row := (x.extractLsb' 0 16).toNat
  let rows := (x.extractLsb' 16 16).toNat
  s.issueOp true [] [s.waitRegs [aRef d, aRef r, aRef l], s.threadWait]
    [s.context7 7 (s.issue.gatherOpen || x.extractLsb' 32 32 ≠ 0) (cpyWord 10 t d r l false), s.limitCheck row 64 4096,
     s.limitCheck rows 1 65535, s.scrEnd (s.a d) (rows * row), s.globalCheck (s.a r) 0, s.unitCheck (s.a d) 64,
     s.unitCheck (BitVec.ofNat 64 row) 64] fun s =>
      s.mapLive fun c => { c with mem := { c.mem with
        nextId := c.mem.nextId + 1
        gathers := c.mem.gathers ++
          [{ id := c.mem.nextId, bclk := s.issue.flow.bclk, off := s.issue.flow.pc, te := t, ring := s.a d, base := global57 (s.a r), row := row,
             rows := rows, queue := [], landed := 0, closed := false, phase := .waiting, hidden := [] }] } }

/-- GEND (R246): closes the open gather. -/
def execGend (s : State) : Out :=
  s.issueOp true [] [] [s.context7 7 (!s.issue.gatherOpen) (cpyWord 11 0 0 0 0 false)] fun s =>
    s.mapLive fun c => { c with mem := (c.mem.mapOpen fun g => { g with closed := true }).sweepGathers }

end Sys2Proof.Machine
end

