-- ==== Sys2Proof/Machine/Tongs.lean ====
section
/-! DEFINITION. The Tongs at work (R59 to R64, R242 to R246, R329, R330): a sector of a copy lands, a row of a gather lands. -/

namespace Sys2Proof.Machine

/-! ### Bytes on the way -/

/-- 64 bytes of a sector, marked when the unit they come from is poisoned (R343). -/
structure Chunk where
  bytes : List Byte
  marked : Bool
  deriving DecidableEq, Repr

/-- The chunks of some places, with the issuer's own earlier stores over them (R256). -/
def State.chunksOf (s : State) (m : MemSide) (bclk : W64) : List ((Nat × Nat) × (Nat × Nat)) → List Chunk
  | [] => []
  | (v, p) :: t =>
    { bytes := m.overlay v.1 (fun e => e.bclk.ult bclk) (s.bytes p.1 p.2),
      marked := s.isPoisoned p.1 p.2 && !m.replaces (fun e => e.bclk.ult bclk) (v.1 / 64) } :: s.chunksOf m bclk t

/-- The first part of some ranges that has no translation at hand, as its first byte. -/
def State.missingIn (s : State) (w : Agent) (kind : AccKind) (parts : List (Nat × Nat)) : Option Nat :=
  ((parts.flatMap fun p => piecesOf p.1 p.2).find? fun q => (s.place? w q.1 kind).isNone).map (·.1)

/-- What a sector needs a translation for first: an address and a kind of access. -/
def State.sectorNeed (s : State) (uid : Nat) (w : Agent) (x : Copy) (k : Nat) : Option (Nat × AccKind) :=
  match s.missingIn w .read (x.sourceParts k) with
  | some va => some (va, .read)
  | none => (s.missingIn w .write (x.destParts k ++ s.counterParts uid w x)).map fun va => (va, .write)

/-! ### Failure (R329, R348, R350) -/

/-- The cause of a failed sector. -/
def copyCause (bclk : W64) (off : W32) (code reason : Byte) (va : W64) (kind : Byte) : Cause :=
  { code := code, reason := reason, slot := 7, off := off, tinfo := va, va := va, kind := kind, seq := bclk.toNat }

/-- KIND of a sector that fails at an access of a kind: CXRED writes XA cells (R244, R322). -/
def Context.sectorKind (c : Context) (id : Nat) (kind : AccKind) : Byte :=
  if !kindWrites kind then 0
  else match c.mem.copies.find? fun x => x.id = id with
    | some x => if x.kind = .xred then 3 else 1
    | none => 1

/-- A sector fails: the thread stops issuing (R329); an outgoing one that a reset has outlived tries it again (R352, R353). -/
def Context.failCopy (c : Context) (id : Nat) (code reason : Byte) (va : W64) (kind : Byte) : Context :=
  let c' := { c with mem := { c.mem with
    copies := c.mem.copies.map fun x => if x.id = id then { x with failed := some (code, reason, va) } else x } }
  match c.mem.copies.find? fun x => x.id = id with
  | none => c
  | some x =>
    if c.awake then c'.blame (copyCause x.bclk x.off code reason va kind)
    else if c.id.status = .ghost || x.quench then
      let again (x : Copy) : Option Copy := if c.persists code reason then some { x with paged := [] } else none
      { c with mem := ({ c.mem with copies := c.mem.copies.filterMap fun x => if x.id = id then again x else some x } : MemSide).sweepFences }
    else c'

/-- A row of a gather fails. -/
def Context.failGather (c : Context) (g : Gather) (code reason : Byte) (va : W64) : Context :=
  let c' := { c with mem := { c.mem with
    gathers := c.mem.gathers.map fun x => if x.id = g.id then { x with phase := .failed code reason } else x } }
  if c.awake then c'.blame (copyCause g.bclk g.off code reason va 0) else c'

/-- Why a sector with its places found does not move, if anything; what no port leads to is named by its first line. -/
def State.moveFault (s : State) (c : Context) (parts : List (Nat × Nat)) (ps : List (Nat × Nat)) : Option (Byte × Byte × W64) :=
  match (parts.zip ps).find? fun p => s.linkDown p.2.1 with
  | some p => some (0x31, 0, BitVec.ofNat 64 p.1.1)
  | none => if s.spansSecure c.id.world ps then some (0x24, 2, BitVec.ofNat 64 ((parts.head?.map (·.1)).getD 0)) else none

/-! ### Landing -/

/-- Both marks of row l of operand memory: its row bytes and its side-area bytes are one unit (R342). -/
def unitMarks (l : Nat) : List Nat := [l, sideMark l]

/-- Writes 64 bytes of a slot's stream: row bytes, then the packed side area (R63, R64); a marked one poisons the whole unit (R343). -/
def Core.putSlot (k : Core) (slot : Nat) (fmt : W32) (pos : Nat) (x : Chunk) : Core :=
  let old := Tbl.get ([], []) k.om slot
  let side := sideBytes fmt
  let put (k : Core) (rows : Tbl VecV × Tbl (BitVec 256)) (ms : List Nat) : Core :=
    { k with om := Tbl.set ([], []) k.om slot rows,
             omPoison := ms.foldl (fun p m => if x.marked then insertNat m p else p) k.omPoison }
  if pos < 32768 then
    let j := pos / 256
    let r := (leBytes 256 (Tbl.get 0 old.1 j).toNat)
    let o := pos % 256
    let r := r.take o ++ x.bytes ++ r.drop (o + 64)
    put k (Tbl.set 0 old.1 j (BitVec.ofNat 2048 (leNat r)), old.2) (unitMarks (128 * slot + j))
  else if side = 0 then k
  else
    let at_ := (List.range 64).map (· + (pos - 32768))
    let sides := at_.zip x.bytes |>.foldl (fun (t : Tbl (BitVec 256)) b =>
      let j := b.1 / side
      let w := leBytes 32 (Tbl.get 0 t j).toNat
      Tbl.set 0 t j (BitVec.ofNat 256 (leNat (w.set (b.1 % side) b.2)))) old.2
    put k (old.1, sides) ((at_.map (· / side)).eraseDups.flatMap fun j => unitMarks (128 * slot + j))

/-- Writes the chunks of a sector to a slot; row bytes and side-area bytes that a sector writes whole lose their mark first, and the unit is whole
again when both have (R343). A format without a side area replaces the unit with the row. -/
def Core.putSector (k : Core) (slot : Nat) (fmt : W32) (first : Nat) (xs : List Chunk) : Core :=
  let n := 64 * xs.length
  let whole := (List.range 128).filter fun j => first ≤ 256 * j && 256 * j + 256 ≤ first + n
  let side := sideBytes fmt
  let sides := if side = 0 then whole else (List.range 128).filter fun j => first ≤ 32768 + side * j && 32768 + side * (j + 1) ≤ first + n
  let k := { k with omPoison := (whole.map (128 * slot + ·) ++ sides.map fun j => sideMark (128 * slot + j)).foldl (fun p m => removeNat m p) k.omPoison }
  ((List.range xs.length).zip xs).foldl (fun k x => k.putSlot slot fmt (first + 64 * x.1) x.2) k

/-- Writes chunks to scratchpad. -/
def MemSide.putChunks (m : MemSide) (off : Nat) (xs : List Chunk) : MemSide :=
  ((List.range xs.length).zip xs).foldl (fun m x => m.scrWrite (off + 64 * x.1) x.2.bytes x.2.marked) m

/-- Writes chunks to memory. -/
def State.putChunks (s : State) : List (Nat × Nat) → List Chunk → State
  | p :: ps, x :: xs =>
    let s := s.store p.1 x.bytes
    (if x.marked then s.poisonLines p.1 p.2 else s).putChunks ps xs
  | _, _ => s

/-- What a copy out of scratchpad carries in sector k: the bytes it captured, in pieces of n, marked by the bank words they
come from. -/
def Copy.carried (x : Copy) (k n : Nat) : List Chunk :=
  (List.range (x.sectorSize k / n)).map fun i =>
    let at_ := 4096 * k + n * i
    { bytes := (x.data.drop at_).take n, marked := (linesOf (x.src.toNat + at_) n).any fun l => x.poison.contains l }

/-- CXRED's additions of one sector (R244). -/
def State.addCells (s : State) : List (Nat × Nat) → List Chunk → State
  | p :: ps, x :: xs => (s.addCell [p] (BitVec.ofNat 32 (leNat x.bytes)) x.marked).addCells ps xs
  | _, _ => s

/-- Whether a copy counts as incoming (R243). -/
def CopyKind.incoming : CopyKind → Bool
  | .s2g | .xred => false
  | _ => true

/-- The bytes of a sector reach their destination. -/
def State.moveSector (s : State) (uid : Nat) (c : Context) (x : Copy) (k : Nat) (src : List Chunk) (dst : List (Nat × Nat)) : State :=
  match x.kind with
  | .g2s => s.mapCtx uid fun c => { c with mem := c.mem.putChunks (x.dst.toNat + 4096 * k) src }
  | .g2o => s.mapCore c.id.core fun co => co.putSector x.dst.toNat x.fmt (4096 * k) src
  | .s2o => s.mapCore c.id.core fun co => co.putSector x.dst.toNat x.fmt (4096 * k) (x.carried k 64)
  | .g2g => s.putChunks dst src
  | .s2g => s.putChunks dst (x.carried k 64)
  | .xred => s.addCells dst (x.carried k 4)

/-- The bytes of a sector are counted: into the entry, or out of the dependence counter (R242). -/
def State.countSector (s : State) (uid : Nat) (c : Context) (x : Copy) (k : Nat) : State :=
  match x.te with
  | some t => s.mapCtx uid fun c => c.countTile t.toNat x.kind.incoming (x.sectorSize k) x.off x.bclk
  | none => match (s.counterParts uid (c.agentOf uid x.id) x).head?.bind fun p => s.place? (c.agentOf uid x.id) p.1 .write with
    | some key => s.store key (leBytes 8 (BitVec.ofNat 64 (s.word key 8) - BitVec.ofNat 64 (x.sectorSize k)).toNat)
    | none => s

/-- Engine writes of a sector, that of its dependence counter among them, are seen by every gather, and note that they come before earlier writes of the
path (R251, R267). -/
def State.sectorSeen (s : State) (uid : Nat) (x : Copy) (ps : List (Nat × Nat)) : State :=
  (s.reveal none ps).mapCtx uid fun c => { c with mem := c.mem.getAhead x.id c.id.core true ps }

/-- A sector leaves the list; a copy whose last sector it was is complete. -/
def Context.sectorDone (c : Context) (id k : Nat) : Context :=
  let copies := c.mem.copies.map fun x => if x.id = id then { x with left := removeNat k x.left, paged := removeNat k x.paged } else x
  { c with mem := ({ c.mem with copies := copies.filter fun x => !x.left.isEmpty } : MemSide).sweepFences }

/-- Whether a sector of a copy must wait: for an earlier acquire or fence, for a write before its fork to bytes that it reads, or for an earlier
write of bytes that it writes, those of its counter among them (R225, R242, R252, R253, R256, R257). -/
def MemSide.copyHeld (m : MemSide) (x : Copy) (k : Nat) (count : List (Nat × Nat)) : Bool :=
  m.heldBefore x.id true || m.forkWaits x.id x.bclk x.dc.isSome (x.sourceParts k) (x.destParts k ++ count)

/-- The bytes of a gather's row: what its issuer has overwritten since the fork is as it was (R256). -/
def Gather.unhide (g : Gather) (key : Nat) (bs : List Byte) : List Byte :=
  ((List.range bs.length).zip bs).map fun b => (Tbl.find g.hidden (key + b.1)).getD b.2

/-- The chunks of a gather's row: the bytes as they were before its issuer's writes since the fork, with those of earlier bundles that are still
out over them (R256). -/
def State.rowChunks (s : State) (m : MemSide) (g : Gather) (parts : List ((Nat × Nat) × (Nat × Nat))) : List Chunk :=
  parts.map fun p =>
    { bytes := m.overlay p.1.1 (fun e => e.bclk.ult g.bclk) (g.unhide p.2.1 (s.bytes p.2.1 p.2.2)),
      marked := s.isPoisoned p.2.1 p.2.2 && !m.replaces (fun e => e.bclk.ult g.bclk) (p.1.1 / 64) }

/-- Whether a context's core has attempted an issue in this cycle already: what lands in a tile entry in a cycle comes before it (R317). -/
def State.triedNow (s : State) (c : Context) : Bool := (s.coreOf c.id.core).tried = some s.mcc

/-- COPY_SECTOR_LANDS (R242). -/
def execCopySectorLands (uid id k : Nat) (s : State) : Out :=
  match s.ctx? uid with
  | none => .refused .notPending
  | some c => match c.mem.copies.find? fun x => x.id = id with
    | none => .refused .notPending
    | some x =>
      if (x.te.isSome && s.triedNow c) || !(c.threadsMove || x.quench) || !x.left.contains k || x.failed.isSome || x.paged.contains k || c.mem.copyHeld x k (s.counterParts uid (c.agentOf uid id) x) || s.popBefore uid id ||
          (s.sectorNeed uid (c.agentOf uid id) x k).isSome then .refused .notPending
      else
        let lines (ps : List (Nat × Nat)) (n : Nat) : List (Nat × Nat) := ps.flatMap fun p => (List.range (p.2 / n)).map fun i => (p.1 + n * i, n)
        let from_ := lines (x.sourceParts k) 64
        let to_ := lines (x.destParts k) 64
        let w := c.agentOf uid id
        let count := s.counterParts uid w x
        let at_ (kind : AccKind) (vs : List (Nat × Nat)) : List (Nat × Nat) := (s.placesOf w kind vs).getD []
        if s.passedThere uid c.id.core (at_ .read from_) then .refused .notPending
        else match s.moveFault c from_ (at_ .read from_), s.moveFault c (to_ ++ count) (at_ .write (to_ ++ count)) with
        | some (code, reason, va), _ => .next ((s.mapCtx uid fun c => c.failCopy id code reason va 0).reap uid)
        | none, some (code, reason, va) =>
          .next ((s.mapCtx uid fun c => c.failCopy id code reason va (if x.kind = .xred then 3 else 1)).reap uid)
        | none, none =>
          let src := s.chunksOf c.mem x.bclk (from_.zip (at_ .read from_))
          let s := ((s.moveSector uid c x k src (at_ .write to_)).countSector uid c x k).sectorSeen uid x (at_ .write (to_ ++ count))
          let s := s.mapCtx uid fun c => c.sectorDone id k
          .next ((s.mapCtx uid fun c => s.tagStep uid c).reap uid)

/-- A row lands in the ring and is counted (R246). -/
def Context.landRow (c : Context) (g : Gather) (xs : List Chunk) : Context :=
  let c := { c with mem := c.mem.putChunks (g.ring.toNat + g.landed % g.rows * g.row) xs }
  let next (x : Gather) : Gather := if x.id = g.id then { x with queue := x.queue.drop 1, landed := x.landed + 1 } else x
  let c := { c with mem := { c.mem with gathers := c.mem.gathers.map next } }
  let c := c.countTile g.te.toNat true g.row g.off g.bclk
  { c with mem := c.mem.sweepGathers }

/-- GATHER_ROW_LANDS (R246): the rows land in index order, while te is FILLING. -/
def execGatherRowLands (uid id : Nat) (s : State) : Out :=
  match s.ctx? uid with
  | none => .refused .notPending
  | some c => match c.mem.gathers.find? fun g => g.id = id with
    | none => .refused .notPending
    | some g =>
      let parts := g.rowParts
      if s.triedNow c || !c.threadsMove || parts.isEmpty || g.phase ≠ .waiting || teSt (c.te g.te.toNat) ≠ teFilling ||
          c.mem.heldBefore g.id true || c.mem.forkWaits g.id g.bclk false parts [] || s.popBefore uid id || (s.missingIn (c.agentOf uid id) .read parts).isSome then .refused .notPending
      else
        let from_ := parts.flatMap fun p => (List.range (p.2 / 64)).map fun i => (p.1 + 64 * i, 64)
        let ps := (s.placesOf (c.agentOf uid id) .read from_).getD []
        if s.passedThere uid c.id.core ps then .refused .notPending
        else match s.moveFault c from_ ps with
        | some (code, reason, va) => .next (s.mapCtx uid fun c => c.failGather g code reason va)
        | none =>
          let xs := s.rowChunks c.mem g (from_.zip ps)
          let s := s.mapCtx uid fun c => c.landRow g xs
          .next (s.mapCtx uid fun c => s.tagStep uid c)

end Sys2Proof.Machine
end

