-- ==== Sys2Proof/Machine/Walk.lean ====
section
/-! DEFINITION. Page walks and page responses as they reach the accesses, engines and fetches that wait for them (R70 to R73, R325 to
R331, R344), and overlays of the instruction store (R66, R67, R286, R328, R345). -/

namespace Sys2Proof.Machine

/-! ### Who needs a translation -/

/-- An access, a sector of a copy, a row of a gather, or the fetch of an overlay. -/
inductive Who where
  | acc (uid id : Nat)
  | sector (uid id k : Nat)
  | row (uid id : Nat)
  | fetch (core uid index : Nat)
  deriving DecidableEq, Repr

/-- Who needs the translation of an address for a kind of access, and whether it waits on a page request already. -/
structure Need where
  who : Who
  agent : Agent
  va : Nat
  kind : AccKind
  paged : Bool
  deriving DecidableEq, Repr

/-- The first part of some ranges for whose page a request is out. -/
def State.requestedIn (s : State) (w : Agent) (kind : AccKind) (parts : List (Nat × Nat)) : Option Nat :=
  ((parts.flatMap fun p => piecesOf p.1 p.2).find? fun q => (s.requested w q.1 kind).isSome).map (·.1)

/-- The page of some ranges that something waits for: what it lacks, or, for what waits on a page request, the page of that request, whether or not
another walk has found the page since (R73, R325, R327). -/
def State.awaits (s : State) (w : Agent) (kind : AccKind) (parts : List (Nat × Nat)) (paged : Bool) : Option Nat :=
  match s.missingIn w kind parts with
  | some va => if paged && (s.requested w va kind).isNone then (s.requestedIn w kind parts).or (some va) else some va
  | none => if paged then s.requestedIn w kind parts else none

/-- What an access needs; a write that has come to its cluster has its places. -/
def State.accNeed (s : State) (uid : Nat) (c : Context) (a : Acc) : List Need :=
  match a.phase with
  | .failed _ _ => []
  | ph =>
    if !c.drains || a.cellSize = 0 || !a.placed.isEmpty then []
    else
      let w := c.agentOf uid a.id
      match s.awaits w a.op.kind [(a.cellVa, a.cellSize)] (ph = .paged) with
      | some va => [{ who := .acc uid a.id, agent := w, va := va, kind := a.op.kind, paged := decide (ph = .paged) }]
      | none => []

/-- The address and the kind of access that a sector of a copy waits for. -/
def State.sectorAwaits (s : State) (uid : Nat) (w : Agent) (x : Copy) (k : Nat) : Option (Nat × AccKind) :=
  let dest := x.destParts k ++ s.counterParts uid w x
  match s.sectorNeed uid w x k with
  | some n => if x.paged.contains k && (s.requested w n.1 n.2).isNone then
      ((s.requestedIn w .read (x.sourceParts k)).map fun va => (va, AccKind.read)).or
        (((s.requestedIn w .write dest).map fun va => (va, AccKind.write)).or (some n)) else some n
  | none => if x.paged.contains k then
      ((s.requestedIn w .read (x.sourceParts k)).map fun va => (va, AccKind.read)).or
        ((s.requestedIn w .write dest).map fun va => (va, AccKind.write)) else none

/-- What a copy needs. -/
def State.copyNeeds (s : State) (uid : Nat) (c : Context) (x : Copy) : List Need :=
  if !(c.threadsMove || x.quench) || x.failed.isSome then []
  else
    let w := c.agentOf uid x.id
    x.left.filterMap fun k => (s.sectorAwaits uid w x k).map fun n =>
      { who := .sector uid x.id k, agent := w, va := n.1, kind := n.2, paged := x.paged.contains k }

/-- What a gather needs. -/
def State.gatherNeed (s : State) (uid : Nat) (c : Context) (g : Gather) : List Need :=
  match g.phase with
  | .failed _ _ => []
  | ph =>
    if !c.threadsMove then []
    else
      let w := c.agentOf uid g.id
      match s.awaits w .read g.rowParts (ph = .paged) with
      | some va => [{ who := .row uid g.id, agent := w, va := va, kind := .read, paged := decide (ph = .paged) }]
      | none => []

/-- The bytes of overlay i of a context's code (R66). -/
def State.overlayParts (s : State) (c : Context) (i : Nat) : List (Nat × Nat) :=
  match s.objectOf? c.agent c.id.obj.toNat with
  | some o => [(o.base.toNat + 8192 * i, 8192)]
  | none => []

/-- What the fetch of an overlay needs. -/
def State.fetchNeed (s : State) (core : Nat) (f : Nat × Nat × Phase) : List Need :=
  match f.2.2, s.ctx? f.1 with
  | .failed _ _, _ => []
  | ph, some c => match s.awaits c.agent .fetch (s.overlayParts c f.2.1) (ph = .paged) with
    | some va =>
      [{ who := .fetch core f.1 f.2.1, agent := c.agent, va := va, kind := .fetch, paged := decide (ph = .paged) }]
    | none => []
  | _, none => []

/-- Every need of the package. -/
def State.needs (s : State) : List Need :=
  (s.ctxs.flatMap fun e =>
    (e.2.mem.outs.flatMap fun a => s.accNeed e.1 e.2 a) ++ (e.2.mem.copies.flatMap fun x => s.copyNeeds e.1 e.2 x) ++
      e.2.mem.gathers.flatMap fun g => s.gatherNeed e.1 e.2 g) ++
  s.cores.flatMap fun k => k.2.fetch.flatMap fun f => s.fetchNeed k.1 f

/-- Whether a need is for a page and a kind of access (R73). -/
def Need.on (n : Need) (pasid : BitVec 20) (page : Nat) (kind : AccKind) : Bool :=
  n.agent.pasid = pasid && n.va % 2 ^ 57 / 4096 = page && n.kind = kind

/-- The needs for a page. -/
def State.needsOf (s : State) (pasid : BitVec 20) (page : Nat) (kind : AccKind) : List Need :=
  s.needs.filter fun n => n.on pasid page kind

/-! ### What a need comes to -/

/-- The phase of a fetch of an overlay. -/
def Core.setFetch (k : Core) (uid i : Nat) (ph : Phase) : Core :=
  { k with fetch := k.fetch.map fun f => if f.1 = uid ∧ f.2.1 = i then (uid, i, ph) else f }

/-- Marks who waits on a page request, or who waits no more. -/
def State.markPaged (s : State) (w : Who) (paged : Bool) : State :=
  let ph : Phase := if paged then .paged else .waiting
  match w with
  | .acc uid id => s.mapCtx uid fun c => { c with mem := c.mem.mapAcc id fun a => { a with phase := ph } }
  | .sector uid id k =>
    let f (x : Copy) : Copy := { x with paged := if paged then insertNat k x.paged else removeNat k x.paged }
    s.mapCtx uid fun c => { c with mem := { c.mem with copies := c.mem.copies.map fun x => if x.id = id then f x else x } }
  | .row uid id =>
    let f (g : Gather) : Gather := if g.id = id then { g with phase := ph } else g
    s.mapCtx uid fun c => { c with mem := { c.mem with gathers := c.mem.gathers.map f } }
  | .fetch core uid i => s.mapCore core fun k => k.setFetch uid i ph

/-- A failure: code and REASON of a data access or sector, those of a fetch, and the address of what was consumed, if that is not the address
that could not be translated (R324, R344). -/
structure Failure where
  code : Byte
  reason : Byte
  fcode : Byte
  freason : Byte
  unit : Option W64 := none
  deriving DecidableEq, Repr

/-- A need ends in a failure. A failed world check names the operation's own address and no unit (R350). -/
def State.failNeed (s : State) (n : Need) (f : Failure) : State :=
  let va := BitVec.ofNat 64 n.va
  match n.who with
  | .acc uid id => match (s.ctx? uid).bind fun c => c.acc? id with
    | some a =>
      if f.code = 0x22 && f.reason = 3 then s.failAccess uid a f.code f.reason 0 (zext64 a.va)
      else s.failAccess uid a f.code f.reason (f.unit.getD va) va
    | none => s
  | .sector uid id _ => (s.mapCtx uid fun c => c.failCopy id f.code f.reason (f.unit.getD va) (c.sectorKind id n.kind)).reap uid
  | .row uid id => s.mapCtx uid fun c => match c.mem.gathers.find? fun g => g.id = id with
    | some g => c.failGather g f.code f.reason (f.unit.getD va)
    | none => c
  | .fetch core uid i => s.mapCore core fun k => k.setFetch uid i (.failed f.fcode f.freason)

/-- Whether a need belongs to a context that hears of page responses: not to one that is halted or evicted (R331). -/
def State.hears (s : State) (n : Need) : Bool :=
  let awake (uid : Nat) : Bool := match s.ctx? uid with
    | some c => c.awake || c.id.status = .ghost
    | none => false
  match n.who with
  | .acc uid _ | .sector uid _ _ | .row uid _ | .fetch _ uid _ => awake uid

/-- Whether a need is that of an engine thread. -/
def Who.engine : Who → Bool
  | .sector _ _ _ | .row _ _ => true
  | _ => false

/-- Fails all of some needs. -/
def State.failNeeds (s : State) (ns : List Need) (f : Failure) : State := ns.foldl (fun s n => s.failNeed n f) s

/-- A failure that a fetch meets as a data access does. -/
def Failure.same (code reason : Byte) : Failure := { code := code, reason := reason, fcode := code, freason := reason }

/-- What a walk after a successful response fails with where it still finds nothing, or lacks a permission: `lack` tells whether NX was it
(R324, R325). -/
def Failure.walk : Option Bool → Failure
  | none => .same 0x20 2
  | some true => { code := 0x22, reason := 0, fcode := 0x21, freason := 2 }
  | some false => .same 0x22 0

/-! ### PAGE_WALK (R71 to R73, R325) -/

/-- The walk finds nothing, or lacks a permission: a request is issued or joined, or the walk after a successful response has
failed too, for everything of the stack that waited on it; where no port leads to the host, LINKERR (R348). -/
def State.walkFails (s : State) (ns : List Need) (w : Agent) (va : Nat) (kind : AccKind) (lack : Option Bool) : State :=
  match s.requested w va kind with
  | some r =>
    if r.answered then
      let s := s.dropRequest r
      let all := (s.needsOf r.pasid r.page r.kind).filter fun n => !n.paged && decide (n.agent.core / 128 = r.stack)
      s.failNeeds all (.walk lack)
    else if s.hostCut then s.failNeeds ns (.same 0x31 0)
    else ns.foldl (fun s n => s.markPaged n.who true) s
  | none =>
    if s.hostCut then s.failNeeds ns (.same 0x31 0)
    else ns.foldl (fun s n => s.markPaged n.who true) (s.requestPage { w with reader := .none } va kind lack.isSome)

/-- The page is found: A and D are set, and an answered request is over. -/
def State.walkDone (s : State) (w : Agent) (va : Nat) (kind : AccKind) : State :=
  match s.requested w va kind with
  | some r => if r.answered then s.dropRequest r else s
  | none => s

/-- The needs that one walk serves: those of the first need's agent and binding for a page, not on a page request yet. -/
def State.walkNeeds (s : State) (pasid : BitVec 20) (page : Nat) (kind : AccKind) : List Need :=
  match (s.needsOf pasid page kind).filter fun n => !n.paged with
  | [] => []
  | n :: t => n :: t.filter fun x => x.agent.world = n.agent.world && x.agent.core = n.agent.core && s.bindingOf x.agent = s.bindingOf n.agent

/-- What a table in a region closed to a need's world, or out of reach, comes to (R348, R350): an engine thread meets CPYFAULT. -/
def State.barNeeds (s : State) (ns : List Need) (cut : Bool) : State :=
  if cut then s.failNeeds ns (.same 0x31 0)
  else ns.foldl (fun s n => s.failNeed n (if n.who.engine then .same 0x24 2 else .same 0x22 3)) s

/-- PAGE_WALK: one walk for every access of a core that needs the page and has not asked the host for it. -/
def execPageWalk (pasid : BitVec 20) (va : BitVec 57) (kind : AccKind) (s : State) : Out :=
  match s.walkNeeds pasid (va.toNat / 4096) kind with
  | [] => .refused .notPending
  | n :: t =>
    let ns := n :: t
    let a := n.agent
    match s.bindingOf a with
    | none => .next (s.failNeeds ns (.same 0x20 1))
    | some b =>
      if s.descPoisoned b then .next (s.failNeeds ns { Failure.same 0x30 2 with unit := some b.walkd })
      else match s.walk b a.world va.toNat kind with
        | .badDesc => .next (s.failNeeds ns (.same 0x20 1))
        | .cut _ => .next (s.barNeeds ns true)
        | .closed => .next (s.barNeeds ns false)
        | .absent => .next (s.walkFails ns a va.toNat kind none)
        | .denied nx => .next (s.walkFails ns a va.toNat kind (some nx))
        | .page base size pa w nx entry esize value apos dpos =>
          .next ((s.holdPage a kind base size pa w nx entry esize value apos dpos).walkDone a va.toNat kind)

/-! ### PAGE_RESPONSE (R325, R327, R331) -/

/-- Whether a reader on a stack still reads: it hears of the responses to its requests (R325, R327, R331). -/
def State.reading (s : State) (stack : Nat) : Reader → Bool
  | .none => false
  | .ctx uid bclk pc => (s.ctx? uid).any fun c => c.awake && c.flow.bclk = bclk && c.flow.pc = pc && decide (c.id.core / 128 = stack)
  | .image uid => (s.ctx? uid).any fun c => decide (c.id.core / 128 = stack) && (match c.id.status with
    | .evicting _ _ | .restoring => true
    | _ => false)
  | .fetch core uid => decide (core / 128 = stack) && (s.coreOf core).fetch.any fun f => decide (f.1 = uid ∧ f.2.2 = .waiting)
  | .entry g q ticket => ((s.clusterOf g).queue q).any fun e => e.ticket = ticket
  | .window port cluster => s.inputs.any fun i => i.1 = port && i.2.1 / 1024 = cluster
  | .command => !s.mail.queue.isEmpty

/-- The readers of a request that still read. -/
def State.readersOf (s : State) (r : PageReq) : List Reader := r.readers.filter (s.reading r.stack)

/-- A refusal fails everything that waits on the request. -/
def State.refusePage (s : State) (r : PageReq) (ns : List Need) : State :=
  let s := (s.tell r (s.readersOf r) (some (if r.perm then 0x22 else 0x20, 0))).dropRequest r
  ns.foldl (fun s n => s.failNeed n
    (if n.who.engine then .same 0x24 (if r.perm then 1 else 0)
     else { code := if r.perm then 0x22 else 0x20, reason := 0, fcode := 0x21, freason := 0 })) s

/-- A success lets everything that waits walk again. -/
def State.answerPage (s : State) (r : PageReq) (ns : List Need) : State :=
  let s := s.tell r (s.readersOf r) none
  let s := if ns.isEmpty then s.dropRequest r
    else { s with mmu := { s.mmu with reqs := s.mmu.reqs.map fun x => if x = r then { x with answered := true, readers := [] } else x } }
  ns.foldl (fun s n => s.markPaged n.who false) s

/-- The request that a response answers: the oldest that is still open, whatever its stack. -/
def State.awaited (s : State) (pasid : BitVec 20) (va : Nat) (kind : AccKind) : Option PageReq :=
  s.mmu.reqs.find? fun r => r.pasid = pasid && r.page = va % 2 ^ 57 / 4096 && r.kind = kind && !r.answered

/-- A request that has been answered is over once nothing walks on it any more: its accesses have found their page by another walk, or are gone
(R325). -/
def State.sweepAnswered (s : State) : State :=
  (s.mmu.reqs.filter (·.answered)).foldl (fun s r =>
    if (s.needsOf r.pasid r.page r.kind).any fun n => decide (n.agent.core / 128 = r.stack) then s else s.dropRequest r) s

/-- What concerned readers that read no longer is forgotten (R331). -/
def State.sweepReaders (s : State) : State :=
  { s with mmu := { s.mmu with
      reqs := s.mmu.reqs.map fun r => { r with readers := s.readersOf r }
      heard := s.mmu.heard.filter fun h => s.reading h.stack h.reader } }

/-- Those who wait on a request and hear of its response. -/
def State.waitingOn (s : State) (r : PageReq) : List Need :=
  (s.needsOf r.pasid r.page r.kind).filter fun n => n.paged && decide (n.agent.core / 128 = r.stack) && s.hears n

/-- The last port to the host goes down: everything that waits on an open request fails, and the request is gone (R348). -/
def State.cutRequests (s : State) : State :=
  (s.mmu.reqs.filter fun r => !r.answered).foldl (fun s r =>
    ((s.tell r (s.readersOf r) (some (0x31, 0))).failNeeds (s.waitingOn r) (.same 0x31 0)).dropRequest r) s

/-- PAGE_RESPONSE. -/
def execPageResponse (pasid : BitVec 20) (va : BitVec 57) (kind : AccKind) (ok : Bool) (s : State) : Out :=
  match s.awaited pasid va.toNat kind with
  | none => .refused .notPending
  | some r => .next (if ok then s.answerPage r (s.waitingOn r) else s.refusePage r (s.waitingOn r))

/-! ### Overlays (R66, R67) -/

/-- Overlays that an instruction store holds. -/
def storeSize : Nat := 32

/-- An overlay with a hash and an index. -/
def Core.overlay? (k : Core) (hash : BitVec 128) (i : Nat) : Option Overlay :=
  k.overlays.find? fun o => o.hash = hash && o.index = i

/-- The overlay that makes room: the least recently fetched that holds no current position of the running context. -/
def Core.oldest (k : Core) (keep : Option (BitVec 128 × Nat)) : Option Overlay :=
  (k.overlays.filter fun o => keep ≠ some (o.hash, o.index)).foldl (fun m o => match m with
    | none => some o
    | some x => if o.used < x.used then some o else m) none

/-- Where the running context of a core stands. -/
def State.positionOn (s : State) (k : Core) : Option (BitVec 128 × Nat) :=
  (k.cur.bind s.ctx?).map fun c => (c.id.hash, c.flow.pc.toNat / 256)

/-- Holds an overlay. -/
def Core.hold (k : Core) (keep : Option (BitVec 128 × Nat)) (o : Overlay) : Core :=
  let os := k.overlays.filter fun x => !(x.hash = o.hash && x.index = o.index)
  let os := if os.length < storeSize then os else match ({ k with overlays := os } : Core).oldest keep with
    | some x => os.erase x
    | none => os
  { k with overlays := os ++ [o] }

/-- The overlay that some places hold. -/
def State.overlayOf (s : State) (hash : BitVec 128) (i : Nat) (ps : List (Nat × Nat)) : Overlay :=
  let lines := (List.range ps.length).zip ps
  { hash := hash, index := i, used := s.tick,
    poison := (lines.filter fun p => s.isPoisoned p.2.1 p.2.2).map (·.1),
    code := lines.foldl (fun t p =>
      let x := s.block p.2.1
      Tbl.set 0 (Tbl.set 0 t (2 * p.1) (x.extractLsb' 0 256)) (2 * p.1 + 1) (x.extractLsb' 256 256)) [] }

/-- The fetch that is first in a core's list and has all it needs. -/
def State.fetchReady (s : State) (k : Core) : Option (Nat × Nat × Context) :=
  k.fetch.findSome? fun f => match f.2.2, s.ctx? f.1 with
    | .waiting, some c => if (s.missingIn c.agent .fetch (s.overlayParts c f.2.1)).isNone then some (f.1, f.2.1, c) else none
    | _, _ => none

/-- The fetch of an overlay by a context ends. -/
def Core.endFetch (k : Core) (uid i : Nat) : Core := { k with fetch := k.fetch.filter fun f => !(f.1 = uid && f.2.1 = i) }

/-- Why the overlay of an object cannot be read, if anything (R77, R348). -/
def State.fetchBars (s : State) (c : Context) (ps : List (Nat × Nat)) : Option (Byte × Byte) :=
  if s.spansCut ps then some (0x31, 0) else if s.spansSecure c.id.world ps then some (0x22, 3) else none

/-- OVERLAY_LOADED (R66, R286): the entry is read, and 8 KiB from BASE + 8192 i become overlay i of HASH; one that is resident by now is not
fetched again (R67). -/
def execOverlayLoaded (core : Nat) (s : State) : Out :=
  let k := s.coreOf core
  match s.fetchReady k with
  | none => .refused .notPending
  | some (uid, i, c) =>
    if (k.overlay? c.id.hash i).isSome then .next (s.mapCore core fun k => k.endFetch uid i)
    else
    let at_ := ((s.bind? c.id.pasid).map fun b => b.objectAt c.id.obj.toNat).getD 0
    match s.readTable (c.reads (.fetch core uid)) at_ 32 with
    | (s, .wait, _) => .next s
    | (s, .fail code r, _) => .next (s.mapCore core fun k => k.setFetch uid i (.failed code r))
    | (s, .at_ key, x) =>
      if s.isPoisoned key 32 then .next (s.mapCore core fun k => k.setFetch uid i (.failed 0x30 2))
      else
        let o := objOf x
        if (k.overlay? o.hash i).isSome then .next (s.mapCore core fun k => k.endFetch uid i)
        else match s.spans c.agent (o.base.toNat + 8192 * i) 8192 .fetch with
        | none => .next s
        | some ps => match s.fetchBars c ps with
          | some (code, reason) => .next (s.mapCore core fun k => k.setFetch uid i (.failed code reason))
          | none =>
            let s := s.mapCtx uid fun c => { c with id := { c.id with base := o.base } }
            .next (s.mapCore core fun k => (k.endFetch uid i).hold (s.positionOn k) (s.overlayOf o.hash i ps))

/-- The overlays that a core may prefetch for its running context: the next, and those of prepared targets. -/
def Context.prefetches (c : Context) : List Nat :=
  (c.flow.pc.toNat / 256 + 1) :: (c.flow.bufs.filter fun b => b.2.st ≠ .empty).map fun b => b.2.target.toNat / 256

/-- The places of some ranges by walks that issue no request, where each page is found and open (R66, R72). -/
def State.findAll (s : State) (w : Agent) (kind : AccKind) : List (Nat × Nat) → Option (State × List (Nat × Nat))
  | [] => some (s, [])
  | p :: t => (s.findOpen w p.1 kind).bind fun x => (x.1.findAll w kind t).map fun y => (y.1, (x.2, p.2) :: y.2)

/-- The object-table entry of a context's code, if a walk finds it and it is whole (R285, R344). -/
def State.findObject (s : State) (c : Context) : Option (State × ObjEntry) :=
  (s.bind? c.id.pasid).bind fun b => (s.findOpen c.agent (b.objectAt c.id.obj.toNat) .read).bind fun x =>
    if x.1.isPoisoned x.2 32 then none else some (x.1, objOf (x.1.word x.2 32))

/-- OVERLAY_PREFETCH (R66, R286, R328, R345): it walks, holds what it reads under the hash that the entry names, unless that is resident (R67), and
never faults; a poisoned overlay is logged and not held. -/
def execOverlayPrefetch (core i : Nat) (s : State) : Out :=
  let k := s.coreOf core
  match k.cur.bind s.ctx? with
  | none => .refused .notPending
  | some c =>
    if !c.prefetches.contains i || (k.overlay? c.id.hash i).isSome || c.id.clen ≤ 256 * i then .refused .notPending
    else match s.findObject c with
      | none => .refused .notPending
      | some (s, o) =>
        if (k.overlay? o.hash i).isSome then .refused .notPending
        else match s.findAll c.agent .fetch (piecesOf (o.base.toNat + 8192 * i) 8192) with
          | none => .refused .notPending
          | some (s, ps) =>
            if s.spansPoisoned ps then
              let bad := ((ps.find? fun p => s.isPoisoned p.1 p.2).map (·.1)).getD 0
              .next (s.logAt 2 (s.unitOf bad).1 (s.unitOf bad).2 bad (whoOf c.id.pasid c.id.world) 0)
            else .next (s.mapCore core fun k => k.hold (s.positionOn k) (s.overlayOf o.hash i ps))

end Sys2Proof.Machine
end

