-- ==== Sys2Proof/Machine/Causes.lean ====
section
/-! DEFINITION. The causes of a boundary (R305, R306, R324, R328): their rank, which of them is taken and what becomes of the others, and the fetch
fault that stands where the next bundle cannot be fetched. -/

namespace Sys2Proof.Machine

/-! ### Rank (R305) -/

/-- The rank of a cause at a boundary; of FAILs that of a domain comes before that of a contractor, and system causes come last
(R305, R324), the hit of a watchpoint after the failure of an access (R338). -/
def Cause.rank (x : Cause) : Nat :=
  match x.code.toNat with
  | 0x05 => 1
  | 0x01 => if x.slot = 4 then 3 else 2
  | 0x03 => 4
  | 0x14 => 5
  | 0x09 => 6
  | 0x15 => 7
  | 0x13 => 8
  | 0x11 => 9
  | 0x28 => 11
  | _ => 10

/-- Whether one cause is reported before another: by rank, then by slot, then by the issue of what failed (R305, R326). -/
def Cause.before (x y : Cause) : Bool :=
  decide (x.rank < y.rank) || (x.rank = y.rank && (decide (x.slot < y.slot) || (x.slot = y.slot && decide (x.seq < y.seq))))

/-- Inserts a cause behind those that are not later. -/
def insertCause (x : Cause) : List Cause → List Cause
  | [] => [x]
  | y :: t => if x.before y then x :: y :: t else y :: insertCause x t

/-- The causes of a boundary in the order in which they are reported; of equals the earlier stays first. -/
def rankedCauses (xs : List Cause) : List Cause := xs.foldl (fun acc x => insertCause x acc) []

/-- Whether a cause tells of a failed access that waits to be reissued: it fails afresh, or not, after resumption (R326). -/
def Cause.reissued (x : Cause) : Bool := retriedFault x.code x.reason

/-- The first cause of a boundary is taken (R305): the program's handler holds the others; when system software takes it, those of
pending accesses and of a fetch, which are tried again, are dropped, and the rest are held by the handler that runs, or else stay for the first
boundary after resumption. -/
def Context.takeCauses (c : Context) (core : Nat) (mcc : W64) : Context :=
  match rankedCauses c.flow.causes with
  | [] => c
  | x :: rest =>
    let at_ := c.flow.resumePoint
    if c.handles x then
      ({ c with flow := { c.flow with causes := [] }, trap := { c.trap with held := c.trap.held ++ rest } }).enterHandler x at_
    else
      let stay := rest.filter fun y => !y.reissued && y.kind ≠ 2
      let c := { c with
        flow := { c.flow with causes := if c.trap.handler then [] else stay }
        trap := { c.trap with held := if c.trap.handler then c.trap.held ++ stay else c.trap.held } }
      c.systemTrap core mcc x

/-- The bundle that a boundary cause without one of its own names: the last that issued. -/
def Flow.lastOff (f : Flow) : W32 := f.last.getD f.pc

/-! ### Fetch faults (R66, R285, R328, R344) -/

/-- The cause of a fetch fault: TPC names the bundle that could not be fetched, VA is its address (R328). -/
def Context.fetchCause (c : Context) (code reason : Byte) (tinfo va : W64) : Cause :=
  { code := code, reason := reason, slot := 0, off := c.flow.pc, tinfo := tinfo, va := va, kind := 2 }

/-- What the instruction store has for the next bundle. -/
inductive Fetched where
  | bundle (x : BitVec 256)
  | absent
  | poisoned
  | outside
  deriving DecidableEq, Repr

/-- Looks for the next bundle of a context. -/
def Core.lookup (k : Core) (c : Context) : Fetched :=
  let pc := c.flow.pc.toNat
  if c.id.clen ≤ pc then .outside
  else match k.overlay? c.id.hash (pc / 256) with
    | none => .absent
    | some o => if o.poison.contains (pc % 256 / 2) then .poisoned else .bundle (Tbl.get 0 o.code (pc % 256))

/-- The virtual address of the next bundle (R328). -/
def Context.bundleVa (c : Context) : W64 := c.id.base + 32 * zext64 c.flow.pc

/-- What a fetch fault leaves of a core: a poisoned overlay leaves the store, so that a later fetch reads it again. -/
def Core.dropFetch (k : Core) (uid : Nat) (c : Context) (code : Byte) : Core :=
  { k with
    fetch := k.fetch.filter fun f => f.1 ≠ uid
    overlays := if code = 0x30 then k.overlays.filter fun o => !(o.hash = c.id.hash && o.index = c.flow.pc.toNat / 256) else k.overlays }

/-- TINFO of a fetch fault: as R328 says, but for a walk descriptor or an object-table entry that was consumed, which it names (R344). -/
def State.fetchTinfo (s : State) (c : Context) (code reason : Byte) : W64 :=
  match s.bindingOf c.agent with
  | some b =>
    if code = 0x30 ∧ reason = 2 then
      if s.descPoisoned b then b.walkd else BitVec.ofNat 64 (lineVa (b.objectAt c.id.obj.toNat))
    else c.fetchInfo
  | none => c.fetchInfo

/-- The fetch fault that stands at the boundary of a context, if its next bundle is known not to be fetched (R324, R328). -/
def State.fetchStands (s : State) (uid : Nat) (c : Context) : Option Cause :=
  if c.flow.stop ≠ .none then none
  else match (s.coreOf c.id.core).lookup c with
    | .outside => some (c.fetchCause 0x21 1 c.fetchInfo 0)
    | .poisoned => some (c.fetchCause 0x30 3 c.fetchInfo c.bundleVa)
    | .absent => match (s.coreOf c.id.core).fetch.find? fun f => f.1 = uid && f.2.1 = c.flow.pc.toNat / 256 with
      | some (_, _, .failed code reason) => some (c.fetchCause code reason (s.fetchTinfo c code reason) c.bundleVa)
      | _ => none
    | .bundle _ => none

/-- A context with a fetch fault that stands at its boundary among its causes, and what that leaves of its core. -/
def State.withFetch (s : State) (uid : Nat) (c : Context) : State × Context :=
  match s.fetchStands uid c with
  | some x => (s.mapCore c.id.core fun k => k.dropFetch uid c x.code, c.blame x)
  | none => (s, c)

/-- Takes the causes that a condition picks; the others stand on. -/
def Context.takePicked (c : Context) (core : Nat) (mcc : W64) (p : Cause → Bool) : Context :=
  let t := ({ c with flow := { c.flow with causes := c.flow.causes.filter p } } : Context).takeCauses core mcc
  { t with flow := { t.flow with causes := t.flow.causes ++ c.flow.causes.filter fun x => !p x } }

/-- The causes that stand at the boundary of a context which holds no core are taken, into its handler or by system software, whose trap evicts it: what
halts it comes after them (R306, R332). The TILESTATE of a landing that came while it did not run waits until it next runs (R316); `ran` says that it runs
up to now. -/
def State.takeStanding (s : State) (uid : Nat) (c : Context) (ran : Bool) : State :=
  let (s, c) := s.withFetch uid c
  let now (x : Cause) : Bool := ran || x.code ≠ 0x15
  if !c.flow.causes.any now then s
  else
    let s := { s with ctxs := Tbl.put s.ctxs uid (c.takePicked c.id.core s.mcc now) }
    if (s.ctx? uid).any Context.leaving then s.withdraw uid else s

end Sys2Proof.Machine
end

