-- ==== Sys2Proof/Machine/Host.lean ====
section
/-! DEFINITION. The host's side (R29, R30, R278 to R288, R322, R323, R348, R352, R357): queue windows, the mailbox and every command of
the package interface, memory accesses by the host and by peers, attestation. -/

namespace Sys2Proof.Machine

/-- Whether the device takes window writes and commands (R288, R348, R349). -/
def State.takesHost (s : State) : Bool :=
  s.mail.booted && !s.mail.failed && !s.hostCut

/-- Whether PASID operands lie in their range. -/
def pasidOk (x : W64) : Bool := decide (x.toNat < 2 ^ 20)

/-- A PASID operand. -/
def pasidOf (x : W64) : BitVec 20 := x.extractLsb' 0 20

/-! ### Queue windows (R29, R30, R280) -/

/-- What a window write comes to: a refusal under a check, acceptance, or a wait for a page. -/
inductive Checked where
  | pass
  | bad (n : Nat)
  | wait
  deriving DecidableEq, Repr

/-- Check 5: the share of the object's entry (R30). -/
def State.checkShare (s : State) (g : Nat) (w : Reader) (r : BitVec 512) (b : Bind) : State × Checked :=
  if !partOk (recPart r) then (s, .bad 5)
  else match s.readTable (recAgent r (16 * g) w) (b.objectAt (recObj r).toNat) 32 with
    | (s, .wait, _) => (s, .wait)
    | (s, .fail _ _, _) => (s, .bad 5)
    | (s, .at_ k, x) =>
      let need := rfIngots (recPart r) + accIngots (recPart r) + trailIngots (recPart r)
      (s, if s.isPoisoned k 32 || decide ((objOf x).share < need) then .bad 5 else .pass)

/-- Check 6: the domain (R30, R43). -/
def State.checkDomain (s : State) (g : Nat) (w : Reader) (r : BitVec 512) (b : Bind) : State × Checked :=
  if recQd r = (0xFFFFFFFF : W32) then (s, .pass)
  else if b.qdn ≤ (recQd r).toNat then (s, .bad 6)
  else match s.nameDomain (recAgent r (16 * g) w) (recQd r).toNat with
    | (s, .block key _) => (s, if s.isHost key then .bad 6 else .pass)
    | (s, .wait) => (s, .wait)
    | (s, .bad _ _ _ _) => (s, .bad 6)

/-- The save slot that ARG0 names, if it names one (check 7). -/
def slotNamed (r : BitVec 512) (b : Bind) : Option Nat :=
  let a := (recArg r 0).toNat
  let base := b.save.toNat + 65536
  if base ≤ a ∧ (a - base) % 2 ^ 23 = 0 ∧ (a - base) / 2 ^ 23 < b.saven then some ((a - base) / 2 ^ 23) else none

/-- The evicted context whose marked slot a record names (check 9). -/
def State.markedIn (s : State) (pasid : BitVec 20) (slot : Nat) : Option (Nat × Context) :=
  s.ctxs.find? fun e => e.2.id.pasid = pasid && e.2.id.slot = slot && e.2.id.marked && e.2.id.status = .evicted && !e.2.id.atQwait

/-- Places of a PASID in use (R35). -/
def State.placesUsed (s : State) (pasid : BitVec 20) : Nat := ({ s with uid := 0 } : State).placesElsewhere pasid

/-- Checks 7 to 9. DESIGN CHOICE: an image that was copied into a save slot from another package stands in a slot that this device has not marked, and
check 9 refuses its record, the example of R286 notwithstanding (log 176). -/
def State.checkRoom (s : State) (r : BitVec 512) (b : Bind) : Checked :=
  if bitOf (recKind r) 0 then match slotNamed r b with
    | none => .bad 7
    | some n => if (s.markedIn (recPasid r) n).isNone then .bad 9 else .pass
  else if s.placesUsed (recPasid r) < 64 * b.ovfn then .pass else .bad 8

/-- Checks 1 and 2 (R30). -/
def checkForm (r : BitVec 512) : Checked :=
  let k := recKind r
  let w : W32 := recField r 24 32
  if k.extractLsb' 3 5 ≠ 0 ∨ (bitOf k 0 = false ∧ (k.extractLsb' 8 8 ≠ 0 ∨ k.extractLsb' 1 2 ≠ 0)) then .bad 1
  else if 16 ≤ (recHomeq r).toNat ∨ w.extractLsb' 27 5 ≠ 0 then .bad 2
  else .pass

/-- The checks of R30 in their order, by the scheduler of a cluster, for a write that waits at a window. -/
def State.checkRecord (s : State) (g : Nat) (w : Reader) (r : BitVec 512) : State × Checked :=
  match checkForm r with
  | .pass => match s.bind? (recPasid r) with
    | none => (s, .bad 3)
    | some b =>
      if b.objn ≤ (recObj r).toNat then (s, .bad 4)
      else match s.checkShare g w r b with
        | (s, .pass) => match s.checkDomain g w r b with
          | (s, .pass) => (s, s.checkRoom r b)
          | x => x
        | x => x
  | x => (s, x)

/-- The weight of a refused fresh record goes back with the faulted flag, where its domain passes check 6 (R30). -/
def State.refuseWeight (s : State) (g : Nat) (w : Reader) (r : BitVec 512) : State × Bool :=
  match s.bind? (recPasid r) with
  | none => (s, true)
  | some b =>
    if bitOf (recKind r) 0 ∨ recQd r = (0xFFFFFFFF : W32) ∨ recWeight r = 0 then (s, true)
    else match s.checkDomain g w r b with
      | (s, .pass) => match s.nameDomain (recAgent r (16 * g) w) (recQd r).toNat with
        | (s, .block key _) => (s.giveBack key (recWeight r) true, true)
        | (s, .wait) => (s, false)
        | (s, .bad _ _ _ _) => (s, true)
      | (s, .wait) => (s, false)
      | (s, .bad _) => (s, true)

/-- A WINDOW entry (R357). -/
def State.logWindow (s : State) (q detail : Nat) (who : Nat) : State := s.logError (logEntry 6 6 q s.mcc 0 who detail)

/-- Acceptance of a record from a window (R20, R29, R36). -/
def State.acceptWindow (s : State) (g q : Nat) (r : BitVec 512) : State :=
  if bitOf (recKind r) 0 then
    match (s.bind? (recPasid r)).bind fun b => (slotNamed r b).bind fun n => s.markedIn (recPasid r) n with
    | none => s
    | some (uid, c) =>
      let s := s.mapCtx uid fun c => { c with id := { c.id with marked := false } }
      s.mapCluster g fun k => k.accept q (.resume uid r) (recDeadline r) none (c.id.gang.map fun _ => c.id.core)
  else s.acceptFresh g q r none

/-- A whole record arrives at a window. -/
def State.windowRecord (s : State) (i : BitVec 1 × Nat × List Byte) (w : Nat) (r : BitVec 512) : State :=
  let reader : Reader := .window i.1 (i.2.1 / 1024)
  match s.checkRecord (w / 16) reader r with
  | (s, .wait) => { s with inputs := i :: s.inputs }
  | (s, .pass) => (s.acceptWindow (w / 16) (w % 16) r).forget reader
  | (s, .bad n) => match s.refuseWeight (w / 16) reader r with
    | (s, true) => (s.logWindow w (2 ^ 31 + n) (whoOf (recPasid r) (recWorld r))).forget reader
    | (s, false) => { s with inputs := i :: s.inputs }

/-- Whether an earlier write to a window of the same cluster through the same port still waits (R29). -/
def State.windowBehind (s : State) (port : BitVec 1) (offset : Nat) : Bool :=
  s.inputs.any fun i => i.1 = port && i.2.1 / 1024 = offset / 1024

/-- QUEUE_WINDOW_WRITE (R29, R30, R280): one aligned write of 64 bytes launches a record; any other write is discarded and
logged. What a port that is down would carry goes through the other (R348). -/
def execQueueWindowWrite (by_ : BitVec 1) (offset : Nat) (bytes : List Byte) (s : State) : Out :=
  let w := offset / 64 % 1024
  let port := if s.portUp (cxlPort by_.toNat) then by_ else ~~~by_
  if !s.takesHost ∨ 65536 ≤ offset then .next s
  else if offset % 64 ≠ 0 ∨ bytes.length ≠ 64 then .next (s.logWindow w bytes.length 0)
  else if s.windowBehind port offset then .next { s with inputs := s.inputs ++ [(port, offset, bytes)] }
  else .next (s.windowRecord (port, offset, bytes) w (BitVec.ofNat 512 (leNat bytes)))

/-! ### Completions (R281, R282) -/

def stOk : Byte := 0
def stOver : Byte := 1
def stBadCmd : Byte := 2
def stBadArg : Byte := 3
def stBusy : Byte := 4
def stMore : Byte := 5

/-- Writes a completion: code, status and results from byte 8 on; MSI-X vector 0. A command performed after one was turned away
reports OVER. -/
def State.complete (s : State) (code status : Byte) (results : Nat) : State :=
  let late : Bool := s.mail.overrun && status = stOk
  let x := recSet (recSet (recSet 0 0 8 code.toNat) 1 8 (if late then stOver else status).toNat) 8 448 results
  ({ s with mail := { s.mail with
      completion := x
      completed := s.mail.completed + 1
      overrun := if late then false else s.mail.overrun } } : State).msix 0

/-- The status register at 0x0080 (R281, R288). -/
def Mailbox.status (m : Mailbox) : W32 :=
  if m.bootFailed then 0x80000000 else m.completed ++ m.accepted

/-- What a command comes to: it waits, or it completes with a status and results. -/
inductive Done where
  | waits
  | done (status : Byte) (results : Nat)
  deriving DecidableEq, Repr

/-! ### Commands -/

/-- The fields of a PASID block (R284). -/
def bindOf (x : BitVec 512) (desc : BitVec 256) : Bind :=
  { walkd := recField x 0 64, objt := recField x 8 64, qdt := recField x 16 64, dept := recField x 24 64, save := recField x 32 64,
    ovfl := recField x 40 64, objn := (recField x 48 32).toNat, qdn := (recField x 52 32).toNat, saven := (recField x 56 32).toNat,
    ovfn := (recField x 60 32).toNat, desc := some desc }

/-- The checks of BINDPASID (R284). -/
def bindBad (x : BitVec 512) : Bool :=
  let b := bindOf x 0
  b.walkd.extractLsb' 0 5 ≠ 0 || b.objt.extractLsb' 0 5 ≠ 0 || b.save.extractLsb' 0 23 ≠ 0 || b.ovfl.extractLsb' 0 12 ≠ 0 ||
    decide (65536 < b.objn)

/-- The bindings that operations still out go by, with that of a PASID which is replaced now (R284). -/
def State.priorOf (s : State) (pasid : BitVec 20) : List Prior :=
  let live := s.mmu.prior.filter fun p => (s.ctx? p.uid).isSome
  match s.bind? pasid with
  | none => live
  | some b => live ++ (s.ctxs.filter fun e => e.2.id.pasid = pasid).map fun e => { uid := e.1, below := e.2.mem.nextId, bind := b }

/-- BINDPASID (R284). -/
def State.doBind (s : State) (o : CmdOps) : State × Done :=
  let x := s.block (keyOf s.fabric.hdm o.b16.toNat)
  if o.b24 ≠ 0 ∨ o.b32 ≠ 0 ∨ !pasidOk o.b8 ∨ bindBad x then (s, .done stBadArg 0)
  else
    let b := bindOf x (BitVec.ofNat 256 (s.word (keyOf s.fabric.hdm (recField x 0 64 : W64).toNat) 32))
    ({ s with mmu := { s.mmu with
        binds := Tbl.put s.mmu.binds o.b8.toNat b
        prior := s.priorOf (pasidOf o.b8) } }, .done stOk 0)

/-- Whether a PREEMPT target covers a context (R49). -/
def targets (target : W64) (c : Context) : Bool :=
  if bitOf target 63 then c.id.pasid = pasidOf target else c.id.core = target.toNat

/-- Whether a PREEMPT target lies in its range. -/
def targetOk (target : W64) : Bool :=
  if bitOf target 63 then target.extractLsb' 20 43 = 0 else decide (target.toNat < 1024)

/-- Whether a resident context that is not running can be taken at once. -/
def Context.takeable (c : Context) : Bool := match c.id.status with
  | .ready | .parked | .stopped | .qwait | .halted _ => true
  | .evicting w _ => w = 0
  | _ => false

/-- The pre-emption of a context that holds no core, after the causes that stand at its boundary (R49, R306). -/
def State.preemptIdle (s : State) (uid : Nat) (c : Context) : State :=
  let s := match c.id.status with
    | .ready | .parked => s.takeStanding uid c false
    | _ => s
  if c.leaving || !(s.ctx? uid).any Context.leaving then s.beginEvict uid 1 none else s

/-- Begins a PREEMPT (R49, R283): idle residents are evicted at once, running ones halt at their boundary. -/
def State.beginPreempt (s : State) (o : CmdOps) : State :=
  let mine := s.ctxs.filter fun e => e.2.residentOn e.2.id.core && targets o.b8 e.2
  let cores := (s.cores.filter fun k => mine.any fun e => k.2.cur = some e.1).map (·.1)
  let left := s.mail.unlisted.filter fun e => e.1 = o.b8
  let p : Preempt := { target := o.b8, buffer := o.b16.toNat, capacity := o.b24.toNat, cores := cores, waiting := mine.map (·.1),
                       listed := 0, pending := [] }
  let s := { s with mail := { s.mail with preempt := some p, unlisted := s.mail.unlisted.filter fun e => e.1 ≠ o.b8 } }
  let s := left.foldl (fun s e => s.listRecord e.2) s
  mine.foldl (fun s e => if e.2.takeable then s.preemptIdle e.1 e.2 else s) s

/-- PREEMPT (R49, R283). -/
def State.doPreempt (s : State) (o : CmdOps) : State × Done :=
  if !targetOk o.b8 ∨ o.b16.extractLsb' 0 3 ≠ 0 ∨ o.b24 = 0 ∨ 65536 < o.b24.toNat ∨ o.b32 ≠ 0 then (s, .done stBadArg 0)
  else (s.beginPreempt o, .waits)

/-- Whether INVAL's operands name n bytes of a PASID from va on (R74, R282). -/
def invalNames (o : CmdOps) (pasid : BitVec 20) (va n : Nat) : Bool :=
  pasid = pasidOf o.b8 && (decide (o.b24 = 0) || rangesMeet va n (o.b16.toNat % 2 ^ 57) o.b24.toNat)

/-- Whether a write that has come to its cluster by a translation that INVAL names has still to perform (R74, R254). -/
def State.usesOld (s : State) (o : CmdOps) : Bool :=
  s.ctxs.any fun e => e.2.mem.outs.any fun a => !a.placed.isEmpty && invalNames o e.2.id.pasid a.cellVa a.cellSize

/-- INVAL (R74): translations held for a PASID, or for a range of it, are dropped; it is complete when every access that used one has performed. -/
def State.doInval (s : State) (o : CmdOps) : State × Done :=
  if !pasidOk o.b8 ∨ o.b32 ≠ 0 then (s, .done stBadArg 0)
  else
    let s := { s with mmu := { s.mmu with tlb := s.mmu.tlb.filter fun t => !invalNames o t.pasid t.base (2 ^ t.size) } }
    (s, if s.usesOld o then .waits else .done stOk 0)

/-- Whether QMODE's operands pair (R282). -/
def qmodeOk (g q m : Nat) : Bool :=
  decide (g < 64) && decide (q < 64) && decide (m ≤ 4) && (if q < 16 then decide (m ≤ 2) else decide (3 ≤ m)) &&
    (m ≠ 2 || g % 8 = 0)

/-- QMODE (R39, R227, R282). -/
def State.doQmode (s : State) (o : CmdOps) : State × Done :=
  let g := o.b8.toNat
  let q := o.b16.toNat
  let m := o.b24.toNat
  if !qmodeOk g q m ∨ o.b32 ≠ 0 then (s, .done stBadArg 0)
  else if q < 16 then (s.mapCluster g fun k => { k with mode := Tbl.set 0 k.mode q (BitVec.ofNat 2 m) }, .done stOk 0)
  else
    let v := (s.clusterOf g).values q
    if !v.entries.isEmpty ∨ !v.waiters.isEmpty then (s, .done stBusy 0)
    else
      let v := if m = 4 then { v with ticketMode := true, nt := 0 } else { v with ticketMode := false }
      (s.mapCluster g fun k => k.setValues q v, .done stOk 0)

/-- DESCINV (R262): the walkers forget the descriptor they hold, that of a replaced binding too. -/
def State.doDescinv (s : State) (o : CmdOps) : State × Done :=
  if !pasidOk o.b8 ∨ o.b16 ≠ 0 ∨ o.b24 ≠ 0 ∨ o.b32 ≠ 0 then (s, .done stBadArg 0)
  else ({ s with mmu := { s.mmu with
      binds := Tbl.update (fun b => { b with desc := none }) s.mmu.binds o.b8.toNat
      prior := s.mmu.prior.map fun p => if ((s.ctx? p.uid).map fun c => c.id.pasid) = some (pasidOf o.b8) then
        { p with bind := { p.bind with desc := none } } else p } }, .done stOk 0)

/-- TEMPER (R289). -/
def State.doTemper (s : State) (o : CmdOps) : State × Done :=
  if 65535 < o.b16.toNat ∨ o.b24 ≠ 0 ∨ o.b32 ≠ 0 then (s, .done stBadArg 0)
  else
    let n := o.b16.toNat
    (((List.range 64).filter fun g => bitOf o.b8 g).foldl
      (fun s g => s.mapCluster g fun k => { k with pmax := n, pc := min k.pc n }) s, .done stOk 0)

/-- ROUTE (R287): an entry of the same BASE is replaced; at most 64 are held. -/
def State.doRoute (s : State) (o : CmdOps) : State × Done :=
  if o.b8.extractLsb' 0 39 ≠ 0 ∨ 65535 < o.b16.toNat ∨ o.b24 ≠ 0 ∨ o.b32 ≠ 0 then (s, .done stBadArg 0)
  else
    let key := ((s.fabric.routes.find? fun e => e.2.1 = o.b8).map (·.1)).getD s.fabric.routes.length
    if 64 ≤ key then (s, .done stBadArg 0)
    else ({ s with fabric := { s.fabric with routes := Tbl.put s.fabric.routes key (o.b8, o.b16.extractLsb' 0 16) } }, .done stOk 0)

/-- Entry n of a stack's region table: 1 for a secure region; entries 64 to 255 are reserved and read as non-secure (R76). -/
def Fabric.regionEntry (f : Fabric) (stack n : Nat) : Byte := if n < 64 ∧ f.secure.contains (64 * stack + n) then 1 else 0

/-- The region tables as the report hashes them: the 256 entries of each stack, and the world of every core (R76). -/
def Fabric.tableBytes (f : Fabric) : List Byte :=
  ((List.range 8).flatMap fun stack => (List.range 256).map (f.regionEntry stack)) ++
    (List.range 1024).map fun n => if f.secureCores.contains n then 1 else 0

/-- The attestation report (R288): nonce, image hashes, hash of the region tables, signature. -/
def Fabric.report (f : Fabric) (nonce : BitVec 256) : List Byte :=
  let body := leBytes 32 nonce.toNat ++ leBytes 64 Config.imageHashes.toNat ++ leBytes 32 (Config.sha256 f.tableBytes).toNat
  body ++ Config.sign body

/-- ATTEST (R288): the first 56 bytes in the completion, the whole report through DOE. -/
def State.doAttest (s : State) (o : CmdOps) : State × Done :=
  let r := s.fabric.report (o.b32 ++ o.b24 ++ o.b16 ++ o.b8)
  ({ s with mail := { s.mail with doe := r } }, .done stOk (leNat (r.take 56)))

/-- Whether a ring's operands are good (R322, R357). -/
def ringOk (o : CmdOps) : Bool :=
  o.b8.extractLsb' 0 12 = 0 && [64, 128, 256, 512, 1024, 2048, 4096, 8192, 16384, 32768, 65536].contains o.b16.toNat && o.b24 = 0 &&
    o.b32 = 0

/-- FRING (R322). -/
def State.doFring (s : State) (o : CmdOps) : State × Done :=
  if !ringOk o then (s, .done stBadArg 0)
  else
    let s := { s with faults := { s.faults with named := true, base := o.b8.toNat, size := o.b16.toNat, wp := 0, rp := 0 } }
    (s.drainFaults s.faults.held, .done stOk 0)

/-- ELOG (R357). -/
def State.doElog (s : State) (o : CmdOps) : State × Done :=
  if !ringOk o then (s, .done stBadArg 0)
  else ({ s with errors := { s.errors with named := true, base := o.b8.toNat, size := o.b16.toNat, wp := 0, rp := 0 } }, .done stOk 0)

/-- The context whose marked record lies at an address: an evicted one, or one that waits at QWAIT, resident or not (R20, R47,
R323). -/
def State.killed? (s : State) (pasid : BitVec 20) (va : Nat) : Option (Nat × Context) :=
  s.ctxs.find? fun e => e.2.id.pasid = pasid && e.2.id.marked && e.2.savedBase = va

/-- KILL (R323). -/
def State.doKill (s : State) (o : CmdOps) : State × Done :=
  if !pasidOk o.b16 ∨ o.b24 ≠ 0 ∨ o.b32 ≠ 0 then (s, .done stBadArg 0)
  else match s.killed? (pasidOf o.b16) o.b8.toNat with
    | none => (s, .done stBadArg 0)
    | some (uid, c) => match s.reachOpen (c.reads .command) o.b8.toNat .write with
      | (s, .wait) => (s, .waits)
      | (s, .fail _ _) => (s, .done stBadArg 0)
      | (s, .at_ key) =>
        ((s.markFaulted key).endRun uid c c.homeNow c.sys.myw, .done stOk 0)

/-- RESET (R352). -/
def State.doReset (s : State) (o : CmdOps) : State × Done :=
  let n := (o.b8 &&& 0x7FFFFFFFFFFFFFFF).toNat
  let cluster := bitOf o.b8 63
  if (if cluster then 64 else 1024) ≤ n ∨ o.b16 ≠ 0 ∨ o.b24 ≠ 0 ∨ o.b32 ≠ 0 then (s, .done stBadArg 0)
  else (s.resetCores (if cluster then coresOf n else [n]) 9 n o.b8.toNat, .done stOk 0)

/-- Performs one command (R281). -/
def State.perform (s : State) (c : Cmd) : State × Done :=
  if c.ops.stray then (s, .done (if 1 ≤ c.code.toNat ∧ c.code.toNat ≤ 12 then stBadArg else stBadCmd) 0)
  else match c.code.toNat with
    | 1 => s.doBind c.ops
    | 2 => s.doPreempt c.ops
    | 3 => s.doInval c.ops
    | 4 => s.doQmode c.ops
    | 5 => s.doDescinv c.ops
    | 6 => s.doTemper c.ops
    | 7 => s.doRoute c.ops
    | 8 => s.doAttest c.ops
    | 9 => s.doFring c.ops
    | 10 => s.doKill c.ops
    | 11 => s.doReset c.ops
    | 12 => s.doElog c.ops
    | _ => (s, .done stBadCmd 0)

/-- Performs the commands at the head of the mailbox until one waits. -/
def State.runMail : Nat → State → State
  | 0, s => s
  | n + 1, s =>
    match s.mail.queue with
    | [] => s
    | c :: t =>
      if s.mail.preempt.isSome then s
      else match s.perform c with
        | (s, .waits) => s
        | (s, .done status results) =>
          State.runMail n ((({ s with mail := { s.mail with queue := t } } : State).forget .command).complete c.code status results)

/-- System software writes a command (R281). -/
def State.command (s : State) (code : Byte) (o : CmdOps) : State :=
  if !s.takesHost then s
  else if 64 ≤ s.mail.queue.length then { s with mail := { s.mail with overrun := true } }
  else
    let c : Cmd := { code := code, ops := o }
    State.runMail 64 { s with mail := { s.mail with queue := s.mail.queue ++ [c], accepted := s.mail.accepted + 1 } }

/-- BINDPASID. -/
def execBindpasid (o : CmdOps) (s : State) : Out := .next (s.command 0x01 o)

/-- PREEMPT. -/
def execPreempt (o : CmdOps) (s : State) : Out := .next (s.command 0x02 o)

/-- INVAL. -/
def execInval (o : CmdOps) (s : State) : Out := .next (s.command 0x03 o)

/-- QMODE. -/
def execQmode (o : CmdOps) (s : State) : Out := .next (s.command 0x04 o)

/-- DESCINV. -/
def execDescinv (o : CmdOps) (s : State) : Out := .next (s.command 0x05 o)

/-- TEMPER. -/
def execTemper (o : CmdOps) (s : State) : Out := .next (s.command 0x06 o)

/-- ROUTE. -/
def execRoute (o : CmdOps) (s : State) : Out := .next (s.command 0x07 o)

/-- ATTEST. -/
def execAttest (o : CmdOps) (s : State) : Out := .next (s.command 0x08 o)

/-- FRING. -/
def execFring (o : CmdOps) (s : State) : Out := .next (s.command 0x09 o)

/-- KILL. -/
def execKill (o : CmdOps) (s : State) : Out := .next (s.command 0x0A o)

/-- RESET. -/
def execReset (o : CmdOps) (s : State) : Out := .next (s.command 0x0B o)

/-- ELOG. -/
def execElog (o : CmdOps) (s : State) : Out := .next (s.command 0x0C o)

/-- BADCMD: a code that names no command (R282); a code of the table given here is performed as that command. -/
def execBadcmd (code : Byte) (s : State) : Out :=
  .next (s.command code { b8 := 0, b16 := 0, b24 := 0, b32 := 0, stray := false })

/-! ### PREEMPT in course (R49, R283, R332) -/

/-- PREEMPT_HALT (R49, R283): the running context of a targeted core halts at its boundary and is evicted, whether or not it ran when the command
came; a SYNC that has been released is first issued and restarted (R332), and a trap at the boundary, a fetch fault that stands there among them, is
entered first (R306). -/
def execPreemptHalt (n : Nat) (s : State) : Out :=
  match s.mail.preempt with
  | none => .refused .notPending
  | some p =>
    if !p.cores.contains n then .refused .notPending
    else
      let gone := { s with mail := { s.mail with preempt := some { p with cores := removeNat n p.cores } } }
      match (s.coreOf n).cur with
      | none => .next gone
      | some uid => match s.ctx? uid with
        | none => .next gone
        | some c =>
          if !targets p.target c then .next gone
          else if c.id.status ≠ .running ∨ !(c.flow.barrier = .none ∨ c.flow.barrier = .arrived) ∨
              ((!c.flow.causes.isEmpty || c.budget.spent || (s.fetchStands uid c).isSome) && !c.swage.busy) then .refused .notPending
          else
            let more (p : Preempt) : Preempt := { p with waiting := insertNat uid p.waiting }
            .next (({ gone with mail := { gone.mail with preempt := gone.mail.preempt.map more } } : State).beginEvict uid 1 none)

/-- Whether a context of a PREEMPT is still to be evicted: one whose save slot was refused stays halted, and only a PREEMPT that is issued again
takes it (R335). -/
def State.preempting (s : State) (uid : Nat) : Bool :=
  match s.ctx? uid with
  | none => false
  | some c => match c.id.status with
    | .evicting 1 _ => true
    | _ => false

/-- A context that a PREEMPT covers and that no longer runs, since it yielded, parked, suspended or stopped for the debugger before its halt, is
evicted as the idle residents are (R49, R283). -/
def State.evictCovered (s : State) : State :=
  match s.mail.preempt with
  | none => s
  | some p => p.waiting.foldl (fun s uid => match s.ctx? uid with
    | some c => match c.id.status with
      | .ready | .parked | .stopped | .qwait => s.preemptIdle uid c
      | _ => s
    | none => s) s

/-- PREEMPT_COMPLETION (R49, R283). -/
def execPreemptCompletion (s : State) : Out :=
  match s.mail.preempt with
  | none => .refused .notPending
  | some p =>
    if !p.cores.isEmpty ∨ p.waiting.any s.preempting then .refused .notPending
    else
      let s := { s with mail := { s.mail with
        preempt := none
        queue := s.mail.queue.drop 1
        unlisted := s.mail.unlisted ++ p.pending.map fun a => (p.target, a) } }
      .next (State.runMail 64 (s.complete 0x02 (if p.pending.isEmpty then stOk else stMore) p.listed))

/-! ### Ring indices (R322, R357) -/

/-- FRP: system software names the next report it will read; reports held back are written while there is room. -/
def execFrp (x : W32) (s : State) : Out :=
  let s := { s with faults := { s.faults with rp := x } }
  .next (s.drainFaults s.faults.held)

/-- ERP. -/
def execErp (x : W32) (s : State) : Out := .next { s with errors := { s.errors with rp := x } }

/-! ### Accesses from outside (R68, R69, R279, R287, R350) -/

/-- The first byte of an access that lies in a secure region: its first, or the first of the region that its last is in (R76, R350). -/
def State.secureIn (s : State) (key size : Nat) : Nat := if s.isSecure key then key else (key + size - 1) / 2 ^ 30 * 2 ^ 30

/-- A WORLD entry for a region: the address within it is named in the secure view alone (R350). -/
def State.logWorld (s : State) (key unit where_ : Nat) : State :=
  s.logSecret (logEntry 5 unit where_ s.mcc (s.physAddr (key / 2 ^ 30 * 2 ^ 30)) 0 0) (some (s.physAddr key))

/-- An answer to a read from outside; poisoned data carry a mark that is not a byte. -/
def State.answer (s : State) (bs : List Byte) : State := { s with answers := s.answers ++ [bs] }

/-! ### What the host sees at a port (R279 to R281) -/

/-- Bytes of a register at an offset of BAR0. -/
def regByte (off at_ n x : Nat) : Option Byte := if at_ ≤ off ∧ off < at_ + n then some (BitVec.ofNat 8 (x / 2 ^ (8 * (off - at_)))) else none

/-- A byte of the package interface: completion, status, and the ring indices of R322 and R357; the rest reads as zero. -/
def State.interfaceByte (s : State) (off : Nat) : Byte :=
  (([(0x40, 64, s.mail.completion.toNat), (0x80, 4, s.mail.status.toNat), (0xC0, 4, s.faults.wp.toNat), (0xC8, 4, s.faults.rp.toNat),
     (0xD0, 4, s.errors.wp.toNat), (0xD8, 4, s.errors.rp.toNat), (0xE0, 4, s.errors.lost.toNat)] : List (Nat × Nat × Nat)).findSome?
    fun r => regByte off r.1 r.2.1 r.2.2).getD 0

/-- What an address of the host comes to (R279): a region that the device exposes, or memory of the host's own or of a peer. -/
inductive HostPlace where
  | dram (key : Nat)
  | interface (off : Nat)
  | window (off : Nat)
  | beyond (key : Nat)
  deriving DecidableEq, Repr

/-- Decodes an address by the bases that the host has programmed: one space, whichever port it programmed them at and whichever carries the access
(R15, R279). DESIGN CHOICE: where two programmed windows hold one address, BAR0 comes before BAR2 and BAR2 before the decoder, and port 0 before port 1
(log 181). -/
def State.hostPlace (s : State) (addr : Nat) : HostPlace :=
  let inside (t : Tbl W64) : Option Nat := ([0, 1].filterMap (Tbl.find t)).findSome? fun b =>
    if b.toNat ≤ addr ∧ addr < b.toNat + 65536 then some (addr - b.toNat) else none
  match inside s.fabric.bar0, inside s.fabric.bar2 with
  | some off, _ => .interface off
  | none, some off => .window off
  | none, none =>
    let key := keyOf s.fabric.hdm addr
    if key < deviceSize then .dram key else .beyond key

/-- The CXL port that carries what comes at one: the other where it is down (R348). -/
def State.cxlBy (s : State) (port : BitVec 1) : BitVec 1 := if s.portUp (cxlPort port.toNat) then port else ~~~port

/-- A host's write of some bytes to memory: a line that is written whole loses its mark, and poisoned data bring one (R343). -/
def State.hostStore (s : State) (key : Nat) (bs : List Byte) (bad : Bool) : State :=
  if bad then (s.store key bs).poisonLines key bs.length else s.store key bs

/-- HOST_MEMORY_ACCESS (R279, R280, R343, R350): a read of one byte or a write of some at an address of the host; memory of the host's own, which the
device caches, among them (R69). A read of a secure region, or of a poisoned line, returns poisoned data, which is an empty answer here; a queue
window reads as zeros; with both ports down nothing reaches the device (R348). DESIGN CHOICE: bytes written to the package interface, whose
registers have steps of their own, change nothing (log 170). -/
def execHostMemoryAccess (site : HostAt) (w : Option Byte) (s : State) : Out :=
  let bytes := (w.map fun b => b :: site.rest).getD []
  let size := max 1 bytes.length
  let plain (key : Nat) : Out := match w with
    | none => .next (s.answer (if s.isPoisoned key 1 then [] else [s.byte key]))
    | some _ => .next ((s.reveal none [(key, size)]).hostStore key bytes site.poisoned)
  if 2 ^ 64 < site.addr + size then .fault (.noSuchAddress site.addr)
  else match s.hostPlace site.addr with
    | .beyond key => plain key
    | .interface off => if s.hostCut then .refused .notPending else .next (match w with
      | none => s.answer [s.interfaceByte off]
      | some _ => s)
    | .window off => if s.hostCut then .refused .notPending else match w with
      | none => .next (s.answer [0])
      | some _ => execQueueWindowWrite site.port off bytes s
    | .dram key =>
      if s.hostCut then .refused .notPending
      else if s.isSecure key || s.isSecure (key + size - 1) then
        .next ((match w with
          | none => s.answer []
          | some _ => s).logWorld (s.secureIn key size) 6 (s.cxlBy site.port).toNat)
      else plain key

/-- The bytes that a peer's request touches. -/
def peerSize : PeerOp → Nat
  | .load n => n
  | .store bs _ => bs.length
  | .atomic op _ _ => if op.toNat = 5 ∨ op.toNat = 6 then 4 else 8
  | .xadd _ _ | .xrd _ | .qnew _ | .borrow _ | .giveBack _ _ => 64
  | .xaddv _ _ | .xrdv _ => 4096
  | .xclr n => 64 * n

/-- Whether a peer's request reads. -/
def peerReads : PeerOp → Bool
  | .load _ | .atomic _ _ _ | .xrd _ | .xrdv _ => true
  | _ => false

/-- Whether a peer's request writes. -/
def peerWrites : PeerOp → Bool
  | .load _ => false
  | _ => true

/-- XRD of one cell: the value, and the cell as it stands after (R105). -/
def State.readCell (s : State) (key : Nat) (rm : BitVec 2) : State × W32 :=
  let v := xaRead (BitVec.ofNat 512 (s.word key 64)) (rmOf rm)
  (s.store key (leBytes 64 v.2.toNat), v.1)

/-- XRD of cells one after another, each value as four bytes. -/
def State.readCells (s : State) (rm : BitVec 2) : List Nat → State × List Byte
  | [] => (s, [])
  | k :: ks =>
    let (s, x) := s.readCell k rm
    let (s, bs) := s.readCells rm ks
    (s, leBytes 4 x.toNat ++ bs)

/-- The places of n cells. -/
def cellsAt (key n : Nat) : List Nat := (List.range n).map fun i => key + 64 * i

/-- A peer's request at the home agent of this package, or at its Hearth, each as one step (R16, R43, R223, R224, R251, R287, R343); one
that would consume poison performs nothing. -/
def State.peer (s : State) (key : Nat) (op : PeerOp) : State :=
  if peerReads op && s.isPoisoned key (peerSize op) then s.answer []
  else match op with
    | .load n => s.answer (s.bytes key n)
    | .store bs bad => if bad then (s.store key bs).poisonLines key bs.length else s.store key bs
    | .atomic o x cmp =>
      let n := peerSize op
      let old := BitVec.ofNat 64 (s.word key n)
      (s.store key (leBytes n (atomicNew o old x cmp).toNat)).answer (leBytes n old.toNat)
    | .xadd x bad => s.addCell [(key, 64)] x bad
    | .xaddv x bad => (List.range 64).foldl (fun s i => s.addCell [(key + 64 * i, 64)] (laneV x i) bad) s
    | .xrd m =>
      let r := s.readCells m [key]
      r.1.answer r.2
    | .xrdv m =>
      let r := s.readCells m (cellsAt key 64)
      r.1.answer r.2
    | .xclr n => (cellsAt key n).foldl (fun s k => s.store k (leBytes 64 xaCleared.toNat)) s
    | .qnew total => s.initBlock key total
    | .borrow m => s.borrowInto key m
    | .giveBack w faulted => s.giveBack key w faulted

/-- PEER_REQUEST (R287, R350): an address of device DRAM by its offset. -/
def execPeerRequest (site : PeerAt) (op : PeerOp) (s : State) : Out :=
  let addr := site.addr
  if deviceSize < addr + peerSize op then .fault (.noSuchAddress addr)
  else if s.isSecure addr || s.isSecure (addr + peerSize op - 1) then
    .next ((if peerReads op then s.answer [] else s).logWorld (s.secureIn addr (peerSize op)) 7 site.link.toNat)
  else .next ((if peerWrites op then s.reveal none [(addr, peerSize op)] else s).peer addr op)

/-! ### Attestation over DOE (R288) -/

/-- SPDM_REQUEST: the same report is served. -/
def execSpdmRequest (nonce : BitVec 256) (s : State) : Out :=
  if s.mail.booted then .next { s with mail := { s.mail with doe := s.fabric.report nonce } } else .next s

end Sys2Proof.Machine
end

