-- ==== Sys2Proof/Machine/Debug.lean ====
section
/-! DEFINITION. The debugger (R291 to R302, R338, R339): stops and resumption, writes to a stopped context, debug and device registers,
device DRAM through the port, tagged samples. -/

namespace Sys2Proof.Machine

/-! ### Stops (R295, R297) -/

/-- A context stops for the debugger: the halt of R49 without an eviction. A single step whose propagation is still in course is taken when that
is complete (R297). -/
def Context.stopFor (c : Context) (reason index : Nat) : Context :=
  let c := c.halt 0 none
  { c with
    id := { c.id with status := .stopped, stopped := true }
    dbg := { c.dbg with
      dstat := stopStat c.dbg.dstat reason index
      pend := if c.swage.busy then c.dbg.pend.filter fun p => p.1 = 4 else [] } }

/-- The stop of a resident context: it holds no core, and a STOP record is written unless the hit of a watchpoint has written
it. -/
def State.stopCtx (s : State) (uid reason index slot : Nat) (off : W32) : State :=
  match s.ctx? uid with
  | none => s
  | some c =>
    let bclk := if reason = 4 then c.flow.bclk - 1 else c.flow.bclk
    let s := if reason = 3 then s else s.traceOf c.id.core c (stopRecord c.id.core c s.mcc reason index slot off bclk c.dbg.dwaddr)
    let s := (s.mapCtx uid fun c => c.stopFor reason index).withdraw uid
    s.mapCore c.id.core fun k =>
      let k := { k with fetch := k.fetch.filter fun f => f.1 ≠ uid }
      if k.cur = some uid then { k with cur := none, waited := 0, source := 0 } else k

/-- A context that is away, or on its way out, stays stopped once it is back. -/
def State.stopAway (s : State) (uid : Nat) : State :=
  s.mapCtx uid fun c => { c with id := { c.id with stopped := true }, dbg := { c.dbg with dstat := stopStat c.dbg.dstat 1 0 } }

/-- The stop that a boundary takes of those noted, if any: REASON, INDEX, slot and offset; that of a step never while its propagation is in course
(R297). The STOP record of a request names the bundle next to issue at the stop (R300). DESIGN CHOICE: where a request, a hit and a step stand at one
boundary, REASON is that of the first noted (log 171). -/
def Context.stopNext (c : Context) : Option (Nat × Nat × Nat × W32) :=
  match c.dbg.pend.filter fun p => !c.swage.busy || decide (p.1 ≠ 4) with
  | [] => none
  | p :: ps =>
    let least := ps.foldl (fun (m : Nat × Nat × W64 × Nat × W32) q => if q.1 = m.1 ∧ q.2.1 < m.2.1 then q else m) p
    some (least.1, least.2.1, least.2.2.2.1, if least.1 = 1 then c.flow.pc else least.2.2.2.2)

/-- The stop of a context that holds no core, after the causes that stand at its boundary (R295, R306): a request, or a stop that was noted while it
ran up to now. -/
def State.stopIdle (s : State) (uid : Nat) (c : Context) (ran : Bool) : State :=
  let s := s.takeStanding uid c ran
  match s.ctx? uid with
  | some c =>
    if c.leaving then s.stopAway uid
    else match c.stopNext with
      | some (reason, index, slot, off) => s.stopCtx uid reason index slot off
      | none => s.stopCtx uid 1 0 0 c.flow.pc
  | none => s

/-- A debugger's request reaches one context: a running one stops at its next boundary, one that holds no core stops where it is. -/
def State.requestStop (s : State) (uid : Nat) (c : Context) : State :=
  if !s.traces? c then s
  else match c.id.status with
    | .running => s.mapCtx uid fun c => { c with dbg := { c.dbg with pend := c.dbg.pend ++ [(1, 0, 0, 0, c.flow.pc)] } }
    | .ready | .parked => s.stopIdle uid c false
    | .qwait => s.stopCtx uid 1 0 0 c.flow.pc
    | .stopped | .ghost => s
    | .restoring | .evicting _ _ | .halted _ | .evicted => s.stopAway uid

/-- DEBUG_STOP_REQUEST (R295). -/
def execDebugStopRequest (target : StopTarget) (s : State) : Out :=
  let picks := s.ctxs.filter fun e => match target with
    | .context uid => e.1 = uid
    | .process pasid => e.2.id.pasid = pasid
  .next (picks.foldl (fun s e => s.requestStop e.1 e.2) s)

/-- A context continues from its halt point; the first bundle is not checked against breakpoints (R297, R298). -/
def Context.unstop (c : Context) : Context :=
  { c with
    id := { c.id with status := if c.id.atQwait then .qwait else .ready, stopped := false }
    flow := { c.flow with exempt := true }
    dbg := { c.dbg with dstat := stopStat c.dbg.dstat 0 0 } }

/-- DEBUG_RESUME (R297). DESIGN CHOICE: one for a stopped context that is pre-empted, evicted or on its way back changes nothing, and the context stays
stopped once it is back (log 191). -/
def execDebugResume (uid : Nat) (s : State) : Out :=
  match s.ctx? uid with
  | none => .next s
  | some c => if c.id.status = .stopped && s.traces? c then .next (s.mapCtx uid Context.unstop) else .next s

/-! ### Writes to a stopped context (R296, R339) -/

/-- A result without what it would write to a register: nothing, itself, or what else it does. -/
def Eff.without (e : Eff) (r : RegRef) : List Eff :=
  let hit (c : RegClass) (n : Nat) : Bool := r.1 = c && r.2 = n
  let keepUnless (b : Bool) : List Eff := if b then [] else [e]
  match e with
  | .k n _ | .kFail n | .narrowFail n => keepUnless (hit .k n.toNat)
  | .a n _ => keepUnless (hit .a n.toNat)
  | .p n _ => keepUnless (hit .p n.toNat)
  | .m n _ _ => keepUnless (hit .m n.toNat)
  | .v n _ _ => keepUnless (hit .v n.toNat)
  | .q n _ _ => keepUnless (hit .q n.toNat)
  | .narrow ws => [.narrow (ws.filter fun w => !hit .k w.1.toNat)]
  | .contract ws lanes prog emptied first =>
    let ws := ws.filter fun w => !hit .q w.1.toNat
    let prog := if hit .sys 0x019 then 0 else prog
    if hit .sys 0x01A then [.contract ws lanes prog 0 first, .qfail emptied first] else [.contract ws lanes prog emptied first]
  | .qclear prog _ => keepUnless (hit .sys (if prog then 0x019 else 0x01A))
  | .sys n _ => keepUnless (hit .sys n.toNat)
  | .vovf _ => keepUnless (hit .sys 0x032)
  | .ovfc _ => keepUnless (hit .sys 0x031)
  | .myw _ | .mywSub _ => keepUnless (hit .sys 0x039)
  | .qdi _ => keepUnless (hit .sys 0x03A)
  | .te n _ => keepUnless (hit .te n.toNat)
  | .prep b _ _ | .arm b _ => keepUnless (hit .b b.toNat)
  | .loop lv _ _ _ | .ldelta lv _ _ => keepUnless (hit .loop lv.toNat)
  | .post _ | .ckpt | .roll | .commit | .qfail _ _ | .scr _ _ _ | .epi _ | .budget _ | .cause _ _ | .poisoned _ => [e]

/-- The snapshot without the results for a register. -/
def cancelFor (fs : List Flight) (r : RegRef) : List Flight :=
  fs.flatMap fun f => if f.snap then (f.eff.without r).map fun e => { f with eff := e } else [f]

/-- The pipeline snapshot of a context holds no result for a register any more (R296). -/
def Context.cancel (c : Context) (r : RegRef) : Context :=
  { c with flow := { c.flow with flights := cancelFor c.flow.flights r }, trap := { c.trap with snapshot := cancelFor c.trap.snapshot r } }

/-- The register that an access returns a value to. -/
def AccOp.dest : AccOp → Option RegRef
  | .ldgA d | .atomic _ d _ _ | .xrd d _ => some (aRef d)
  | .ldgV d | .xrdv d _ => some (vRef d)
  | .ldgK d _ => some (kRef d)
  | _ => none

/-- Whether an access of a context is recorded for reissue: it has failed, or the context is halted or evicted (R326, R330, R331). One that is only
stopped goes on with what it has out (R295). -/
def Context.recorded (c : Context) (a : Acc) : Bool := a.hasFailed || decide (c.id.status ≠ .stopped)

/-- The numbers of the outstanding producers of a register whose late value is to be discarded. -/
def Context.producers (c : Context) (r : RegRef) : List Nat :=
  ((c.mem.outs.filter fun a => a.op.dest = some r).map (·.id)) ++ ((c.mem.divs.filter fun d => kRef d.d = r).map (·.id)) ++
    (c.mem.scats.filter fun x => vRef x.r = r || x.index.map vRef = some r).map (·.id)

/-- The POPs that wait for a register. -/
def State.popsFor (s : State) (uid : Nat) (r : RegRef) : List Nat :=
  s.clusters.flatMap fun g => g.2.value.flatMap fun q => (q.2.waiters.filter fun w => w.ctx = uid && aRef w.r = r).map (·.id)

/-- A write to a register: it becomes full, recorded loads of it are dropped, later values of it will be discarded, and the snapshot
holds none for it. -/
def Context.claimReg (c : Context) (r : RegRef) (pops : List Nat) : Context :=
  let gone := c.mem.outs.filter fun a => c.recorded a && a.op.loads && a.op.dest = some r
  let dead := c.mem.scats.filter fun x => x.failed && vRef x.r = r
  let c := ({ c with mem := { c.mem with
    outs := c.mem.outs.filter fun a => !gone.contains a
    scats := c.mem.scats.filter fun x => !dead.contains x } } : Context).cancel r
  { c with
    regs := c.regs.mark r false
    mem := { c.mem with discard := c.mem.discard ++ (c.producers r ++ pops).map fun id => (r.1, r.2, id) }
    dbg := if gone.isEmpty && dead.isEmpty then c.dbg else { c.dbg with dstat := discStat c.dbg.dstat r } }

/-- The stack of checkpoints with the newest of them merged away. -/
def Swage.mergeTo (w : Swage) (depth : Nat) : Nat → Swage
  | 0 => w
  | n + 1 => if w.ckpts.length ≤ depth then w else w.commit.mergeTo depth n

/-- Writes a system register that the context keeps, those that MOVG does not write among them. DESIGN CHOICE: a lower STOREH drops the
relations above it and a lower CKPTD merges the newest checkpoints, as COMMIT does; a higher one finds nothing to add; WDC counts on from what is
written (log 162). -/
def Context.debugSys (c : Context) (n : Nat) (x : W64) : Context :=
  let put (y : Sys) : Context := { c with sys := y }
  match n with
  | 0x001 => { c with flow := { c.flow with bclk := x } }
  | 0x002 => { c with id := { c.id with slot := (low32 x).toNat } }
  | 0x003 => { c with id := { c.id with pasid := x.extractLsb' 0 20 } }
  | 0x004 => { c with id := { c.id with world := bitOf x 0 } }
  | 0x011 => { c with swage := { c.swage with pused := (low32 x).toNat } }
  | 0x012 => { c with swage := { c.swage with store := c.swage.store.take (low32 x).toNat } }
  | 0x013 => { c with swage := c.swage.mergeTo (low32 x).toNat c.swage.ckpts.length }
  | 0x031 => put { c.sys with ovfc := low32 x }
  | 0x038 => put { c.sys with rxw := x }
  | 0x039 => put { c.sys with myw := x }
  | 0x03A => put { c.sys with qdi := low32 x }
  | 0x049 => put { c.sys with lastdrift := x }
  | 0x050 => put { c.sys with wdcShift := x - c.drainedTo }
  | 0x051 => put { c.sys with wic := x }
  | n => if sysWrites (BitVec.ofNat 12 n) then put (c.sys.movg (BitVec.ofNat 12 n) x) else c

/-- The state of a buffer by number. -/
def bufState : Nat → BufState
  | 0 => .empty
  | 1 => .prepared
  | 2 => .armedTaken
  | _ => .armedNot

/-- The kind of a buffer by number, in the order of R124. -/
def bufKind : Nat → PrepKind
  | 0 => .prep
  | 1 => .prepc
  | 2 => .prepr
  | _ => .prepi

/-- Changes a loop level. -/
def Context.mapLoop (c : Context) (lv : Nat) (f : Loop → Loop) : Context :=
  { c with flow := { c.flow with loops := Tbl.put c.flow.loops lv (f (Tbl.get Loop.none c.flow.loops lv)) } }

/-- Changes a target buffer. -/
def Context.mapBuf (c : Context) (b : Nat) (f : TBuf → TBuf) : Context :=
  { c with flow := { c.flow with bufs := Tbl.put c.flow.bufs b (f (Tbl.get TBuf.none c.flow.bufs b)) } }

/-- The write of one register by class. -/
def Context.putReg (c : Context) (cls : RegClass) (n : Nat) (x : BitVec 2048) : Context :=
  let w := x.extractLsb' 0 64
  match cls with
  | .k => { c with regs := c.regs.writeK (BitVec.ofNat 6 n) (x.extractLsb' 0 128) }
  | .a => { c with regs := c.regs.writeA (BitVec.ofNat 5 n) w }
  | .v => { c with regs := c.regs.writeV (BitVec.ofNat 6 n) x }
  | .q => { c with regs := c.regs.writeQ (BitVec.ofNat 5 n) x }
  | .p => { c with regs := c.regs.writeP (BitVec.ofNat 7 n) (x.extractLsb' 0 2) }
  | .m => { c with regs := c.regs.writeM (BitVec.ofNat 4 n) w }
  | .b => c.mapBuf (n % 4) fun b => { b with st := bufState (x.extractLsb' 0 2).toNat }
  | .te => c.setTe (n % 64) (if n % 64 < 32 then low32 w else low32 w &&& 0x07FFFFFF)
  | .fmt => { c with sys := { c.sys with fmt := Tbl.set 0 c.sys.fmt (n % 16) (low32 w &&& 0x000FFFFF) } }
  | .loop => c.mapLoop (n % 4) fun l => { l with active := bitOf x 0 }
  | .sys => c.debugSys n w
  | .om => c

/-- The return stack with n entries: the oldest that it holds, or entries of 0 on top, as far as the core has room (R126). -/
def Flow.toDepth (f : Flow) (n : Nat) : Flow :=
  let whole := f.rstack ++ f.spilled
  let more := min n (16 + f.spilled.length) - whole.length
  let new := List.replicate more 0 ++ whole.drop (whole.length - n)
  let here := if new.isEmpty then 0 else max 1 (new.length - f.spilled.length)
  { f with rstack := new.take here, spilled := new.drop here }

/-- A debugger's write to a place of a stopped context (R296). -/
def Context.debugWrite (c : Context) (place : DbgPlace) (x : BitVec 2048) (pops : RegRef → List Nat) : Context :=
  let w := low32 (x.extractLsb' 0 64)
  match place with
  | .reg cls n => (c.claimReg (cls, n) (pops (cls, n))).putReg cls n x
  | .loopStart lv => (c.cancel (.loop, lv.toNat)).mapLoop lv.toNat fun l => { l with start := w }
  | .loopEnd lv => (c.cancel (.loop, lv.toNat)).mapLoop lv.toNat fun l => { l with last := w }
  | .loopCount lv => (c.cancel (.loop, lv.toNat)).mapLoop lv.toNat fun l => { l with count := w }
  | .delta lv r => (c.cancel (.loop, lv.toNat)).mapLoop lv.toNat fun l => { l with delta := Tbl.set 0 l.delta r.toNat w }
  | .bufTarget b => (c.cancel (.b, b.toNat)).mapBuf b.toNat fun t => { t with target := w }
  | .bufKind b => (c.cancel (.b, b.toNat)).mapBuf b.toNat fun t => { t with kind := Machine.bufKind (w.toNat % 4) }
  | .retEntry i => { c with flow := { c.flow with
      rstack := c.flow.rstack.set i w
      spilled := c.flow.spilled.set (i - c.flow.rstack.length) (if i < c.flow.rstack.length then
        c.flow.spilled.getD (i - c.flow.rstack.length) 0 else w) } }
  | .retDepth => { c with flow := c.flow.toDepth w.toNat }
  | .scratch off => if off < c.scrSize then { c with mem := c.mem.scrWrite off [x.extractLsb' 0 8] false } else c

/-- Whether a context is stopped for the debugger, in its place or, pre-empted, away from it (R295, R339). -/
def Context.stoppedNow (c : Context) : Bool := match c.id.status with
  | .stopped => true
  | .evicting _ _ | .halted _ | .evicted | .restoring => c.id.stopped
  | _ => false

/-- A debugger's write that reaches past the context: MCC is the package's, and the scratchpad of an evicted context lies in its save slot, where a walk
for a write finds it open (R19, R72, R77). -/
def State.debugWrite (s : State) (uid : Nat) (c : Context) (place : DbgPlace) (x : BitVec 2048) : State :=
  match place with
  | .reg .sys 0 => { s with mcc := x.extractLsb' 0 64, micros := (x.extractLsb' 0 64).toNat / 1000 }
  | .scratch off =>
    if c.id.stored && decide (off < c.scrSize) then
      match s.findOpen c.agent (c.savedBase + imageOffset + c.scrAt + off) .write with
      | some (s, key) => s.store key [x.extractLsb' 0 8]
      | none => s
    else s.mapCtx uid fun c => c.debugWrite place x (s.popsFor uid)
  | _ => s.mapCtx uid fun c => c.debugWrite place x (s.popsFor uid)

/-- DEBUGGER_REGISTER_WRITE (R296, R339). -/
def execDebuggerRegisterWrite (uid : Nat) (place : DbgPlace) (x : BitVec 2048) (s : State) : Out :=
  match s.ctx? uid with
  | none => .next s
  | some c => if c.stoppedNow && s.traces? c then .next (s.debugWrite uid c place x) else .next s

/-! ### Registers (R279, R292, R294) -/

/-- A debug register of a template or of a context, its reserved bits zero (R294). -/
def Template.write (t : Template) (r : DbgReg) (x : W64) : Template :=
  match r with
  | .dctl => { t with dctl := low32 x &&& 0x1F9 }
  | .bk n => { t with bk := Tbl.put t.bk n.toNat (x &&& 0x8000FFFFFFFFFFFF) }
  | .wa n => { t with wa := Tbl.put t.wa n.toNat (x &&& 0x01FFFFFFFFFFFFFF) }
  | .wc n => { t with wc := Tbl.put t.wc n.toNat (low32 x &&& 0x1FF) }
  | .dtlen => { t with dtlen := x.extractLsb' 0 16 }
  | .speriod => { t with speriod := x.extractLsb' 0 16 }

/-- The debug registers of a context as a template. -/
def Dbg.template (d : Dbg) : Template :=
  { dctl := d.dctl, bk := d.bk, wa := d.wa, wc := d.wc, dtlen := d.dtlen, speriod := d.speriod }

/-- Debug registers of a context with those of a template. -/
def Dbg.withTemplate (d : Dbg) (t : Template) : Dbg :=
  { d with dctl := t.dctl, bk := t.bk, wa := t.wa, wc := t.wc, dtlen := t.dtlen, speriod := t.speriod }

/-- Changes the trace registers of a stack. -/
def State.mapTrace (s : State) (n : Nat) (f : Trace → Trace) : State :=
  { s with traces := Tbl.put s.traces n (f (Tbl.get Trace.fresh s.traces n)) }

/-- Writes a device or debug register. -/
def State.writeReg (s : State) (r : DevReg) (x : W64) : State :=
  match r with
  | .tbase n => s.mapTrace n.toNat fun t => { t with base := x &&& 0x0000007FFFFFF000 }
  | .tsize n => s.mapTrace n.toNat fun t => { t with size := low32 x }
  | .twp n => s.mapTrace n.toNat fun t => { t with wp := low32 x }
  | .tmode n => s.mapTrace n.toNat fun t => { t with mode := x.extractLsb' 0 1 }
  | .tlost n => s.mapTrace n.toNat fun t => { t with lost := low32 x }
  | .bar0 n => { s with fabric := { s.fabric with bar0 := Tbl.put s.fabric.bar0 n.toNat x } }
  | .bar2 n => { s with fabric := { s.fabric with bar2 := Tbl.put s.fabric.bar2 n.toNat x } }
  | .hdm n => { s with fabric := { s.fabric with hdm := Tbl.put s.fabric.hdm n.toNat x } }
  | .template pasid r =>
    { s with templates := Tbl.put s.templates pasid.toNat ((Tbl.get Template.fresh s.templates pasid.toNat).write r x) }
  | .ctxDebug uid r => match s.ctx? uid with
    | none => s
    | some c =>
      if c.stoppedNow && s.traces? c then
        s.mapCtx uid fun c => { c with dbg := c.dbg.withTemplate (c.dbg.template.write r x) }
      else s

/-- REGISTER_WRITE (R279, R292, R294). -/
def execRegisterWrite (r : DevReg) (x : W64) (s : State) : Out := .next (s.writeReg r x)

/-- DSTAT (R294): a write of 0 to DISC clears the discard record. -/
def execDstat (uid : Nat) (x : W64) (s : State) : Out :=
  match s.ctx? uid with
  | none => .next s
  | some c =>
    if c.stoppedNow && s.traces? c && !bitOf x 7 then
      .next (s.mapCtx uid fun c => { c with dbg := { c.dbg with dstat := c.dbg.dstat &&& 0x7F } })
    else .next s

/-! ### Memory through the port (R291) -/

/-- DEBUG_MEMORY_ACCESS (R291): one byte of device DRAM; secure regions only with SDEBUG. -/
def execDebugMemoryAccess (addr : Nat) (w : Option Byte) (s : State) : Out :=
  if deviceSize ≤ addr then .fault (.noSuchAddress addr)
  else if s.isSecure addr && !s.fabric.sdebug then .next (match w with
    | none => s.answer []
    | some _ => s)
  else match w with
    | none => .next (s.answer (if s.isPoisoned addr 1 then [] else [s.byte addr]))
    | some b => .next (s.store addr [b])

/-! ### Sampling (R302) -/

/-- SAMPLE_RECORD (R302). -/
def execSampleRecord (uid : Nat) (s : State) : Out :=
  match s.ctx? uid with
  | none => .refused .notPending
  | some c => match c.dbg.tags.find? fun t => t.wait.isEmpty with
    | none => .refused .notPending
    | some t =>
      let s := s.mapCtx uid fun c => { c with dbg := { c.dbg with tags := c.dbg.tags.erase t } }
      .next (s.traceOf c.id.core c t.record)

end Sys2Proof.Machine
end

