-- ==== Sys2Proof/Machine/Ctl.lean ====
section
/-! DEFINITION. The control slot, slot 0 (R140 to R157), with the tail bits of its word (R122 to R126): transfer preparation,
loops, budget, markers, barriers, launches, weight, traps. CTL effects take place at the end of the bundle. -/

namespace Sys2Proof.Machine

/-! ### The return stack (R126) -/

/-- The top entry, which is the most recently spilled one when the in-core stack is empty (R124). -/
def Flow.top (f : Flow) : Option W32 := match f.rstack with
  | x :: _ => some x
  | [] => f.spilled.head?

/-- A pop; one that empties the in-core stack refills it. -/
def Flow.pop (f : Flow) : Flow :=
  match f.rstack, f.spilled with
  | [_], y :: t => { f with rstack := [y], spilled := t }
  | _ :: t, _ => { f with rstack := t }
  | [], _ => { f with spilled := f.spilled.drop 1 }

/-- A push; one onto 16 entries spills the oldest. -/
def Flow.push (f : Flow) (x : W32) : Flow :=
  if f.rstack.length < 16 then { f with rstack := x :: f.rstack }
  else { f with rstack := x :: f.rstack.take 15, spilled := f.rstack.drop 15 ++ f.spilled }

/-! ### Tail bits -/

/-- Whether the transfer of an issued TX is taken (R124). -/
def TBuf.takes (b : TBuf) : Bool := b.st = .prepared || b.st = .armedTaken

/-- The wait of a TX on its PREP: stall source 6 (R119). -/
def State.txWait (s : State) (x : BitVec 1) (t : BitVec 2) : Option Nat :=
  if x = 1 ∧ (s.buf t).st ≠ .empty ∧ (s.mcc - (s.buf t).at_).toNat < 2 then some 6 else none

/-- TINFO of TXEMPTY where the return stack is empty (R308). -/
def rseInfo (b : BitVec 2) : W64 := BitVec.ofNat 64 (2 ^ 16) ||| regInfo .b b.toNat

/-- The checks of a TX: TXEMPTY, then SPILL (R124, R126, R304, R341). -/
def State.tailChecks (s : State) (x : BitVec 1) (t : BitVec 2) : List (Option Cause) :=
  if x = 1 then
    let b := s.buf t
    let f := s.issue.flow
    [s.bufEmpty 0 t, s.check 0 (b.kind = .prepr && f.top.isNone) 0x0D (rseInfo t),
     s.check 0 (b.kind = .prepc && b.takes && 16 ≤ f.rstack.length && s.issue.trailFree = 0) 0x12 0]
  else []

/-- The tail bits act: the buffer is consumed, the return stack moves, and the end of the bundle learns the rest (R124,
R125, R149). -/
def Context.tailAct (c : Context) (b : TBuf) (e y x : BitVec 1) (t : BitVec 2) : Context :=
  let f := c.flow
  let f := if x = 1 then { f with bufs := Tbl.put f.bufs t.toNat TBuf.none } else f
  let f := if x = 1 ∧ b.kind = .prepc ∧ b.takes then f.push (f.pc + 1) else f
  let f := if x = 1 ∧ b.kind = .prepr then f.pop else f
  { c with flow := { f with tail := { f.tail with
      taken := if x = 1 ∧ b.takes then some b.target else f.tail.taken
      yield := y = 1
      stop := if e = 1 then .ending else f.tail.stop } } }

/-- Why an operation on the block of the context's own domain does not issue, if anything: the block is poisoned (R344), or no port leads to
the peer that homes it (R348). TINFO is the address of the block that the context keeps, whatever its table entry says now (R43). -/
def State.homeCheck (s : State) (on : Bool) : Option Cause :=
  if !on || !s.issue.inDomain then none
  else
    let key := s.issue.home?.toNat
    let va := s.issue.id.homeVa
    if s.linkDown key then some (s.sysCause 0 0x31 0 va va 3)
    else if s.isPoisoned key 64 then some (s.sysCause 0 0x30 2 va va 3)
    else none

/-- A CTL operation with its tail bits: it carries no guard and always executes (R140); the tail is checked after the
payload (R304), and the block that END returns weight to after that (R33, R344). -/
def State.ctlOp (s : State) (e y x : BitVec 1) (t : BitVec 2) (waits : List (Option Nat)) (late : List (Option Cause))
    (act : State → State) : Out :=
  s.issueOp true [] (waits ++ [s.txWait x t]) (late ++ s.tailChecks x t ++ [s.homeCheck (e = 1)]) fun s' =>
    (act s').mapLive fun c => c.tailAct (s.buf t) e y x t

/-- NOP_CTL (R109): the tail bits alone. -/
def execNopCtl (e y x : BitVec 1) (t : BitVec 2) (s : State) : Out := s.ctlOp e y x t [] [] id

/-! ### Transfer preparation and loops -/

/-- PREP (R124, R141). -/
def execPrep (e y x : BitVec 1) (t b : BitVec 2) (o : BitVec 19) (s : State) : Out :=
  s.ctlOp e y x t [] [] fun s => s.fly 1 0 (.prep b .prep (s.issue.flow.pc + o.signExtend 32))

/-- PREPC (R124, R125). -/
def execPrepc (e y x : BitVec 1) (t b : BitVec 2) (o : BitVec 19) (s : State) : Out :=
  s.ctlOp e y x t [] [] fun s => s.fly 1 0 (.prep b .prepc (s.issue.flow.pc + o.signExtend 32))

/-- PREPR (R124): the top of the return stack as at issue; TXEMPTY with RSE when there is none. -/
def execPrepr (e y x : BitVec 1) (t b : BitVec 2) (s : State) : Out :=
  s.ctlOp e y x t [] [s.check 0 s.issue.flow.top.isNone 0x0D (rseInfo b)] fun s =>
    s.fly 1 0 (.prep b .prepr (s.issue.flow.top.getD 0))

/-- PREPI (R124, R141). -/
def execPrepi (e y x : BitVec 1) (t b : BitVec 2) (r : BitVec 5) (o : BitVec 14) (s : State) : Out :=
  s.ctlOp e y x t [s.waitRegs [aRef r]] [] fun s => s.fly 1 0 (.prep b .prepi (low32 (s.a r) + o.signExtend 32))

/-- Whether a body breaks the nesting of R128: lower-numbered active levels hold it, higher-numbered ones lie in it. -/
def Flow.breaksNest (f : Flow) (v : BitVec 2) (start last : W32) : Bool :=
  f.loops.any fun l => l.2.active && l.1 ≠ v.toNat &&
    (if l.1 < v.toNat then !(l.2.start.ule start && last.ule l.2.last) else !(start.ule l.2.start && l.2.last.ule last))

/-- LOOP and LOOPI activate a level (R128). -/
def State.loopStart (s : State) (v : BitVec 2) (len count : W32) : State :=
  s.fly 1 0 (.loop v (s.issue.flow.pc + 1) (s.issue.flow.pc + len) count)

/-- The nesting check (R128, R310). -/
def State.nestCheck (s : State) (v : BitVec 2) (len : W32) (zero : Bool) (word : Nat) : Option Cause :=
  s.context7 0 (!zero && s.issue.flow.breaksNest v (s.issue.flow.pc + 1) (s.issue.flow.pc + len)) word

/-- LOOP (R128, R142): with a zero count it activates nothing and continues at S + len. -/
def execLoop (e y x : BitVec 1) (t v : BitVec 2) (n : BitVec 5) (l : BitVec 14) (s : State) : Out :=
  let len : W32 := l.zeroExtend 32 + 1
  let zero : Bool := low32 (s.a n) = 0
  s.ctlOp e y x t [s.waitRegs [aRef n]] [s.nestCheck v len zero (encode (.loop e y x t v n l))] fun s =>
    if zero then s.mapLive fun c =>
      { c with flow := { c.flow with tail := { c.flow.tail with skip := some (c.flow.pc + 1 + len) } } }
    else s.loopStart v len (low32 (s.a n))

/-- LOOPI (R128, R142). -/
def execLoopi (e y x : BitVec 1) (t v : BitVec 2) (c : BitVec 9) (l : BitVec 10) (s : State) : Out :=
  let len : W32 := l.zeroExtend 32 + 1
  s.ctlOp e y x t [] [s.nestCheck v len false (encode (.loopi e y x t v c l))] fun s =>
    s.loopStart v len (c.zeroExtend 32 + 1)

/-! ### Budget and markers -/

/-- BUDGET (R143): 0 declares 0xFFFF_FFFF. -/
def execBudget (e y x : BitVec 1) (t : BitVec 2) (c : BitVec 21) (s : State) : Out :=
  s.ctlOp e y x t [] [] fun s => s.fly 1 0 (.budget (if c = 0 then 0xFFFFFFFF else c.zeroExtend 32))

/-- MARK's elapsed cycles (R144). -/
def State.elapsed (s : State) : BitVec 21 := (s.mcc - s.issue.budget.sliceStart).extractLsb' 0 21

/-- The drift of a MARK (R144). -/
def State.drift (s : State) (expected : BitVec 21) : W64 := sext64 (s.elapsed - expected)

/-- Whether a drift is logged (R144). -/
def State.drifts (s : State) (expected : BitVec 21) : Bool :=
  s.issue.sys.driftt ≠ 0 && s.issue.sys.driftt.toNat ≤ (s.drift expected).toInt.natAbs

/-- The drift record, and the detailed trace that it arms: of the bundles after that of the MARK, which counts itself off (R144, R301). DESIGN CHOICE:
the history is empty once it has been written (log 179). -/
def State.logDrift (s : State) (expected : BitVec 21) : State :=
  let d := s.drift expected
  let s := s.mapLive fun c => { c with sys := { c.sys with lastdrift := d } }
  let s := s.traceOf s.core s.issue (driftRecord s.core s.issue s.mcc d expected s.elapsed)
  if bitOf s.issue.dbg.dctl 6 then
    (s.traceHistory s.core s.issue).mapLive fun c => { c with dbg := { c.dbg with hist := [], detail := c.dbg.dtlen.toNat + 1 } }
  else s

/-- MARK (R144). -/
def execMark (e y x : BitVec 1) (t : BitVec 2) (c : BitVec 21) (s : State) : Out :=
  s.ctlOp e y x t [] [] fun s => if s.drifts c then s.logDrift c else s

/-! ### Barriers and waits -/

/-- Whether the running context is a member of a gang of a scope (R145). -/
def State.gangFits (s : State) (scope : BitVec 2) : Bool :=
  match s.issue.id.gang with
  | none => false
  | some g => match Tbl.find s.gangs g with
    | none => false
    | some k => k.stack = (scope = 1)

/-- The gang of the running context. -/
def State.gangOf (s : State) : Gang :=
  ((s.issue.id.gang.bind fun g => Tbl.find s.gangs g)).getD { stack := false, members := [], arrived := [], restart := none }

/-- Whether the SYNC of the running context is the last to arrive. -/
def State.lastToArrive (s : State) : Bool := s.gangOf.members.all fun m => m = s.uid || s.gangOf.arrived.contains m

/-- Whether some member's core runs another context (R41): an idle core runs none. -/
def State.membersAway (s : State) : Bool :=
  s.gangOf.members.any fun m => m ≠ s.uid && match Tbl.find s.ctxs m with
    | some c => match (s.coreOf c.id.core).cur with
      | some o => o ≠ m
      | none => false
    | none => false

/-- The restart cycle when the last member arrives now (R41). -/
def State.restartAt (s : State) : W64 :=
  s.mcc + (if s.gangOf.stack then 32 else if s.membersAway then 28 else 4)

/-- A running context leaves its core, ready again; one for which a stop is noted stops, after the causes that stand at its boundary (R41, R295,
R306). -/
def State.leavesCore (s : State) (uid : Nat) : State :=
  match s.ctx? uid with
  | none => s
  | some c =>
    if c.id.status ≠ .running then s
    else
      let c : Context := { c with id := { c.id with status := .ready } }
      let s := { s with ctxs := Tbl.put s.ctxs uid c }
      if c.stopsNow then s.stopIdle uid c true else s

/-- A resident member whose core runs another context is switched back, and one whose core is idle takes it (R41); a context whose image is still on
its way there is ready once it has it (R336). -/
def State.switchBack (s : State) (m : Nat) : State :=
  match Tbl.find s.ctxs m with
  | none => s
  | some c =>
    let co := s.coreOf c.id.core
    if m = s.uid ∨ co.cur = some m ∨ !(c.id.status = .parked || c.id.status = .ready) then s
    else
      let s := match co.cur with
        | some o => s.leavesCore o
        | none => s
      (s.mapCtx m fun d => { d with id := { d.id with status := .running } }).mapCore c.id.core fun k =>
        { k with cur := some m, switch := if co.cur.isSome then 24 else 0, waited := 0, source := if co.cur.isSome then 9 else 0 }

/-- The last arrival: every member is released for the restart cycle (R41). -/
def State.releaseGang (s : State) : State :=
  match s.issue.id.gang with
  | none => s
  | some g =>
    let k := s.gangOf
    let at_ := s.restartAt
    let s := k.members.foldl (fun s m => (s.switchBack m).mapCtx m fun c => { c with flow := { c.flow with barrier := .released } }) s
    { s with gangs := Tbl.put s.gangs g { k with restart := some at_ } }

/-- An arrival that must wait (R41). -/
def State.arrive (s : State) : State :=
  match s.issue.id.gang with
  | none => s
  | some g =>
    let s := s.mapLive fun c => { c with flow := { c.flow with barrier := .arrived } }
    { s with gangs := Tbl.put s.gangs g { s.gangOf with arrived := insertNat s.uid s.gangOf.arrived } }

/-- SYNC (R41, R145): the bundle waits until the last member has arrived; the next one waits for the restart cycle. -/
def execSync (e y x : BitVec 1) (t sc : BitVec 2) (s : State) : Out :=
  let bad := s.context7 0 (!s.gangFits sc) (encode (.sync e y x t sc))
  let held := s.issue.flow.barrier = .none ∨ s.issue.flow.barrier = .arrived
  if bad.isNone ∧ held ∧ !s.lastToArrive ∧ s.txWait x t = none then .next ((s.arrive).judge (.waits 5))
  else
    s.ctlOp e y x t [] [bad] fun s =>
      (if held then s.releaseGang else s).mapLive fun c =>
        { c with flow := { c.flow with barrier := if s.issue.flow.barrier = .late then .none else .issued } }

/-- WAITTE (R62, R146). -/
def execWaitte (e y x : BitVec 1) (t : BitVec 2) (n : BitVec 6) (h : BitVec 1) (s : State) : Out :=
  let w := s.issue.te n.toNat
  s.ctlOp e y x t [if teSt w = teReady ∧ tePh w = h then none else some 4] [] id

/-- DRAINW (R146): the next bundle waits; this one does not. -/
def execDrainw (e y x : BitVec 1) (t : BitVec 2) (s : State) : Out :=
  s.ctlOp e y x t [] [] fun s => s.mapLive fun c =>
    { c with flow := { c.flow with tail := { c.flow.tail with drainw := true } } }

/-! ### Launch and suspension -/

/-- The record that SPAWN finds in scratchpad (R147). -/
def State.spawnRecord (s : State) (off : Nat) : BitVec 512 := BitVec.ofNat 512 (leNat (s.issue.scrView s.tick off 64))

/-- Whether a record in scratchpad breaks R310. -/
def spawnBad (r : BitVec 512) : Bool :=
  let w : W32 := recField r 24 32
  16 ≤ (w.extractLsb' 21 6).toNat || w.extractLsb' 27 5 ≠ 0 || !partOk (recField r 20 32)

/-- The record that SPAWN offers (R147). -/
def Context.spawned (c : Context) (r : BitVec 512) (weight : W64) : BitVec 512 :=
  let r := recSet r 6 16 0
  let r := recSet r 24 32 (whoOf c.id.pasid c.id.world + 2 ^ 21 * ((recField r 24 32 : W32).extractLsb' 21 6).toNat)
  let r := recSet r 28 32 c.sys.qdi.toNat
  recSet r 32 64 weight.toNat

/-- The borrow of R45, in program order and through the gate. -/
def Context.borrowFirst (c : Context) : Context :=
  c.pass { kind := kBorrow, target := c.sys.qdi.toNat }
    (fun c => (c.send (.borrow c.home? c.sys.qbsz true)).account c.sys.qbsz) fun c => c

/-- The wait of a QSPLIT that borrows, whose aD shows the weight after the borrow, and of one behind a borrow that is still to be performed (R45, R151,
log 165). -/
def State.borrowWait (s : State) : Option Nat :=
  let borrows := s.issue.inDomain && s.issue.sys.myw = 1 && !s.linkDown s.issue.home?.toNat &&
    s.issue.gateOf { kind := kBorrow, target := s.issue.sys.qdi.toNat } = .perform
  s.mywWait.orElse fun _ => if borrows && s.issue.mem.hearth.any fun h => h.op.toHearth then some s.hearthSource else none

/-- SPAWN's effect when its record is taken (R147, R151). -/
def Context.spawn (c : Context) (w : W64) (pd qid : BitVec 6) (r : BitVec 512) : Context :=
  let borrows := c.inDomain && w = 1
  let c := if borrows then c.borrowFirst else c
  let w := if borrows then w + c.sys.qbsz else w
  let give : W64 := if c.inDomain then w / 2 else 0
  c.pass { kind := kSpawn, target := qid.toNat }
    (fun c => (c.send (.offer qid (c.spawned r give) c.sys.wic)).account (-give))
    (fun c =>
      let c := if c.inDomain then c.fly 1 0 (.myw (w - give)) else c
      c.fly 1 0 (.p (pd.zeroExtend 7) predT))

/-- A weight RANGE at the end of the bundle (R320). -/
def State.weightRange (s : State) (x : W64) : State := s.fly 1 0 (.cause 0x09 x)

/-- Whether a sum of weights leaves the 64 bits of MYW (R152). -/
def overflows (x y : W64) : Bool := 2 ^ 64 ≤ x.toNat + y.toNat

/-- Whether SPAWN's record is taken: a place is free, or the run replays a SPAWN that was (R35, R354). -/
def State.takesSpawn (s : State) (qid : BitVec 6) : Bool :=
  let borrows := s.issue.inDomain && s.issue.sys.myw = 1
  let key : AccKey := if borrows then { kind := kBorrow, target := s.issue.sys.qdi.toNat } else { kind := kSpawn, target := qid.toNat }
  s.placeFree || s.live.run.suppress.head? = some key

/-- SPAWN (R147): a marked record is consumed before what it holds is looked at (R344); with no place free nothing is split (R31). It never stalls: its
borrow and its record follow the earlier Hearth operations of the context (R151), and MYW has its new value at the end of the bundle. -/
def execSpawn (e y x : BitVec 1) (t : BitVec 2) (p : BitVec 6) (r : BitVec 5) (q : BitVec 6) (s : State) : Out :=
  let off := (s.a r).toNat
  let rec_ := s.spawnRecord off
  let objn := ((s.bind? s.issue.id.pasid).map (·.objn)).getD 0
  let obj := (recField rec_ 0 16 : BitVec 16).toNat
  let marked := (s.issue.viewMarked? s.tick off 64).isSome
  s.ctlOp e y x t [s.waitRegs [aRef r]]
    [s.check 0 (off % 64 ≠ 0 || s.issue.scrSize < off + 64) 0x09 (s.a r),
     if marked then some (s.sysCause 0 0x30 2 (BitVec.ofNat 64 (2 ^ 63 + off)) 0 4) else none,
     s.context7 0 (spawnBad rec_) (encode (.spawn e y x t p r q)),
     if objn ≤ obj then some (s.sysCause 0 0x22 2 (BitVec.ofNat 64 obj) 0 4) else none,
     s.homeCheck (s.issue.sys.myw = 1 && s.takesSpawn q)] fun s =>
      let w := s.issue.sys.myw
      if !s.takesSpawn q then s.fly 1 0 (.p (p.zeroExtend 7) predF)
      else if s.issue.inDomain && w = 1 && overflows w s.issue.sys.qbsz then s.weightRange (w + s.issue.sys.qbsz)
      else s.mapLive fun c => c.spawn w p q rec_

/-- A stop that acts after the bundle (R148, R149). -/
def State.stopWith (s : State) (st : Stop) : State :=
  s.mapLive fun c => { c with flow := { c.flow with tail := { c.flow.tail with stop := st } } }

/-- SUSP (R32, R148): the record is formed and pushed once the engines are empty. -/
def execSusp (y x : BitVec 1) (t : BitVec 2) (r : BitVec 5) (q : BitVec 6) (s : State) : Out :=
  s.ctlOp 0 y x t [s.waitRegs [aRef r]] [] fun s => s.stopWith (.susp (s.a r) q 0)

/-! ### Weight (R152) -/

/-- PROT or PFAULT for a domain that cannot be named: a system cause at issue (R324). -/
def State.domainCause (s : State) (code reason : Byte) (unit va : Nat) : Cause :=
  s.sysCause 0 code reason (if code = 0x22 ∧ reason = 3 then 0 else BitVec.ofNat 64 unit) (BitVec.ofNat 64 va) 0

/-- An operation that names a domain by aQ: it waits for the table entry, or traps, or goes on with the block (R43,
R157). -/
def State.withDomain (s : State) (x : BitVec 1) (t : BitVec 2) (aq : W64) (peerOk : Bool) (waits : List (Option Nat))
    (go : State → Nat → Nat → Out) : Out :=
  match firstOf (waits ++ [s.txWait x t]) with
  | some src => .next (s.judge (.waits src))
  | none =>
    let qdn := ((s.bind? s.issue.id.pasid).map (·.qdn)).getD 0
    if qdn ≤ aq.toNat then .next (s.issueTrap 4 (s.sysCause 0 0x22 1 aq 0 4))
    else match s.nameDomain (s.issue.asks s.uid) aq.toNat with
      | (s', .wait) => .next (s'.judge (.waits 10))
      | (s', .bad code reason unit va) => .next (s'.issueTrap 4 (s.domainCause code reason unit va))
      | (s', .block key va) =>
        if s.isHost key || (!peerOk && s.isPeer key) then .next (s'.issueTrap 4 (s.sysCause 0 0x22 4 aq 0 4)) else go s' key va

/-- QNEW's effect (R44, R152). -/
def Context.qnew (c : Context) (w aq aw : W64) (key va : Nat) : Context :=
  c.pass { kind := kQnew, target := (low32 aq).toNat }
    (fun c =>
      let c := if c.inDomain then (c.send (.ret c.home? w false c.sys.wic)).account (-w) else c
      let c := (c.send (.qnew (BitVec.ofNat 64 key) aw)).account aw
      { c with run := { c.run with home := some (BitVec.ofNat 64 key) } })
    (fun c =>
      let c := (c.fly 1 0 (.qdi (low32 aq))).fly 1 0 (.myw aw)
      { c with id := { c.id with block := some (BitVec.ofNat 64 key), homeVa := BitVec.ofNat 64 va } })

/-- QNEW (R44, R152): aW outside 1 to 2^62 raises RANGE at the end of the bundle. -/
def execQnew (e y x : BitVec 1) (t : BitVec 2) (q w : BitVec 5) (s : State) : Out :=
  s.withDomain x t (s.a q) true [s.waitRegs [aRef q, aRef w]] fun s key va =>
    s.ctlOp e y x t [] [s.homeCheck true] fun s =>
      if (s.a w).toNat = 0 ∨ 2 ^ 62 < (s.a w).toNat then s.weightRange (s.a w)
      else s.mapLive fun c => c.qnew s.issue.sys.myw (s.a q) (s.a w) key va

/-- QWAIT (R47, R153): it acts after its bundle. -/
def execQwait (y x : BitVec 1) (t : BitVec 2) (q : BitVec 5) (s : State) : Out :=
  s.withDomain x t (s.a q) false [s.waitRegs [aRef q]] fun s key _ =>
    s.ctlOp 0 y x t [] [s.homeCheck true] fun s => s.stopWith (.qwait (BitVec.ofNat 64 key) 0)

/-- QBORROW (R44, R152). -/
def execQborrow (e y x : BitVec 1) (t : BitVec 2) (n : BitVec 16) (s : State) : Out :=
  s.ctlOp e y x t [] [s.homeCheck true] fun s =>
    let m : W64 := if n = 0 then s.issue.sys.qbsz else zext64 n
    let w := s.issue.sys.myw
    if !s.issue.inDomain then s
    else if overflows w m then s.weightRange (w + m)
    else s.mapLive fun c => c.pass { kind := kQborrow, target := c.sys.qdi.toNat }
      (fun c => (c.send (.borrow c.home? m false)).account m) (fun c => c.fly 1 0 (.myw (w + m)))

/-- QSPLIT (R45, R152). -/
def execQsplit (e y x : BitVec 1) (t : BitVec 2) (d : BitVec 5) (s : State) : Out :=
  s.ctlOp e y x t [s.waitRegs [aRef d], s.borrowWait] [s.homeCheck (s.issue.sys.myw = 1)] fun s =>
    let w := s.issue.sys.myw
    if !s.issue.inDomain || w = 0 then s.fly 1 0 (.a d 0)
    else if w = 1 && overflows w s.issue.sys.qbsz then s.weightRange (w + s.issue.sys.qbsz)
    else
      let s := if w = 1 then s.mapLive Context.borrowFirst else s
      let w := if w = 1 then w + s.issue.sys.qbsz else w
      if s.live.id.killed then s else (s.fly 1 0 (.a d (w / 2))).fly 1 0 (.myw (w - w / 2))

/-- QJOIN (R152). -/
def execQjoin (e y x : BitVec 1) (t : BitVec 2) (r : BitVec 5) (s : State) : Out :=
  s.ctlOp e y x t [s.waitRegs [aRef r]] [] fun s =>
    let w := s.issue.sys.myw
    if overflows w (s.a r) then s.weightRange (w + s.a r) else s.fly 1 0 (.myw (w + s.a r))

/-- QRET (R150, R152). -/
def execQret (e y x : BitVec 1) (t : BitVec 2) (s : State) : Out :=
  s.ctlOp e y x t [] [s.homeCheck true] fun s =>
    let w := s.issue.sys.myw
    if !s.issue.inDomain then s
    else s.mapLive fun c => c.pass { kind := kQret, target := c.sys.qdi.toNat }
      (fun c => (c.send (.ret c.home? w false c.sys.wic)).account (-w)) (fun c => c.fly 1 0 (.myw 0))

/-! ### Traps -/

/-- TRAP (R156): TRAPI at the end of the bundle, TINFO the code. -/
def execTrap (e y x : BitVec 1) (t : BitVec 2) (c : BitVec 16) (s : State) : Out :=
  s.ctlOp e y x t [] [] fun s => s.fly 1 0 (.cause 0x13 (zext64 c))

/-- RFT (R155): ILLEGAL outside handler mode or where TPC names another object. -/
def execRft (e y : BitVec 1) (s : State) : Out :=
  let bad := !s.issue.trap.handler || s.issue.sys.tpc.extractLsb' 32 16 ≠ s.issue.id.obj
  s.ctlOp e y 0 0 [] [s.context7 0 bad (encode (.rft e y))] fun s => s.mapLive fun c =>
    { c with flow := { c.flow with tail := { c.flow.tail with rft := true } } }

end Sys2Proof.Machine
end

