-- ==== Sys2Proof/Machine/Power.lean ====
section
/-! DEFINITION. Boot, power and errors of the part (R288 to R290, R342, R346 to R349, R352): boot and function-level reset, boost
permits, ports, the scrubber, and errors that end runs, reset cores or fail the package. -/

namespace Sys2Proof.Machine

/-! ### Boot (R288, R349) -/

/-- The link ports that the configuration image enables, up. -/
def bootPorts (ns : List Nat) : Tbl Port := ns.foldl (fun t n => Tbl.put t n { Port.fresh with up := true }) []

/-- BOOT (R288): storage of the cores is zeroed, the configuration image's tables hold, and the device accepts commands; an image
that fails its check stops the boot. DESIGN CHOICE: the two CXL ports are up then, whatever the image would have enabled, since the host reads in status
bit 31 that the boot has failed (log 207). -/
def execBoot (s : State) : Out :=
  if s.mail.booted ∨ s.mail.bootFailed then .refused .notPending
  else if !Config.imagesValid then .next { s with
    fabric := { s.fabric with ports := bootPorts [cxlPort 0, cxlPort 1] }
    mail := { s.mail with bootFailed := true } }
  else .next { s with
    cores := []
    fabric := { s.fabric with
      secure := Config.secureRegions
      secureCores := Config.secureCores
      sdebug := Config.sdebug
      ports := bootPorts Config.enabledPorts }
    mail := { s.mail with booted := true } }

/-- FUNCTION_LEVEL_RESET (R349): everything but memory and the cycle counter is as after reset, and the boot is still to
come. -/
def execFunctionLevelReset (s : State) : Out :=
  .next { State.reset with mem := s.mem, poison := s.poison, mcc := s.mcc, micros := s.micros, tick := s.tick, script := s.script }

/-! ### Temper (R289, R290) -/

/-- The contexts that the cores of a cluster run. -/
def State.runningIn (s : State) (g : Nat) : List Context :=
  (coresOf g).filterMap fun n => (s.coreOf n).cur.bind s.ctx?

/-- The earliest finite DEADLINE among them: the cluster requests boost when there is one. -/
def State.boostRank (s : State) (g : Nat) : Option Nat :=
  ((s.runningIn g).filter fun c => c.id.deadline ≠ 0xFFFFFFFFFFFFFFFF).foldl (fun m c => match m with
    | none => some c.id.deadline.toNat
    | some d => some (min d c.id.deadline.toNat)) none

/-- One µs of a cluster (R289). -/
def Cluster.temper (k : Cluster) (requests idle : Bool) : Cluster :=
  if k.clock = 2 then
    let pc := if requests then k.pc - 1 else k.pc
    if requests && decide (0 < pc) then { k with pc := pc } else { k with pc := pc, clock := 1, stepLeft := 10 }
  else if k.clock = 1 then { k with stepLeft := k.stepLeft - 1 }
  else if idle then { k with pc := min k.pmax (k.pc + 1) }
  else k

/-- The clusters that are granted boost now: at nominal with 100 permits, by the earliest DEADLINE, the lower number first, at most 32
boosted at once, those in their way back to nominal among them (R290). -/
def State.grants (s : State) : List Nat :=
  let boosted := ((List.range 64).filter fun g => (s.clusterOf g).clock ≠ 0).length
  let asks := (List.range 64).filterMap fun g =>
    let k := s.clusterOf g
    match s.boostRank g with
    | some d => if k.clock = 0 ∧ 100 ≤ k.pc then some (d, g) else none
    | none => none
  let sorted := asks.foldl (fun acc x =>
    let (lo, hi) := acc.span fun y => y.1 ≤ x.1
    lo ++ x :: hi) []
  (sorted.take (32 - boosted)).map (·.2)

/-- Whether a µs has passed that Temper has not acted on. -/
def State.temperDue (s : State) : Bool := decide (1000 * (s.micros + 1) ≤ s.mcc.toNat)

/-- TEMPER_TICK (R289). -/
def execTemperTick (s : State) : Out :=
  if !s.temperDue then .refused .notPending
  else
    let s := (List.range 64).foldl (fun s g =>
      let k := s.clusterOf g
      let k' := k.temper (s.boostRank g).isSome (s.runningIn g).isEmpty
      if k' = k then s else s.mapCluster g fun _ => k') s
    let s := s.grants.foldl (fun s g => s.mapCluster g fun k => { k with clock := 2 }) s
    .next { s with micros := s.micros + 1 }

/-- BOOST_STEP (R289): after 10 µs at 1.1 GHz. -/
def execBoostStep (g : Nat) (s : State) : Out :=
  let k := s.clusterOf g
  if k.clock = 1 ∧ k.stepLeft = 0 then .next (s.mapCluster g fun k => { k with clock := 0 }) else .refused .notPending

/-! ### Links (R347, R348) -/

/-- The number of a port among all. -/
def portNum : LinkPort → Nat
  | .suzamal n => n.toNat
  | .cxl n => cxlPort n.toNat

/-- A LINK entry, ADDR the sequence number of the flit that failed last (R357). -/
def State.logLink (s : State) (p : LinkPort) (detail : Nat) : State :=
  match p with
  | .suzamal n => s.logError (logEntry 4 7 n.toNat s.mcc (Tbl.get Port.fresh s.fabric.ports (portNum p)).seq.toNat 0 detail)
  | .cxl n => s.logError (logEntry 4 6 n.toNat s.mcc (Tbl.get Port.fresh s.fabric.ports (portNum p)).seq.toNat 0 detail)

/-- Changes a port. -/
def State.mapPort (s : State) (p : LinkPort) (f : Port → Port) : State :=
  { s with fabric := { s.fabric with ports := Tbl.update f s.fabric.ports (portNum p) } }

/-- An enabled port. -/
def State.port? (s : State) (p : LinkPort) : Option Port := Tbl.find s.fabric.ports (portNum p)

/-- FLIT_CRC_RETRY (R347): a flit is sent again from the replay buffer, and the retry fails or ends the row of failures; after 16 in a row the
link must retrain. -/
def execFlitCrcRetry (f : FlitRetry) (s : State) : Out :=
  match s.port? f.port with
  | none => .refused .notPending
  | some x =>
    if !x.up ∨ 16 ≤ x.retries then .refused .notPending
    else .next ((s.mapPort f.port fun x =>
      { x with retries := if f.good then 0 else x.retries + 1, seq := f.seq }).logLink f.port 0)

/-- LINK_RETRAIN (R347). -/
def execLinkRetrain (p : LinkPort) (s : State) : Out :=
  match s.port? p with
  | none => .refused .notPending
  | some x =>
    if !x.up ∨ x.retries < 16 then .refused .notPending
    else .next ((s.mapPort p fun x => { x with retries := 0 }).logLink p 1)

/-- PORT_DOWN (R348): when both CXL ports are down a package event is logged, and what waits for the host fails. -/
def execPortDown (p : LinkPort) (s : State) : Out :=
  match s.port? p with
  | none => .refused .notPending
  | some x =>
    if !x.up then .refused .notPending
    else
      let s := (s.mapPort p fun x => { x with up := false }).logLink p 2
      let both : Bool := match p with
        | .cxl _ => s.hostCut
        | .suzamal _ => false
      .next (if both then (s.logError (logEntry 8 6 0 s.mcc 0 0 0)).cutRequests else s)

/-- PORT_UP (R348). -/
def execPortUp (p : LinkPort) (s : State) : Out :=
  match s.port? p with
  | none => .refused .notPending
  | some x =>
    if x.up then .refused .notPending
    else .next ((s.mapPort p fun x => { x with up := true, retries := 0 }).logLink p 3)

/-! ### Errors of the part (R342, R345, R346, R349, R352) -/

/-- PATROL_SCRUB (R342, R345): corrected lines change nothing, uncorrectable ones are poisoned. -/
def execPatrolScrub (line : Nat) (r : ScrubResult) (s : State) : Out :=
  let key := 64 * line
  if deviceSize ≤ key then .fault (.noSuchAddress key)
  else
    match r with
    | .clean => .next s
    | .corrected => .next (s.logAt 1 0 (stackOf key) key 0 0)
    | .uncorrectable => .next ((s.poisonLines key 64).logAt 2 0 (stackOf key) key 0 0)

/-- A line of a weight plane takes the mark. -/
def Plane.spoil (p : Plane) (n : Nat) : Plane := { p with lines := Tbl.set Line.zero p.lines n { p.line n with poison := true } }

/-- An error in the state of a context: in its scratchpad, accumulators, trail or planes (R342). -/
def Context.flawed (c : Context) : Flaw → Context
  | .bank _ w => if 64 * w < c.scrSize then { c with mem := { c.mem with scrPoison := insertNat w c.mem.scrPoison } } else c
  | .accWord _ w => if w < 8 * c.accRows then { c with mem := { c.mem with accPoison := insertNat w c.mem.accPoison } } else c
  | .trailWord _ w =>
    if w < 1024 * trailIngots c.id.part then { c with mem := { c.mem with trailPoison := insertNat w c.mem.trailPoison } } else c
  | .planeLine _ active n =>
    if 128 ≤ n then c
    else if active then { c with anvil := { c.anvil with act := c.anvil.act.spoil n } }
    else { c with anvil := { c.anvil with shadow := c.anvil.shadow.spoil n } }
  | _ => c

/-- Whether a place is one that the L2 slices cache: device DRAM and host memory, and no memory of a peer (R68, R69, R287). -/
def State.cached (s : State) (key : Nat) : Bool := decide (key < deviceSize + 2 ^ 64) && !s.isPeer key

/-- An error that a storage structure of the package meets (R342, R345): what it holds is poisoned, an overlay is dropped, and a
corrected one changes nothing. One that a demand access finds is logged when it is consumed (R344, R357). -/
def State.flaw (s : State) (x : Flaw) : State :=
  let resident (uid : Nat) : State := s.mapCtx uid fun c => if c.residentOn c.id.core then c.flawed x else c
  match x with
  | .bank uid _ => resident uid
  | .accWord uid _ => resident uid
  | .trailWord uid _ => resident uid
  | .planeLine uid _ _ => resident uid
  | .operandRow n l => if n < 1024 ∧ l < 4096 then s.mapCore n fun k => { k with omPoison := insertNat (sideMark l) (insertNat l k.omPoison) } else s
  | .overlay n i => s.mapCore n fun k => { k with overlays := k.overlays.eraseIdx i }
  | .cacheLine g line =>
    if s.cached (64 * line) then (s.poisonLines (64 * line) 64).logAt 2 1 g (64 * line) 0 0 else s
  | .demandLine line => if s.cached (64 * line) then s.poisonLines (64 * line) 64 else s
  | .corrected unit place line =>
    if (unit = 0 ∧ 64 * line < deviceSize) ∨ (unit = 1 ∧ s.cached (64 * line)) then s.logAt 1 unit place (64 * line) 0 0 else s.logError (logEntry 1 unit place s.mcc 0 0 0)

/-- REGISTER_STATE_LOST (R346): the run of one resident context ends and is replayed from its last record. -/
def execRegisterStateLost (uid : Nat) (s : State) : Out :=
  match s.ctx? uid with
  | none => .refused .notPending
  | some c => if c.residentOn c.id.core then .next (s.resetContexts [(uid, c)]) else .refused .notPending

/-- CORE_LOGIC_ERROR (R352). -/
def execCoreLogicError (n : Nat) (s : State) : Out :=
  if 1024 ≤ n then .refused .notPending else .next (s.resetCores [n] 9 n n)

/-- A package failure (R349): every context, record and queue entry is lost. -/
def State.failPackage (s : State) : State :=
  let empty (g : Nat × Cluster) : Nat × Cluster := (g.1, { g.2 with sched := [], value := [] })
  let s := { s with
    ctxs := []
    images := []
    cores := []
    gangs := []
    inputs := []
    clusters := s.clusters.map empty
    mail := { s.mail with failed := true, queue := [], preempt := none, aer := s.mail.aer + 2 } }
  s.logError (logEntry 8 8 0 s.mcc 0 0 0)

/-- FABRIC_ERROR (R349). -/
def execFabricError (place : FabricPlace) (s : State) : Out :=
  match place with
  | .clusterPort g => .next (s.resetCores (coresOf g.toNat) 8 g.toNat (2 ^ 63 + g.toNat))
  | .shared => .next s.failPackage

end Sys2Proof.Machine
end

