-- ==== Sys2Proof/Machine/Boundary.lean ====
section
/-! DEFINITION. The boundary of a bundle (R303, R311, R319, R328): fetch faults, BUDGETOVR, ILLEGAL at decode, the restart of a barrier (R41). -/

namespace Sys2Proof.Machine

/-! ### Fetch faults (R328) -/

/-- A fetch fault (R328). -/
def Context.fetchFault (c : Context) (core : Nat) (mcc : W64) (code reason : Byte) (tinfo va : W64) : Context :=
  c.takeTrap core mcc (c.fetchCause code reason tinfo va) (.at_ c.flow.pc)

/-! ### BUDGETOVR (R319) -/

/-- A slice overrun: the cause, the reload and the overrun mark, in one step. -/
def Context.overrun (c : Context) : Context :=
  let c := c.blame { code := 0x11, reason := 0, slot := 0, off := c.flow.lastOff, tinfo := zext64 c.budget.declared, va := 0, kind := 4 }
  { c with budget := { c.budget with counter := c.budget.declared, spent := false, mark := true } }

/-- Whether the slice of a context has ended with its END or SUSP bundle (R27, R33). -/
def Context.sliceOver (c : Context) : Bool := match c.flow.stop with
  | .ending | .susp _ _ _ => true
  | _ => false

/-- Whether BUDGETOVR is due at a boundary (R319). -/
def Context.overrunDue (c : Context) : Bool := c.id.status = .running && c.budget.spent && !c.swage.busy && !c.sliceOver

/-- BUDGETOVR (R319): once the propagation in course has ended. -/
def execBudgetovr (n : Nat) (s : State) : Out :=
  match (s.coreOf n).cur with
  | none => .refused .notPending
  | some uid => match s.ctx? uid with
    | none => .refused .notPending
    | some c =>
      if !c.overrunDue then .refused .notPending
      else .next (s.mapCtx uid Context.overrun)

/-! ### The restart of a barrier (R41, R332) -/

/-- A member goes on at the restart cycle: one whose SYNC bundle is still to issue passes it then. -/
def Barrier.restart : Barrier → Barrier
  | .issued => .none
  | .released => .late
  | b => b

/-- BARRIER_RESTART (R41). -/
def execBarrierRestart (g : Nat) (s : State) : Out :=
  match Tbl.find s.gangs g with
  | none => .refused .notPending
  | some k => match k.restart with
    | none => .refused .notPending
    | some t =>
      if s.mcc.ult t then .refused .notPending
      else
        let s := k.members.foldl (fun s m => s.mapCtx m fun c => { c with flow := { c.flow with barrier := c.flow.barrier.restart } }) s
        .next { s with gangs := Tbl.put s.gangs g { k with arrived := [], restart := none } }

/-! ### ILLEGAL at decode (R309, R311, R312) -/

/-- UNASSIGNED_ENCODING (R311): the bundle traps in stage 1 and nothing of it performs. -/
def execUnassignedEncoding (slot : BitVec 3) (reason : Byte) (word : W32) (s : State) : Out :=
  .next (s.issueTrap 1 (s.cause slot.toNat 0x10 (BitVec.ofNat 64 (reason.toNat * 2 ^ 56 + word.toNat))))

end Sys2Proof.Machine
end

