-- ==== Sys2Proof/Machine/Int.lean ====
section
/-! DEFINITION. The domain slot, slot 1 (R158 to R178): assign, narrow and post forms, comparisons, queries, division,
checkpoints. Every INT result has latency 1 but those of DIV and REM. -/

namespace Sys2Proof.Machine

/-- The singleton sets that assign forms read from an immediate are its sign-extended value. -/
def immInt (i : BitVec 8) : Int := i.toInt

/-- BOUNDWRITE for an assign write to a bound register (R165, R308). -/
def State.boundWrite (s : State) (slot : Nat) (d : BitVec 6) : Option Cause :=
  s.check slot (s.issue.swage.bound d) 0x07
    (BitVec.ofNat 64 (s.issue.swage.firstNaming d % 65536 * 2 ^ 32) ||| regInfo .k d.toNat)

/-- A set as the assign result of register d: its hull, or FAIL when it is empty (R82, R166). -/
def kResult (d : BitVec 6) (x : Option Dom) : Eff := match x with
  | some x => .k d x
  | none => .kFail d

/-- An assign form with a k destination (R84, R159, R165). DEDUCED: where sources A and B are both empty and both trap bits are set,
EMPTYREAD names A, the first in the order of the fields (R118, log 150). -/
def State.intAssign (s : State) (g : BitVec 4) (d : BitVec 6) (srcs : List (BitVec 6 × BitVec 1)) (x : Option Dom) : Out :=
  s.issueOp (s.guard4 g) (srcs.map fun r => s.emptyRead 1 r.2 (kRef r.1)) [s.waitDest (kRef d), s.waitRegs (srcs.map fun r => kRef r.1)]
    [s.boundWrite 1 d] fun s => s.fly 1 1 (kResult d x)

/-- An assign form with a predicate destination (R162, R163). -/
def State.intPred (s : State) (g : BitVec 4) (d : BitVec 6) (srcs : List (BitVec 6 × BitVec 1)) (x : BitVec 2) : Out :=
  s.issueOp (s.guard4 g) (srcs.map fun r => s.emptyRead 1 r.2 (kRef r.1)) [s.waitRegs (srcs.map fun r => kRef r.1)] []
    fun s => s.fly 1 1 (.p (d.zeroExtend 7) x)

/-- The result of one application of a relation (R85 to R87, R166). -/
def narrowResult (rel : Rel) (g : Regs) : Eff := match rel.apply g.readK with
  | .ok ws => .narrow ws
  | .error r => .narrowFail r

/-- A narrow form: every operand blocks while empty, but for trap bits (R85, R159). `ds` is the destination, if the form
has one. -/
def State.intNarrow (s : State) (g : BitVec 4) (rel : Rel) (ds : List (BitVec 6)) (srcs : List (BitVec 6 × BitVec 1)) : Out :=
  s.issueOp (s.guard4 g) (srcs.map fun r => s.emptyRead 1 r.2 (kRef r.1))
    [s.waitRegs (ds.map kRef ++ srcs.map fun r => kRef r.1)] [] fun s => s.fly 1 1 (narrowResult rel s.rd)

/-- A post form (R168): STOREFULL at a full store. -/
def State.intPost (s : State) (g : BitVec 4) (rel : Rel) (ds : List (BitVec 6)) (srcs : List (BitVec 6 × BitVec 1)) : Out :=
  s.issueOp (s.guard4 g) (srcs.map fun r => s.emptyRead 1 r.2 (kRef r.1))
    [s.waitRegs (ds.map kRef ++ srcs.map fun r => kRef r.1)]
    [s.check 1 (512 ≤ s.issue.swage.store.length) 0x04 (BitVec.ofNat 64 s.issue.swage.store.length)]
    fun s => s.fly 1 1 (.post rel)

/-- The members of a register. -/
def State.set (s : State) (r : BitVec 6) : Runs := domRuns (s.k r)

/-- Division and remainder (R164): NOTSINGLE, then kD empty and the result within 34 bundles. -/
def State.intDivide (s : State) (g : BitVec 4) (d a b : BitVec 6) (f h : BitVec 1) (op : Int → Int → Int) : Out :=
  let single (r : BitVec 6) : Option Cause := s.check 1 (domMember? (s.k r)).isNone 0x08 (regInfo .k r.toNat)
  s.issueOp (s.guard4 g) [s.emptyRead 1 f (kRef a), s.emptyRead 1 h (kRef b)] [s.waitRegs [kRef a, kRef b], s.waitDest (kRef d)]
    [single a, single b, s.boundWrite 1 d] fun s =>
      let x := (domMember? (s.k a)).getD 0
      let y := (domMember? (s.k b)).getD 0
      s.mapLive fun c => { c with
        regs := c.regs.mark (kRef d) true
        mem := { c.mem with
          nextId := c.mem.nextId + 1
          divs := c.mem.divs ++ [{ id := c.mem.nextId, bclk := c.flow.bclk, off := c.flow.pc, d := d,
                                   result := if y = 0 then none else some (BitVec.ofInt 32 (op x y)) }] } }

/-- CKPTDEPTH (R318). -/
def State.ckptCheck (s : State) (bad : Bool) : Option Cause := s.check 1 bad 0x06 (BitVec.ofNat 64 s.issue.swage.ckpts.length)

/-- NOP_INT (R109). -/
def execNopInt (s : State) : Out := s.issueOp true [] [] [] id

/-- ADD (R160): the hull of the wrapped images. -/
def execAdd (g : BitVec 4) (d a b : BitVec 6) (f h : BitVec 1) (s : State) : Out :=
  s.intAssign g d [(a, f), (b, h)] (hull (assignImage .add (s.set a) (s.set b) 0))

/-- ADD_N (R85). -/
def execAddN (g : BitVec 4) (d a b : BitVec 6) (f h : BitVec 1) (s : State) : Out :=
  s.intNarrow g { op := .add, d := d, a := a, b := b, imm := 0 } [d] [(a, f), (b, h)]

/-- ADD_P (R168). -/
def execAddP (g : BitVec 4) (d a b : BitVec 6) (f h : BitVec 1) (s : State) : Out :=
  s.intPost g { op := .add, d := d, a := a, b := b, imm := 0 } [d] [(a, f), (b, h)]

/-- SUB (R160): the hull of the wrapped images. -/
def execSub (g : BitVec 4) (d a b : BitVec 6) (f h : BitVec 1) (s : State) : Out :=
  s.intAssign g d [(a, f), (b, h)] (hull (assignImage .sub (s.set a) (s.set b) 0))

/-- SUB_N (R85). -/
def execSubN (g : BitVec 4) (d a b : BitVec 6) (f h : BitVec 1) (s : State) : Out :=
  s.intNarrow g { op := .sub, d := d, a := a, b := b, imm := 0 } [d] [(a, f), (b, h)]

/-- SUB_P (R168). -/
def execSubP (g : BitVec 4) (d a b : BitVec 6) (f h : BitVec 1) (s : State) : Out :=
  s.intPost g { op := .sub, d := d, a := a, b := b, imm := 0 } [d] [(a, f), (b, h)]

/-- MUL (R160): the hull of the wrapped images. -/
def execMul (g : BitVec 4) (d a b : BitVec 6) (f h : BitVec 1) (s : State) : Out :=
  s.intAssign g d [(a, f), (b, h)] (hull (assignImage .mul (s.set a) (s.set b) 0))

/-- MUL_N (R85). -/
def execMulN (g : BitVec 4) (d a b : BitVec 6) (f h : BitVec 1) (s : State) : Out :=
  s.intNarrow g { op := .mul, d := d, a := a, b := b, imm := 0 } [d] [(a, f), (b, h)]

/-- MUL_P (R168). -/
def execMulP (g : BitVec 4) (d a b : BitVec 6) (f h : BitVec 1) (s : State) : Out :=
  s.intPost g { op := .mul, d := d, a := a, b := b, imm := 0 } [d] [(a, f), (b, h)]

/-- MIN (R160): the hull of the wrapped images. -/
def execMin (g : BitVec 4) (d a b : BitVec 6) (f h : BitVec 1) (s : State) : Out :=
  s.intAssign g d [(a, f), (b, h)] (hull (assignImage .min (s.set a) (s.set b) 0))

/-- MIN_N (R85). -/
def execMinN (g : BitVec 4) (d a b : BitVec 6) (f h : BitVec 1) (s : State) : Out :=
  s.intNarrow g { op := .min, d := d, a := a, b := b, imm := 0 } [d] [(a, f), (b, h)]

/-- MIN_P (R168). -/
def execMinP (g : BitVec 4) (d a b : BitVec 6) (f h : BitVec 1) (s : State) : Out :=
  s.intPost g { op := .min, d := d, a := a, b := b, imm := 0 } [d] [(a, f), (b, h)]

/-- MAX (R160): the hull of the wrapped images. -/
def execMax (g : BitVec 4) (d a b : BitVec 6) (f h : BitVec 1) (s : State) : Out :=
  s.intAssign g d [(a, f), (b, h)] (hull (assignImage .max (s.set a) (s.set b) 0))

/-- MAX_N (R85). -/
def execMaxN (g : BitVec 4) (d a b : BitVec 6) (f h : BitVec 1) (s : State) : Out :=
  s.intNarrow g { op := .max, d := d, a := a, b := b, imm := 0 } [d] [(a, f), (b, h)]

/-- MAX_P (R168). -/
def execMaxP (g : BitVec 4) (d a b : BitVec 6) (f h : BitVec 1) (s : State) : Out :=
  s.intPost g { op := .max, d := d, a := a, b := b, imm := 0 } [d] [(a, f), (b, h)]

/-- ABS (R160). -/
def execAbs (g : BitVec 4) (d a : BitVec 6) (f : BitVec 1) (s : State) : Out :=
  s.intAssign g d [(a, f)] (hull (assignImage .abs (s.set a) [] 0))

/-- ABS_N (R85). -/
def execAbsN (g : BitVec 4) (d a : BitVec 6) (f : BitVec 1) (s : State) : Out :=
  s.intNarrow g { op := .abs, d := d, a := a, b := 0, imm := 0 } [d] [(a, f)]

/-- ABS_P (R168). -/
def execAbsP (g : BitVec 4) (d a : BitVec 6) (f : BitVec 1) (s : State) : Out :=
  s.intPost g { op := .abs, d := d, a := a, b := 0, imm := 0 } [d] [(a, f)]

/-- NEG (R160). -/
def execNeg (g : BitVec 4) (d a : BitVec 6) (f : BitVec 1) (s : State) : Out :=
  s.intAssign g d [(a, f)] (hull (assignImage .neg (s.set a) [] 0))

/-- NEG_N (R85). -/
def execNegN (g : BitVec 4) (d a : BitVec 6) (f : BitVec 1) (s : State) : Out :=
  s.intNarrow g { op := .neg, d := d, a := a, b := 0, imm := 0 } [d] [(a, f)]

/-- NEG_P (R168). -/
def execNegP (g : BitVec 4) (d a : BitVec 6) (f : BitVec 1) (s : State) : Out :=
  s.intPost g { op := .neg, d := d, a := a, b := 0, imm := 0 } [d] [(a, f)]

/-- MOV (R160). -/
def execMov (g : BitVec 4) (d a : BitVec 6) (f : BitVec 1) (s : State) : Out :=
  s.intAssign g d [(a, f)] (hull (assignImage .mov (s.set a) [] 0))

/-- MOV_N (R85). -/
def execMovN (g : BitVec 4) (d a : BitVec 6) (f : BitVec 1) (s : State) : Out :=
  s.intNarrow g { op := .mov, d := d, a := a, b := 0, imm := 0 } [d] [(a, f)]

/-- MOV_P (R168). -/
def execMovP (g : BitVec 4) (d a : BitVec 6) (f : BitVec 1) (s : State) : Out :=
  s.intPost g { op := .mov, d := d, a := a, b := 0, imm := 0 } [d] [(a, f)]

/-- ADDI (R160): the source always blocks (R118). -/
def execAddi (g : BitVec 4) (d a : BitVec 6) (i : BitVec 8) (s : State) : Out :=
  s.intAssign g d [(a, 0)] (hull (assignImage .addi (s.set a) [] (immInt i)))

/-- ADDI_N (R85). -/
def execAddiN (g : BitVec 4) (d a : BitVec 6) (i : BitVec 8) (s : State) : Out :=
  s.intNarrow g { op := .addi, d := d, a := a, b := 0, imm := i } [d] [(a, 0)]

/-- ADDI_P (R168). -/
def execAddiP (g : BitVec 4) (d a : BitVec 6) (i : BitVec 8) (s : State) : Out :=
  s.intPost g { op := .addi, d := d, a := a, b := 0, imm := i } [d] [(a, 0)]

/-- MULI (R160): the source always blocks (R118). -/
def execMuli (g : BitVec 4) (d a : BitVec 6) (i : BitVec 8) (s : State) : Out :=
  s.intAssign g d [(a, 0)] (hull (assignImage .muli (s.set a) [] (immInt i)))

/-- MULI_N (R85). -/
def execMuliN (g : BitVec 4) (d a : BitVec 6) (i : BitVec 8) (s : State) : Out :=
  s.intNarrow g { op := .muli, d := d, a := a, b := 0, imm := i } [d] [(a, 0)]

/-- MULI_P (R168). -/
def execMuliP (g : BitVec 4) (d a : BitVec 6) (i : BitVec 8) (s : State) : Out :=
  s.intPost g { op := .muli, d := d, a := a, b := 0, imm := i } [d] [(a, 0)]

/-- AND (R161). -/
def execAnd (g : BitVec 4) (d a b : BitVec 6) (f h : BitVec 1) (s : State) : Out :=
  s.intAssign g d [(a, f), (b, h)] (hull (bitImage digitAnd (s.set a) (s.set b)))

/-- OR (R161). -/
def execOr (g : BitVec 4) (d a b : BitVec 6) (f h : BitVec 1) (s : State) : Out :=
  s.intAssign g d [(a, f), (b, h)] (hull (bitImage digitOr (s.set a) (s.set b)))

/-- XOR (R161). -/
def execXor (g : BitVec 4) (d a b : BitVec 6) (f h : BitVec 1) (s : State) : Out :=
  s.intAssign g d [(a, f), (b, h)] (hull (bitImage digitXor (s.set a) (s.set b)))

/-- SHL (R161). -/
def execShl (g : BitVec 4) (d a b : BitVec 6) (f h : BitVec 1) (s : State) : Out :=
  s.intAssign g d [(a, f), (b, h)] (hull (shlImage (s.set a) (s.set b)))

/-- SHR (R161). -/
def execShr (g : BitVec 4) (d a b : BitVec 6) (f h : BitVec 1) (s : State) : Out :=
  s.intAssign g d [(a, f), (b, h)] (hull (shrImage (s.set a) (s.set b)))

/-- SAR (R161). -/
def execSar (g : BitVec 4) (d a b : BitVec 6) (f h : BitVec 1) (s : State) : Out :=
  s.intAssign g d [(a, f), (b, h)] (hull (sarImage (s.set a) (s.set b)))

/-- EQ (R162): T, F or U over all member pairs. -/
def execEq (g : BitVec 4) (d a b : BitVec 6) (f h : BitVec 1) (s : State) : Out :=
  s.intPred g d [(a, f), (b, h)] (compareSets .eq (s.set a) (s.set b))

/-- EQ_N (R162). -/
def execEqN (g : BitVec 4) (a b : BitVec 6) (f h : BitVec 1) (s : State) : Out :=
  s.intNarrow g { op := .eq, d := 0, a := a, b := b, imm := 0 } [] [(a, f), (b, h)]

/-- EQ_P (R168). -/
def execEqP (g : BitVec 4) (a b : BitVec 6) (f h : BitVec 1) (s : State) : Out :=
  s.intPost g { op := .eq, d := 0, a := a, b := b, imm := 0 } [] [(a, f), (b, h)]

/-- NE (R162): T, F or U over all member pairs. -/
def execNe (g : BitVec 4) (d a b : BitVec 6) (f h : BitVec 1) (s : State) : Out :=
  s.intPred g d [(a, f), (b, h)] (compareSets .ne (s.set a) (s.set b))

/-- NE_N (R162). -/
def execNeN (g : BitVec 4) (a b : BitVec 6) (f h : BitVec 1) (s : State) : Out :=
  s.intNarrow g { op := .ne, d := 0, a := a, b := b, imm := 0 } [] [(a, f), (b, h)]

/-- NE_P (R168). -/
def execNeP (g : BitVec 4) (a b : BitVec 6) (f h : BitVec 1) (s : State) : Out :=
  s.intPost g { op := .ne, d := 0, a := a, b := b, imm := 0 } [] [(a, f), (b, h)]

/-- LT (R162): T, F or U over all member pairs. -/
def execLt (g : BitVec 4) (d a b : BitVec 6) (f h : BitVec 1) (s : State) : Out :=
  s.intPred g d [(a, f), (b, h)] (compareSets .lt (s.set a) (s.set b))

/-- LT_N (R162). -/
def execLtN (g : BitVec 4) (a b : BitVec 6) (f h : BitVec 1) (s : State) : Out :=
  s.intNarrow g { op := .lt, d := 0, a := a, b := b, imm := 0 } [] [(a, f), (b, h)]

/-- LT_P (R168). -/
def execLtP (g : BitVec 4) (a b : BitVec 6) (f h : BitVec 1) (s : State) : Out :=
  s.intPost g { op := .lt, d := 0, a := a, b := b, imm := 0 } [] [(a, f), (b, h)]

/-- LE (R162): T, F or U over all member pairs. -/
def execLe (g : BitVec 4) (d a b : BitVec 6) (f h : BitVec 1) (s : State) : Out :=
  s.intPred g d [(a, f), (b, h)] (compareSets .le (s.set a) (s.set b))

/-- LE_N (R162). -/
def execLeN (g : BitVec 4) (a b : BitVec 6) (f h : BitVec 1) (s : State) : Out :=
  s.intNarrow g { op := .le, d := 0, a := a, b := b, imm := 0 } [] [(a, f), (b, h)]

/-- LE_P (R168). -/
def execLeP (g : BitVec 4) (a b : BitVec 6) (f h : BitVec 1) (s : State) : Out :=
  s.intPost g { op := .le, d := 0, a := a, b := b, imm := 0 } [] [(a, f), (b, h)]

/-- EQI (R162). -/
def execEqi (g : BitVec 4) (d a : BitVec 6) (i : BitVec 8) (s : State) : Out :=
  s.intPred g d [(a, 0)] (compareSets .eqi (s.set a) [(immInt i, immInt i)])

/-- EQI_N (R162). -/
def execEqiN (g : BitVec 4) (a : BitVec 6) (i : BitVec 8) (s : State) : Out :=
  s.intNarrow g { op := .eqi, d := 0, a := a, b := 0, imm := i } [] [(a, 0)]

/-- EQI_P (R168). -/
def execEqiP (g : BitVec 4) (a : BitVec 6) (i : BitVec 8) (s : State) : Out :=
  s.intPost g { op := .eqi, d := 0, a := a, b := 0, imm := i } [] [(a, 0)]

/-- NEI (R162). -/
def execNei (g : BitVec 4) (d a : BitVec 6) (i : BitVec 8) (s : State) : Out :=
  s.intPred g d [(a, 0)] (compareSets .nei (s.set a) [(immInt i, immInt i)])

/-- NEI_N (R162). -/
def execNeiN (g : BitVec 4) (a : BitVec 6) (i : BitVec 8) (s : State) : Out :=
  s.intNarrow g { op := .nei, d := 0, a := a, b := 0, imm := i } [] [(a, 0)]

/-- NEI_P (R168). -/
def execNeiP (g : BitVec 4) (a : BitVec 6) (i : BitVec 8) (s : State) : Out :=
  s.intPost g { op := .nei, d := 0, a := a, b := 0, imm := i } [] [(a, 0)]

/-- LTI (R162). -/
def execLti (g : BitVec 4) (d a : BitVec 6) (i : BitVec 8) (s : State) : Out :=
  s.intPred g d [(a, 0)] (compareSets .lti (s.set a) [(immInt i, immInt i)])

/-- LTI_N (R162). -/
def execLtiN (g : BitVec 4) (a : BitVec 6) (i : BitVec 8) (s : State) : Out :=
  s.intNarrow g { op := .lti, d := 0, a := a, b := 0, imm := i } [] [(a, 0)]

/-- LTI_P (R168). -/
def execLtiP (g : BitVec 4) (a : BitVec 6) (i : BitVec 8) (s : State) : Out :=
  s.intPost g { op := .lti, d := 0, a := a, b := 0, imm := i } [] [(a, 0)]

/-- LEI (R162). -/
def execLei (g : BitVec 4) (d a : BitVec 6) (i : BitVec 8) (s : State) : Out :=
  s.intPred g d [(a, 0)] (compareSets .lei (s.set a) [(immInt i, immInt i)])

/-- LEI_N (R162). -/
def execLeiN (g : BitVec 4) (a : BitVec 6) (i : BitVec 8) (s : State) : Out :=
  s.intNarrow g { op := .lei, d := 0, a := a, b := 0, imm := i } [] [(a, 0)]

/-- LEI_P (R168). -/
def execLeiP (g : BitVec 4) (a : BitVec 6) (i : BitVec 8) (s : State) : Out :=
  s.intPost g { op := .lei, d := 0, a := a, b := 0, imm := i } [] [(a, 0)]

/-- GTI (R162). -/
def execGti (g : BitVec 4) (d a : BitVec 6) (i : BitVec 8) (s : State) : Out :=
  s.intPred g d [(a, 0)] (compareSets .gti (s.set a) [(immInt i, immInt i)])

/-- GTI_N (R162). -/
def execGtiN (g : BitVec 4) (a : BitVec 6) (i : BitVec 8) (s : State) : Out :=
  s.intNarrow g { op := .gti, d := 0, a := a, b := 0, imm := i } [] [(a, 0)]

/-- GTI_P (R168). -/
def execGtiP (g : BitVec 4) (a : BitVec 6) (i : BitVec 8) (s : State) : Out :=
  s.intPost g { op := .gti, d := 0, a := a, b := 0, imm := i } [] [(a, 0)]

/-- GEI (R162). -/
def execGei (g : BitVec 4) (d a : BitVec 6) (i : BitVec 8) (s : State) : Out :=
  s.intPred g d [(a, 0)] (compareSets .gei (s.set a) [(immInt i, immInt i)])

/-- GEI_N (R162). -/
def execGeiN (g : BitVec 4) (a : BitVec 6) (i : BitVec 8) (s : State) : Out :=
  s.intNarrow g { op := .gei, d := 0, a := a, b := 0, imm := i } [] [(a, 0)]

/-- GEI_P (R168). -/
def execGeiP (g : BitVec 4) (a : BitVec 6) (i : BitVec 8) (s : State) : Out :=
  s.intPost g { op := .gei, d := 0, a := a, b := 0, imm := i } [] [(a, 0)]

/-- DLO (R163). -/
def execDlo (g : BitVec 4) (d a : BitVec 6) (f : BitVec 1) (s : State) : Out :=
  s.intAssign g d [(a, f)] (some (domSingle (domLo (s.k a))))

/-- DHI (R163). -/
def execDhi (g : BitVec 4) (d a : BitVec 6) (f : BitVec 1) (s : State) : Out :=
  s.intAssign g d [(a, f)] (some (domSingle (domHi (s.k a))))

/-- DSIZE (R163). -/
def execDsize (g : BitVec 4) (d a : BitVec 6) (f : BitVec 1) (s : State) : Out :=
  s.intAssign g d [(a, f)] (some (domSingle (min ((s.set a).card : Int) (2 ^ 31 - 1))))

/-- DMID (R163). -/
def execDmid (g : BitVec 4) (d a : BitVec 6) (f : BitVec 1) (s : State) : Out :=
  s.intAssign g d [(a, f)] (some (domSingle ((domLo (s.k a) + domHi (s.k a)) / 2)))

/-- DSET (R163): the range LO(a) to HI(b), or FAIL. -/
def execDset (g : BitVec 4) (d a b : BitVec 6) (f h : BitVec 1) (s : State) : Out :=
  s.intAssign g d [(a, f), (b, h)] (hullRuns (Runs.of [(domLo (s.k a), domHi (s.k b))]))

/-- DFULL (R163). -/
def execDfull (g : BitVec 4) (d : BitVec 6) (s : State) : Out := s.intAssign g d [] (some domTop)

/-- SINGLE (R163). -/
def execSingle (g : BitVec 4) (d a : BitVec 6) (f : BitVec 1) (s : State) : Out :=
  s.intPred g d [(a, f)] (pOf (domMember? (s.k a)).isSome)

/-- DIV (R164): truncates toward zero and wraps. -/
def execDiv (g : BitVec 4) (d a b : BitVec 6) (f h : BitVec 1) (s : State) : Out := s.intDivide g d a b f h Int.tdiv

/-- REM (R164): x − y q. -/
def execRem (g : BitVec 4) (d a b : BitVec 6) (f h : BitVec 1) (s : State) : Out := s.intDivide g d a b f h Int.tmod

/-- CKPT (R174): CKPTDEPTH at 128. -/
def execCkpt (g : BitVec 4) (s : State) : Out :=
  s.issueOp (s.guard4 g) [] [] [s.ckptCheck (128 ≤ s.issue.swage.ckpts.length)] fun s => s.fly 1 1 .ckpt

/-- ROLL (R176): CKPTDEPTH at 0. -/
def execRoll (g : BitVec 4) (s : State) : Out :=
  s.issueOp (s.guard4 g) [] [] [s.ckptCheck s.issue.swage.ckpts.isEmpty] fun s => s.fly 1 1 .roll

/-- COMMIT (R177): CKPTDEPTH at 0. -/
def execCommit (g : BitVec 4) (s : State) : Out :=
  s.issueOp (s.guard4 g) [] [] [s.ckptCheck s.issue.swage.ckpts.isEmpty] fun s => s.fly 1 1 .commit

end Sys2Proof.Machine
end

