-- ==== Sys2Proof/Machine/Ivl.lean ====
section
/-! DEFINITION. The interval slot, slot 4 (R205 to R215): forward arithmetic, set operations, construction, comparisons,
contractors, QSTAT. Every source and destination blocks while empty; lane i answers to mask bit i (R113). -/

namespace Sys2Proof.Machine

/-- The lanes of the interval unit that execute (R113, R115). -/
def State.lanes32 (s : State) (g : BitVec 5) : W32 := low32 (s.guard5 g)

/-- Lane i of a q register. -/
def State.lane (s : State) (r : BitVec 5) (i : Nat) : Lane := readLane (laneQ (s.q r) i)

/-- An IVL operation: it waits on every register it names (R205). -/
def State.ivlOp (s : State) (runs : Bool) (rs : List RegRef) (act : State → State) : Out :=
  s.issueOp runs [] [s.waitRegs rs] [] act

/-- A lane-wise operation with one q destination. -/
def State.ivlLanes (s : State) (g : BitVec 5) (lat : Nat) (d : BitVec 5) (srcs : List RegRef) (f : Nat → Lane) : Out :=
  s.ivlOp (s.runs32 g) (qRef d :: srcs) fun s => s.fly lat 4 (.q d (s.lanes32 g) (mkQ fun i => (f i).bits))

/-- A forward or set operation of one operand (R206, R207). -/
def State.ivl1 (s : State) (g : BitVec 5) (lat : Nat) (d a : BitVec 5) (op : QOp) : Out :=
  s.ivlLanes g lat d [qRef a] fun i => op.apply (s.lane a i) .empty .empty

/-- A forward or set operation of two operands. -/
def State.ivl2 (s : State) (g : BitVec 5) (lat : Nat) (d a b : BitVec 5) (op : QOp) : Out :=
  s.ivlLanes g lat d [qRef a, qRef b] fun i => op.apply (s.lane a i) (s.lane b i) .empty

/-- The lane that QMAKE and QPOINT make: a NaN bound gives NaI (R208). -/
def makeLane (lo hi : W32) : Lane := if isNaN lo || isNaN hi then .nai else laneOf lo hi

/-- A word that is a bound of a q register's lane into half h of a v register (R208). -/
def State.ivlHalf (s : State) (g d a : BitVec 5) (h : BitVec 1) (pos : Nat) : Out :=
  s.ivlOp (s.runs32 g) [vRef (d.zeroExtend 6), qRef a] fun s =>
    s.fly 2 4 (.v (d.zeroExtend 6) (zext64 (s.lanes32 g) <<< (32 * h.toNat))
      (mkV fun i => (laneQ (s.q a) (i % 32)).extractLsb' pos 32))

/-- QTEST's verdict over the participating lanes (R210). -/
def State.ivlVerdict (s : State) (g a b : BitVec 5) (c : Nat) : BitVec 2 :=
  let out (i : Nat) : Bool := !bitOf (s.lanes32 g) i
  if allBelow (fun i => out i || qVerdict c (s.lane a i) (s.lane b i) = predT) 32 then predT
  else if allBelow (fun i => out i || qVerdict c (s.lane a i) (s.lane b i) = predF) 32 then predF
  else predU

/-- The operands of a contractor that it names, in the order D, A, B, C, with the projections it makes for them in a lane
(R211). -/
def COp.named (op : COp) (d a b c : BitVec 5) (x : Lane × Lane × Lane × Lane) : List (BitVec 5 × Lane) :=
  let n := op.names
  (if n.1 then [(d, x.1)] else []) ++ (if n.2.1 then [(a, x.2.1)] else []) ++ (if n.2.2.1 then [(b, x.2.2.1)] else []) ++
    (if n.2.2.2 then [(c, x.2.2.2)] else [])

/-- The meet of the projections of one register (R212). -/
def meetOf (r : BitVec 5) (ps : List (BitVec 5 × Lane)) : Lane :=
  match ps.filter fun p => p.1 = r with
  | [] => .nai
  | p :: t => t.foldl (fun x y => x.meet y.2) p.2

/-- The new bits of register r in lane i: the old bits where an operand is NaI (R211). DESIGN CHOICE: such a lane is written, at the write point, with the
bits that it had at issue (log 201). -/
def State.contracted (s : State) (op : COp) (d a b c : BitVec 5) (r : BitVec 5) (i : Nat) : W64 :=
  let olds := op.named d a b c (s.lane d i, s.lane a i, s.lane b i, s.lane c i)
  if olds.any fun p => p.2 = .nai then laneQ (s.q r) i
  else (meetOf r (op.named d a b c (op.apply (s.lane d i) (s.lane a i) (s.lane b i) (s.lane c i)))).bits

/-- The registers that a contractor names, each once. -/
def COp.regs (op : COp) (d a b c : BitVec 5) : List (BitVec 5) := ((op.named d a b c (.nai, .nai, .nai, .nai)).map (·.1)).eraseDups

/-- What a contractor puts in flight (R211 to R213): new bits of every register it names, the executing lanes, those in which any
bits change, those that it empties, its first operand. -/
def State.contraction (s : State) (g : BitVec 5) (op : COp) (d a b c : BitVec 5) : Eff :=
  let regs := op.regs d a b c
  let new (r : BitVec 5) (i : Nat) : W64 := s.contracted op d a b c r i
  let on (i : Nat) : Bool := bitOf (s.lanes32 g) i
  let prog := mkMask 32 fun i => on i && regs.any fun r => new r i != laneQ (s.q r) i
  let emptied := mkMask 32 fun i => on i && (regs.all fun r => readLane (new r i) = .empty) && regs.any fun r => s.lane r i ≠ .empty
  .contract (regs.map fun r => (r, mkQ (new r))) (s.lanes32 g) prog emptied
    (((op.named d a b c (.nai, .nai, .nai, .nai)).map (·.1)).headD 0)

/-- A contractor (R211 to R213). -/
def State.contractor (s : State) (g : BitVec 5) (lat : Nat) (op : COp) (d a b c : BitVec 5) : Out :=
  s.ivlOp (s.runs32 g) ((op.regs d a b c).map qRef) fun s => s.fly lat 4 (s.contraction g op d a b c)

/-- The flag mask that QSTAT reads (R214). -/
def State.flagMask (s : State) (c : BitVec 1) : W32 := if c = 0 then s.issue.sys.qprog else s.issue.sys.qempty

/-- NOP_IVL (R109). -/
def execNopIvl (s : State) : Out := s.issueOp true [] [] [] id

/-- QADD (R206). -/
def execQadd (g d a b : BitVec 5) (s : State) : Out :=
  s.ivl2 g 5 d a b .add

/-- QSUB (R206). -/
def execQsub (g d a b : BitVec 5) (s : State) : Out :=
  s.ivl2 g 5 d a b .sub

/-- QMUL (R206). -/
def execQmul (g d a b : BitVec 5) (s : State) : Out :=
  s.ivl2 g 5 d a b .mul

/-- QFMA (R206): c + a × b. -/
def execQfma (g d a b c : BitVec 5) (s : State) : Out :=
  s.ivlLanes g 5 d [qRef a, qRef b, qRef c] fun i => QOp.fma.apply (s.lane a i) (s.lane b i) (s.lane c i)

/-- QDIV (R206). -/
def execQdiv (g d a b : BitVec 5) (s : State) : Out :=
  s.ivl2 g 9 d a b .div

/-- QSQR (R206). -/
def execQsqr (g d a : BitVec 5) (s : State) : Out :=
  s.ivl1 g 5 d a .sqr

/-- QSQRT (R206). -/
def execQsqrt (g d a : BitVec 5) (s : State) : Out :=
  s.ivl1 g 9 d a .sqrt

/-- QRELU (R206). -/
def execQrelu (g d a : BitVec 5) (s : State) : Out :=
  s.ivl1 g 5 d a .relu

/-- QMAX (R206). -/
def execQmax (g d a b : BitVec 5) (s : State) : Out :=
  s.ivl2 g 5 d a b .max

/-- QMIN (R206). -/
def execQmin (g d a b : BitVec 5) (s : State) : Out :=
  s.ivl2 g 5 d a b .min

/-- QNEG (R206). -/
def execQneg (g d a : BitVec 5) (s : State) : Out :=
  s.ivl1 g 5 d a .neg

/-- QABS (R206). -/
def execQabs (g d a : BitVec 5) (s : State) : Out :=
  s.ivl1 g 5 d a .abs

/-- QEXP (R206). -/
def execQexp (g d a : BitVec 5) (s : State) : Out :=
  s.ivl1 g 9 d a .exp

/-- QMEET (R207). -/
def execQmeet (g d a b : BitVec 5) (s : State) : Out :=
  s.ivl2 g 5 d a b .meet

/-- QHULL (R207). -/
def execQhull (g d a b : BitVec 5) (s : State) : Out :=
  s.ivl2 g 5 d a b .hull

/-- QMID (R207). -/
def execQmid (g d a : BitVec 5) (s : State) : Out :=
  s.ivl1 g 5 d a .mid

/-- QWID (R207). -/
def execQwid (g d a : BitVec 5) (s : State) : Out :=
  s.ivl1 g 5 d a .wid

/-- QBIS (R207): the lower half to D, the upper half to A; with D = A the lower half alone. -/
def execQbis (g d a : BitVec 5) (s : State) : Out :=
  s.ivlOp (s.runs32 g) [qRef d, qRef a] fun s =>
    let s' := s.fly 5 4 (.q d (s.lanes32 g) (mkQ fun i => (bisect (s.lane a i)).1.bits))
    if d = a then s' else s'.fly 5 4 (.q a (s.lanes32 g) (mkQ fun i => (bisect (s.lane a i)).2.bits))

/-- QMAKE (R208). -/
def execQmake (g d a b : BitVec 5) (h : BitVec 1) (s : State) : Out :=
  s.ivlLanes g 2 d [vRef (a.zeroExtend 6), vRef (b.zeroExtend 6)] fun i =>
    makeLane (laneV (s.v (a.zeroExtend 6)) (32 * h.toNat + i)) (laneV (s.v (b.zeroExtend 6)) (32 * h.toNat + i))

/-- QPOINT (R208). -/
def execQpoint (g d a : BitVec 5) (h : BitVec 1) (s : State) : Out :=
  s.ivlLanes g 2 d [vRef (a.zeroExtend 6)] fun i =>
    makeLane (laneV (s.v (a.zeroExtend 6)) (32 * h.toNat + i)) (laneV (s.v (a.zeroExtend 6)) (32 * h.toNat + i))

/-- QLO (R208). -/
def execQlo (g d a : BitVec 5) (h : BitVec 1) (s : State) : Out := s.ivlHalf g d a h 0

/-- QHI (R208). -/
def execQhi (g d a : BitVec 5) (h : BitVec 1) (s : State) : Out := s.ivlHalf g d a h 32

/-- QENT (R208). -/
def execQent (g d : BitVec 5) (s : State) : Out := s.ivlLanes g 2 d [] fun _ => .iv infN infP

/-- QEMP (R208). -/
def execQemp (g d : BitVec 5) (s : State) : Out := s.ivlLanes g 2 d [] fun _ => .empty

/-- QBCA (R208). -/
def execQbca (g d a : BitVec 5) (s : State) : Out := s.ivlLanes g 2 d [aRef a] fun _ => readLane (s.a a)

/-- QCMP (R209): the certain mask and the possible mask; bits 63 to 32 of both are written 0. -/
def execQcmp (g : BitVec 5) (d : BitVec 3) (a b c : BitVec 5) (s : State) : Out :=
  s.ivlOp (s.runs32 g) [qRef a, qRef b] fun s =>
    let verdict (i : Nat) := qVerdict c.toNat (s.lane a i) (s.lane b i)
    let lanes : W64 := 0xFFFFFFFF00000000 ||| zext64 (s.lanes32 g)
    let certain := mkMask 64 fun i => i < 32 && verdict i = predT
    let possible := mkMask 64 fun i => i < 32 && verdict i ≠ predF
    (s.fly 3 4 (.m (d ++ (0 : BitVec 1)) lanes certain)).fly 3 4 (.m (d ++ (1 : BitVec 1)) lanes possible)

/-- QTEST (R210). -/
def execQtest (g d a b c : BitVec 5) (s : State) : Out :=
  s.ivlOp (s.runsAny g) [qRef a, qRef b] fun s => s.fly 3 4 (.p (d.zeroExtend 7) (s.ivlVerdict g a b c.toNat))

/-- QADD.C (R211). -/
def execQaddC (g d a b : BitVec 5) (s : State) : Out :=
  s.contractor g 7 .add d a b 0

/-- QSUB.C (R211). -/
def execQsubC (g d a b : BitVec 5) (s : State) : Out :=
  s.contractor g 7 .sub d a b 0

/-- QMUL.C (R211). -/
def execQmulC (g d a b : BitVec 5) (s : State) : Out :=
  s.contractor g 7 .mul d a b 0

/-- QFMA.C (R211). -/
def execQfmaC (g d a b c : BitVec 5) (s : State) : Out :=
  s.contractor g 7 .fma d a b c

/-- QSQR.C (R211). -/
def execQsqrC (g d a : BitVec 5) (s : State) : Out :=
  s.contractor g 7 .sqr d a 0 0

/-- QRELU.C (R211). -/
def execQreluC (g d a : BitVec 5) (s : State) : Out :=
  s.contractor g 7 .relu d a 0 0

/-- QMAX.C (R211). -/
def execQmaxC (g d a b : BitVec 5) (s : State) : Out :=
  s.contractor g 7 .max d a b 0

/-- QEXP.C (R211). -/
def execQexpC (g d a : BitVec 5) (s : State) : Out :=
  s.contractor g 9 .exp d a 0 0

/-- QLE.C (R211). -/
def execQleC (g a b : BitVec 5) (s : State) : Out :=
  s.contractor g 7 .le 0 a b 0

/-- QSTAT (R214): T when a participating lane's bit is 1; the bits read as 1 are cleared at the end of the bundle. -/
def execQstat (g d : BitVec 5) (c : BitVec 1) (s : State) : Out :=
  s.ivlOp (s.runsAny g) [] fun s =>
    let bits := s.flagMask c &&& s.lanes32 g
    (s.fly 3 4 (.p (d.zeroExtend 7) (pOf (bits ≠ 0)))).fly 1 4 (.qclear (c = 0) bits)

end Sys2Proof.Machine
end

