-- ==== Sys2Proof/Machine/Dispatch.lean ====
section
/-! DEFINITION. The meaning of every instruction: one arm per row of the opcode table. -/

namespace Sys2Proof.Machine

def exec (i : Instr) (s : State) : Host.Outcome State Fault Refusal :=
  match i with
  | .nopCtl x0 x1 x2 x3 => Sys2Proof.Machine.execNopCtl x0 x1 x2 x3 s
  | .prep x0 x1 x2 x3 x4 x5 => Sys2Proof.Machine.execPrep x0 x1 x2 x3 x4 x5 s
  | .prepc x0 x1 x2 x3 x4 x5 => Sys2Proof.Machine.execPrepc x0 x1 x2 x3 x4 x5 s
  | .prepr x0 x1 x2 x3 x4 => Sys2Proof.Machine.execPrepr x0 x1 x2 x3 x4 s
  | .prepi x0 x1 x2 x3 x4 x5 x6 => Sys2Proof.Machine.execPrepi x0 x1 x2 x3 x4 x5 x6 s
  | .loop x0 x1 x2 x3 x4 x5 x6 => Sys2Proof.Machine.execLoop x0 x1 x2 x3 x4 x5 x6 s
  | .loopi x0 x1 x2 x3 x4 x5 x6 => Sys2Proof.Machine.execLoopi x0 x1 x2 x3 x4 x5 x6 s
  | .budget x0 x1 x2 x3 x4 => Sys2Proof.Machine.execBudget x0 x1 x2 x3 x4 s
  | .mark x0 x1 x2 x3 x4 => Sys2Proof.Machine.execMark x0 x1 x2 x3 x4 s
  | .sync x0 x1 x2 x3 x4 => Sys2Proof.Machine.execSync x0 x1 x2 x3 x4 s
  | .spawn x0 x1 x2 x3 x4 x5 x6 => Sys2Proof.Machine.execSpawn x0 x1 x2 x3 x4 x5 x6 s
  | .susp x0 x1 x2 x3 x4 => Sys2Proof.Machine.execSusp x0 x1 x2 x3 x4 s
  | .qnew x0 x1 x2 x3 x4 x5 => Sys2Proof.Machine.execQnew x0 x1 x2 x3 x4 x5 s
  | .qwait x0 x1 x2 x3 => Sys2Proof.Machine.execQwait x0 x1 x2 x3 s
  | .qborrow x0 x1 x2 x3 x4 => Sys2Proof.Machine.execQborrow x0 x1 x2 x3 x4 s
  | .qsplit x0 x1 x2 x3 x4 => Sys2Proof.Machine.execQsplit x0 x1 x2 x3 x4 s
  | .qjoin x0 x1 x2 x3 x4 => Sys2Proof.Machine.execQjoin x0 x1 x2 x3 x4 s
  | .qret x0 x1 x2 x3 => Sys2Proof.Machine.execQret x0 x1 x2 x3 s
  | .waitte x0 x1 x2 x3 x4 x5 => Sys2Proof.Machine.execWaitte x0 x1 x2 x3 x4 x5 s
  | .drainw x0 x1 x2 x3 => Sys2Proof.Machine.execDrainw x0 x1 x2 x3 s
  | .trap x0 x1 x2 x3 x4 => Sys2Proof.Machine.execTrap x0 x1 x2 x3 x4 s
  | .rft x0 x1 => Sys2Proof.Machine.execRft x0 x1 s
  | .nopInt => Sys2Proof.Machine.execNopInt s
  | .add x0 x1 x2 x3 x4 x5 => Sys2Proof.Machine.execAdd x0 x1 x2 x3 x4 x5 s
  | .addN x0 x1 x2 x3 x4 x5 => Sys2Proof.Machine.execAddN x0 x1 x2 x3 x4 x5 s
  | .addP x0 x1 x2 x3 x4 x5 => Sys2Proof.Machine.execAddP x0 x1 x2 x3 x4 x5 s
  | .sub x0 x1 x2 x3 x4 x5 => Sys2Proof.Machine.execSub x0 x1 x2 x3 x4 x5 s
  | .subN x0 x1 x2 x3 x4 x5 => Sys2Proof.Machine.execSubN x0 x1 x2 x3 x4 x5 s
  | .subP x0 x1 x2 x3 x4 x5 => Sys2Proof.Machine.execSubP x0 x1 x2 x3 x4 x5 s
  | .mul x0 x1 x2 x3 x4 x5 => Sys2Proof.Machine.execMul x0 x1 x2 x3 x4 x5 s
  | .mulN x0 x1 x2 x3 x4 x5 => Sys2Proof.Machine.execMulN x0 x1 x2 x3 x4 x5 s
  | .mulP x0 x1 x2 x3 x4 x5 => Sys2Proof.Machine.execMulP x0 x1 x2 x3 x4 x5 s
  | .min x0 x1 x2 x3 x4 x5 => Sys2Proof.Machine.execMin x0 x1 x2 x3 x4 x5 s
  | .minN x0 x1 x2 x3 x4 x5 => Sys2Proof.Machine.execMinN x0 x1 x2 x3 x4 x5 s
  | .minP x0 x1 x2 x3 x4 x5 => Sys2Proof.Machine.execMinP x0 x1 x2 x3 x4 x5 s
  | .max x0 x1 x2 x3 x4 x5 => Sys2Proof.Machine.execMax x0 x1 x2 x3 x4 x5 s
  | .maxN x0 x1 x2 x3 x4 x5 => Sys2Proof.Machine.execMaxN x0 x1 x2 x3 x4 x5 s
  | .maxP x0 x1 x2 x3 x4 x5 => Sys2Proof.Machine.execMaxP x0 x1 x2 x3 x4 x5 s
  | .abs x0 x1 x2 x3 => Sys2Proof.Machine.execAbs x0 x1 x2 x3 s
  | .absN x0 x1 x2 x3 => Sys2Proof.Machine.execAbsN x0 x1 x2 x3 s
  | .absP x0 x1 x2 x3 => Sys2Proof.Machine.execAbsP x0 x1 x2 x3 s
  | .neg x0 x1 x2 x3 => Sys2Proof.Machine.execNeg x0 x1 x2 x3 s
  | .negN x0 x1 x2 x3 => Sys2Proof.Machine.execNegN x0 x1 x2 x3 s
  | .negP x0 x1 x2 x3 => Sys2Proof.Machine.execNegP x0 x1 x2 x3 s
  | .mov x0 x1 x2 x3 => Sys2Proof.Machine.execMov x0 x1 x2 x3 s
  | .movN x0 x1 x2 x3 => Sys2Proof.Machine.execMovN x0 x1 x2 x3 s
  | .movP x0 x1 x2 x3 => Sys2Proof.Machine.execMovP x0 x1 x2 x3 s
  | .addi x0 x1 x2 x3 => Sys2Proof.Machine.execAddi x0 x1 x2 x3 s
  | .addiN x0 x1 x2 x3 => Sys2Proof.Machine.execAddiN x0 x1 x2 x3 s
  | .addiP x0 x1 x2 x3 => Sys2Proof.Machine.execAddiP x0 x1 x2 x3 s
  | .muli x0 x1 x2 x3 => Sys2Proof.Machine.execMuli x0 x1 x2 x3 s
  | .muliN x0 x1 x2 x3 => Sys2Proof.Machine.execMuliN x0 x1 x2 x3 s
  | .muliP x0 x1 x2 x3 => Sys2Proof.Machine.execMuliP x0 x1 x2 x3 s
  | .and x0 x1 x2 x3 x4 x5 => Sys2Proof.Machine.execAnd x0 x1 x2 x3 x4 x5 s
  | .or x0 x1 x2 x3 x4 x5 => Sys2Proof.Machine.execOr x0 x1 x2 x3 x4 x5 s
  | .xor x0 x1 x2 x3 x4 x5 => Sys2Proof.Machine.execXor x0 x1 x2 x3 x4 x5 s
  | .shl x0 x1 x2 x3 x4 x5 => Sys2Proof.Machine.execShl x0 x1 x2 x3 x4 x5 s
  | .shr x0 x1 x2 x3 x4 x5 => Sys2Proof.Machine.execShr x0 x1 x2 x3 x4 x5 s
  | .sar x0 x1 x2 x3 x4 x5 => Sys2Proof.Machine.execSar x0 x1 x2 x3 x4 x5 s
  | .eq x0 x1 x2 x3 x4 x5 => Sys2Proof.Machine.execEq x0 x1 x2 x3 x4 x5 s
  | .eqN x0 x1 x2 x3 x4 => Sys2Proof.Machine.execEqN x0 x1 x2 x3 x4 s
  | .eqP x0 x1 x2 x3 x4 => Sys2Proof.Machine.execEqP x0 x1 x2 x3 x4 s
  | .ne x0 x1 x2 x3 x4 x5 => Sys2Proof.Machine.execNe x0 x1 x2 x3 x4 x5 s
  | .neN x0 x1 x2 x3 x4 => Sys2Proof.Machine.execNeN x0 x1 x2 x3 x4 s
  | .neP x0 x1 x2 x3 x4 => Sys2Proof.Machine.execNeP x0 x1 x2 x3 x4 s
  | .lt x0 x1 x2 x3 x4 x5 => Sys2Proof.Machine.execLt x0 x1 x2 x3 x4 x5 s
  | .ltN x0 x1 x2 x3 x4 => Sys2Proof.Machine.execLtN x0 x1 x2 x3 x4 s
  | .ltP x0 x1 x2 x3 x4 => Sys2Proof.Machine.execLtP x0 x1 x2 x3 x4 s
  | .le x0 x1 x2 x3 x4 x5 => Sys2Proof.Machine.execLe x0 x1 x2 x3 x4 x5 s
  | .leN x0 x1 x2 x3 x4 => Sys2Proof.Machine.execLeN x0 x1 x2 x3 x4 s
  | .leP x0 x1 x2 x3 x4 => Sys2Proof.Machine.execLeP x0 x1 x2 x3 x4 s
  | .eqi x0 x1 x2 x3 => Sys2Proof.Machine.execEqi x0 x1 x2 x3 s
  | .eqiN x0 x1 x2 => Sys2Proof.Machine.execEqiN x0 x1 x2 s
  | .eqiP x0 x1 x2 => Sys2Proof.Machine.execEqiP x0 x1 x2 s
  | .nei x0 x1 x2 x3 => Sys2Proof.Machine.execNei x0 x1 x2 x3 s
  | .neiN x0 x1 x2 => Sys2Proof.Machine.execNeiN x0 x1 x2 s
  | .neiP x0 x1 x2 => Sys2Proof.Machine.execNeiP x0 x1 x2 s
  | .lti x0 x1 x2 x3 => Sys2Proof.Machine.execLti x0 x1 x2 x3 s
  | .ltiN x0 x1 x2 => Sys2Proof.Machine.execLtiN x0 x1 x2 s
  | .ltiP x0 x1 x2 => Sys2Proof.Machine.execLtiP x0 x1 x2 s
  | .lei x0 x1 x2 x3 => Sys2Proof.Machine.execLei x0 x1 x2 x3 s
  | .leiN x0 x1 x2 => Sys2Proof.Machine.execLeiN x0 x1 x2 s
  | .leiP x0 x1 x2 => Sys2Proof.Machine.execLeiP x0 x1 x2 s
  | .gti x0 x1 x2 x3 => Sys2Proof.Machine.execGti x0 x1 x2 x3 s
  | .gtiN x0 x1 x2 => Sys2Proof.Machine.execGtiN x0 x1 x2 s
  | .gtiP x0 x1 x2 => Sys2Proof.Machine.execGtiP x0 x1 x2 s
  | .gei x0 x1 x2 x3 => Sys2Proof.Machine.execGei x0 x1 x2 x3 s
  | .geiN x0 x1 x2 => Sys2Proof.Machine.execGeiN x0 x1 x2 s
  | .geiP x0 x1 x2 => Sys2Proof.Machine.execGeiP x0 x1 x2 s
  | .dlo x0 x1 x2 x3 => Sys2Proof.Machine.execDlo x0 x1 x2 x3 s
  | .dhi x0 x1 x2 x3 => Sys2Proof.Machine.execDhi x0 x1 x2 x3 s
  | .dsize x0 x1 x2 x3 => Sys2Proof.Machine.execDsize x0 x1 x2 x3 s
  | .dmid x0 x1 x2 x3 => Sys2Proof.Machine.execDmid x0 x1 x2 x3 s
  | .dset x0 x1 x2 x3 x4 x5 => Sys2Proof.Machine.execDset x0 x1 x2 x3 x4 x5 s
  | .dfull x0 x1 => Sys2Proof.Machine.execDfull x0 x1 s
  | .single x0 x1 x2 x3 => Sys2Proof.Machine.execSingle x0 x1 x2 x3 s
  | .div x0 x1 x2 x3 x4 x5 => Sys2Proof.Machine.execDiv x0 x1 x2 x3 x4 x5 s
  | .rem x0 x1 x2 x3 x4 x5 => Sys2Proof.Machine.execRem x0 x1 x2 x3 x4 x5 s
  | .ckpt x0 => Sys2Proof.Machine.execCkpt x0 s
  | .roll x0 => Sys2Proof.Machine.execRoll x0 s
  | .commit x0 => Sys2Proof.Machine.execCommit x0 s
  | .nopAdr => Sys2Proof.Machine.execNopAdr s
  | .adda x0 x1 x2 x3 => Sys2Proof.Machine.execAdda x0 x1 x2 x3 s
  | .suba x0 x1 x2 x3 => Sys2Proof.Machine.execSuba x0 x1 x2 x3 s
  | .mula x0 x1 x2 x3 => Sys2Proof.Machine.execMula x0 x1 x2 x3 s
  | .anda x0 x1 x2 x3 => Sys2Proof.Machine.execAnda x0 x1 x2 x3 s
  | .ora x0 x1 x2 x3 => Sys2Proof.Machine.execOra x0 x1 x2 x3 s
  | .xora x0 x1 x2 x3 => Sys2Proof.Machine.execXora x0 x1 x2 x3 s
  | .shla x0 x1 x2 x3 => Sys2Proof.Machine.execShla x0 x1 x2 x3 s
  | .shra x0 x1 x2 x3 => Sys2Proof.Machine.execShra x0 x1 x2 x3 s
  | .sara x0 x1 x2 x3 => Sys2Proof.Machine.execSara x0 x1 x2 x3 s
  | .addai x0 x1 x2 x3 => Sys2Proof.Machine.execAddai x0 x1 x2 x3 s
  | .li x0 x1 x2 => Sys2Proof.Machine.execLi x0 x1 x2 s
  | .shlai x0 x1 x2 x3 => Sys2Proof.Machine.execShlai x0 x1 x2 x3 s
  | .cmpa x0 x1 x2 x3 x4 => Sys2Proof.Machine.execCmpa x0 x1 x2 x3 x4 s
  | .cmpai x0 x1 x2 x3 x4 => Sys2Proof.Machine.execCmpai x0 x1 x2 x3 x4 s
  | .plogic x0 x1 x2 x3 => Sys2Proof.Machine.execPlogic x0 x1 x2 x3 s
  | .pset x0 x1 => Sys2Proof.Machine.execPset x0 x1 s
  | .arm x0 x1 x2 => Sys2Proof.Machine.execArm x0 x1 x2 s
  | .armm x0 x1 => Sys2Proof.Machine.execArmm x0 x1 s
  | .mlogic x0 x1 x2 x3 x4 => Sys2Proof.Machine.execMlogic x0 x1 x2 x3 x4 s
  | .mcnt x0 x1 x2 => Sys2Proof.Machine.execMcnt x0 x1 x2 s
  | .mfirst x0 x1 x2 => Sys2Proof.Machine.execMfirst x0 x1 x2 s
  | .mfill x0 x1 x2 => Sys2Proof.Machine.execMfill x0 x1 x2 s
  | .mfromp x0 x1 x2 => Sys2Proof.Machine.execMfromp x0 x1 x2 s
  | .movka x0 x1 x2 => Sys2Proof.Machine.execMovka x0 x1 x2 s
  | .movak x0 x1 x2 => Sys2Proof.Machine.execMovak x0 x1 x2 s
  | .sela x0 x1 x2 x3 x4 => Sys2Proof.Machine.execSela x0 x1 x2 x3 x4 s
  | .ldelta x0 x1 x2 x3 => Sys2Proof.Machine.execLdelta x0 x1 x2 x3 s
  | .getlc x0 x1 x2 => Sys2Proof.Machine.execGetlc x0 x1 x2 s
  | .movs x0 x1 x2 => Sys2Proof.Machine.execMovs x0 x1 x2 s
  | .movg x0 x1 x2 => Sys2Proof.Machine.execMovg x0 x1 x2 s
  | .nopVec => Sys2Proof.Machine.execNopVec s
  | .vaddF x0 x1 x2 x3 x4 x5 => Sys2Proof.Machine.execVaddF x0 x1 x2 x3 x4 x5 s
  | .vsubF x0 x1 x2 x3 x4 x5 => Sys2Proof.Machine.execVsubF x0 x1 x2 x3 x4 x5 s
  | .vmulF x0 x1 x2 x3 x4 x5 => Sys2Proof.Machine.execVmulF x0 x1 x2 x3 x4 x5 s
  | .vfmaF x0 x1 x2 x3 x4 x5 => Sys2Proof.Machine.execVfmaF x0 x1 x2 x3 x4 x5 s
  | .vfmsF x0 x1 x2 x3 x4 x5 => Sys2Proof.Machine.execVfmsF x0 x1 x2 x3 x4 x5 s
  | .vminF x0 x1 x2 x3 x4 x5 => Sys2Proof.Machine.execVminF x0 x1 x2 x3 x4 x5 s
  | .vmaxF x0 x1 x2 x3 x4 x5 => Sys2Proof.Machine.execVmaxF x0 x1 x2 x3 x4 x5 s
  | .vabsF x0 x1 x2 x3 => Sys2Proof.Machine.execVabsF x0 x1 x2 x3 s
  | .vnegF x0 x1 x2 x3 => Sys2Proof.Machine.execVnegF x0 x1 x2 x3 s
  | .vrcpF x0 x1 x2 x3 => Sys2Proof.Machine.execVrcpF x0 x1 x2 x3 s
  | .vrsqF x0 x1 x2 x3 => Sys2Proof.Machine.execVrsqF x0 x1 x2 x3 s
  | .vexp2F x0 x1 x2 x3 => Sys2Proof.Machine.execVexp2F x0 x1 x2 x3 s
  | .vlog2F x0 x1 x2 x3 => Sys2Proof.Machine.execVlog2F x0 x1 x2 x3 s
  | .vcmpeqF x0 x1 x2 x3 x4 x5 => Sys2Proof.Machine.execVcmpeqF x0 x1 x2 x3 x4 x5 s
  | .vcmpltF x0 x1 x2 x3 x4 x5 => Sys2Proof.Machine.execVcmpltF x0 x1 x2 x3 x4 x5 s
  | .vcmpleF x0 x1 x2 x3 x4 x5 => Sys2Proof.Machine.execVcmpleF x0 x1 x2 x3 x4 x5 s
  | .vaddI x0 x1 x2 x3 x4 x5 => Sys2Proof.Machine.execVaddI x0 x1 x2 x3 x4 x5 s
  | .vsubI x0 x1 x2 x3 x4 x5 => Sys2Proof.Machine.execVsubI x0 x1 x2 x3 x4 x5 s
  | .vmulI x0 x1 x2 x3 x4 x5 => Sys2Proof.Machine.execVmulI x0 x1 x2 x3 x4 x5 s
  | .vminI x0 x1 x2 x3 x4 x5 => Sys2Proof.Machine.execVminI x0 x1 x2 x3 x4 x5 s
  | .vmaxI x0 x1 x2 x3 x4 x5 => Sys2Proof.Machine.execVmaxI x0 x1 x2 x3 x4 x5 s
  | .vand x0 x1 x2 x3 x4 x5 => Sys2Proof.Machine.execVand x0 x1 x2 x3 x4 x5 s
  | .vor x0 x1 x2 x3 x4 x5 => Sys2Proof.Machine.execVor x0 x1 x2 x3 x4 x5 s
  | .vxor x0 x1 x2 x3 x4 x5 => Sys2Proof.Machine.execVxor x0 x1 x2 x3 x4 x5 s
  | .vshl x0 x1 x2 x3 x4 x5 => Sys2Proof.Machine.execVshl x0 x1 x2 x3 x4 x5 s
  | .vshr x0 x1 x2 x3 x4 x5 => Sys2Proof.Machine.execVshr x0 x1 x2 x3 x4 x5 s
  | .vsar x0 x1 x2 x3 x4 x5 => Sys2Proof.Machine.execVsar x0 x1 x2 x3 x4 x5 s
  | .vcmpeqI x0 x1 x2 x3 x4 x5 => Sys2Proof.Machine.execVcmpeqI x0 x1 x2 x3 x4 x5 s
  | .vcmpltI x0 x1 x2 x3 x4 x5 => Sys2Proof.Machine.execVcmpltI x0 x1 x2 x3 x4 x5 s
  | .vcvtFi x0 x1 x2 x3 => Sys2Proof.Machine.execVcvtFi x0 x1 x2 x3 s
  | .vcvtIf x0 x1 x2 x3 => Sys2Proof.Machine.execVcvtIf x0 x1 x2 x3 s
  | .vpkbf x0 x1 x2 x3 x4 x5 => Sys2Proof.Machine.execVpkbf x0 x1 x2 x3 x4 x5 s
  | .vunbf x0 x1 x2 x3 x4 => Sys2Proof.Machine.execVunbf x0 x1 x2 x3 x4 s
  | .vcvtn x0 x1 x2 x3 x4 => Sys2Proof.Machine.execVcvtn x0 x1 x2 x3 x4 s
  | .vcvtw x0 x1 x2 x3 x4 => Sys2Proof.Machine.execVcvtw x0 x1 x2 x3 x4 s
  | .vmov x0 x1 x2 x3 => Sys2Proof.Machine.execVmov x0 x1 x2 x3 s
  | .vsel x0 x1 x2 x3 x4 x5 => Sys2Proof.Machine.execVsel x0 x1 x2 x3 x4 x5 s
  | .vbca x0 x1 x2 x3 => Sys2Proof.Machine.execVbca x0 x1 x2 x3 s
  | .vbck x0 x1 x2 x3 => Sys2Proof.Machine.execVbck x0 x1 x2 x3 s
  | .vperm x0 x1 x2 x3 x4 x5 => Sys2Proof.Machine.execVperm x0 x1 x2 x3 x4 x5 s
  | .vext x0 x1 x2 x3 x4 => Sys2Proof.Machine.execVext x0 x1 x2 x3 x4 s
  | .vins x0 x1 x2 x3 x4 => Sys2Proof.Machine.execVins x0 x1 x2 x3 x4 s
  | .viota x0 x1 => Sys2Proof.Machine.execViota x0 x1 s
  | .vsumx x0 x1 x2 x3 => Sys2Proof.Machine.execVsumx x0 x1 x2 x3 s
  | .vmaxr x0 x1 x2 x3 => Sys2Proof.Machine.execVmaxr x0 x1 x2 x3 s
  | .vminr x0 x1 x2 x3 => Sys2Proof.Machine.execVminr x0 x1 x2 x3 s
  | .vsumi x0 x1 x2 x3 => Sys2Proof.Machine.execVsumi x0 x1 x2 x3 s
  | .nopIvl => Sys2Proof.Machine.execNopIvl s
  | .qadd x0 x1 x2 x3 => Sys2Proof.Machine.execQadd x0 x1 x2 x3 s
  | .qsub x0 x1 x2 x3 => Sys2Proof.Machine.execQsub x0 x1 x2 x3 s
  | .qmul x0 x1 x2 x3 => Sys2Proof.Machine.execQmul x0 x1 x2 x3 s
  | .qfma x0 x1 x2 x3 x4 => Sys2Proof.Machine.execQfma x0 x1 x2 x3 x4 s
  | .qdiv x0 x1 x2 x3 => Sys2Proof.Machine.execQdiv x0 x1 x2 x3 s
  | .qsqr x0 x1 x2 => Sys2Proof.Machine.execQsqr x0 x1 x2 s
  | .qsqrt x0 x1 x2 => Sys2Proof.Machine.execQsqrt x0 x1 x2 s
  | .qrelu x0 x1 x2 => Sys2Proof.Machine.execQrelu x0 x1 x2 s
  | .qmax x0 x1 x2 x3 => Sys2Proof.Machine.execQmax x0 x1 x2 x3 s
  | .qmin x0 x1 x2 x3 => Sys2Proof.Machine.execQmin x0 x1 x2 x3 s
  | .qneg x0 x1 x2 => Sys2Proof.Machine.execQneg x0 x1 x2 s
  | .qabs x0 x1 x2 => Sys2Proof.Machine.execQabs x0 x1 x2 s
  | .qexp x0 x1 x2 => Sys2Proof.Machine.execQexp x0 x1 x2 s
  | .qmeet x0 x1 x2 x3 => Sys2Proof.Machine.execQmeet x0 x1 x2 x3 s
  | .qhull x0 x1 x2 x3 => Sys2Proof.Machine.execQhull x0 x1 x2 x3 s
  | .qmid x0 x1 x2 => Sys2Proof.Machine.execQmid x0 x1 x2 s
  | .qwid x0 x1 x2 => Sys2Proof.Machine.execQwid x0 x1 x2 s
  | .qbis x0 x1 x2 => Sys2Proof.Machine.execQbis x0 x1 x2 s
  | .qmake x0 x1 x2 x3 x4 => Sys2Proof.Machine.execQmake x0 x1 x2 x3 x4 s
  | .qpoint x0 x1 x2 x3 => Sys2Proof.Machine.execQpoint x0 x1 x2 x3 s
  | .qlo x0 x1 x2 x3 => Sys2Proof.Machine.execQlo x0 x1 x2 x3 s
  | .qhi x0 x1 x2 x3 => Sys2Proof.Machine.execQhi x0 x1 x2 x3 s
  | .qent x0 x1 => Sys2Proof.Machine.execQent x0 x1 s
  | .qemp x0 x1 => Sys2Proof.Machine.execQemp x0 x1 s
  | .qbca x0 x1 x2 => Sys2Proof.Machine.execQbca x0 x1 x2 s
  | .qcmp x0 x1 x2 x3 x4 => Sys2Proof.Machine.execQcmp x0 x1 x2 x3 x4 s
  | .qtest x0 x1 x2 x3 x4 => Sys2Proof.Machine.execQtest x0 x1 x2 x3 x4 s
  | .qaddC x0 x1 x2 x3 => Sys2Proof.Machine.execQaddC x0 x1 x2 x3 s
  | .qsubC x0 x1 x2 x3 => Sys2Proof.Machine.execQsubC x0 x1 x2 x3 s
  | .qmulC x0 x1 x2 x3 => Sys2Proof.Machine.execQmulC x0 x1 x2 x3 s
  | .qfmaC x0 x1 x2 x3 x4 => Sys2Proof.Machine.execQfmaC x0 x1 x2 x3 x4 s
  | .qsqrC x0 x1 x2 => Sys2Proof.Machine.execQsqrC x0 x1 x2 s
  | .qreluC x0 x1 x2 => Sys2Proof.Machine.execQreluC x0 x1 x2 s
  | .qmaxC x0 x1 x2 x3 => Sys2Proof.Machine.execQmaxC x0 x1 x2 x3 s
  | .qexpC x0 x1 x2 => Sys2Proof.Machine.execQexpC x0 x1 x2 s
  | .qleC x0 x1 x2 => Sys2Proof.Machine.execQleC x0 x1 x2 s
  | .qstat x0 x1 x2 => Sys2Proof.Machine.execQstat x0 x1 x2 s
  | .nopMem => Sys2Proof.Machine.execNopMem s
  | .ldsV x0 x1 x2 x3 => Sys2Proof.Machine.execLdsV x0 x1 x2 x3 s
  | .stsV x0 x1 x2 x3 => Sys2Proof.Machine.execStsV x0 x1 x2 x3 s
  | .ldsQ x0 x1 x2 x3 => Sys2Proof.Machine.execLdsQ x0 x1 x2 x3 s
  | .stsQ x0 x1 x2 x3 => Sys2Proof.Machine.execStsQ x0 x1 x2 x3 s
  | .ldsK x0 x1 x2 x3 => Sys2Proof.Machine.execLdsK x0 x1 x2 x3 s
  | .stsK x0 x1 x2 x3 => Sys2Proof.Machine.execStsK x0 x1 x2 x3 s
  | .ldsA x0 x1 x2 x3 => Sys2Proof.Machine.execLdsA x0 x1 x2 x3 s
  | .stsA x0 x1 x2 x3 => Sys2Proof.Machine.execStsA x0 x1 x2 x3 s
  | .ldsVx x0 x1 x2 x3 => Sys2Proof.Machine.execLdsVx x0 x1 x2 x3 s
  | .stsVx x0 x1 x2 x3 => Sys2Proof.Machine.execStsVx x0 x1 x2 x3 s
  | .ldgA x0 x1 x2 x3 x4 => Sys2Proof.Machine.execLdgA x0 x1 x2 x3 x4 s
  | .stgA x0 x1 x2 x3 x4 => Sys2Proof.Machine.execStgA x0 x1 x2 x3 x4 s
  | .ldgV x0 x1 x2 x3 x4 => Sys2Proof.Machine.execLdgV x0 x1 x2 x3 x4 s
  | .stgV x0 x1 x2 x3 x4 => Sys2Proof.Machine.execStgV x0 x1 x2 x3 x4 s
  | .ldgK x0 x1 x2 x3 x4 => Sys2Proof.Machine.execLdgK x0 x1 x2 x3 x4 s
  | .ldgKN x0 x1 x2 x3 x4 => Sys2Proof.Machine.execLdgKN x0 x1 x2 x3 x4 s
  | .aadd x0 x1 x2 x3 x4 => Sys2Proof.Machine.execAadd x0 x1 x2 x3 x4 s
  | .amax x0 x1 x2 x3 x4 => Sys2Proof.Machine.execAmax x0 x1 x2 x3 x4 s
  | .amin x0 x1 x2 x3 x4 => Sys2Proof.Machine.execAmin x0 x1 x2 x3 x4 s
  | .axch x0 x1 x2 x3 x4 => Sys2Proof.Machine.execAxch x0 x1 x2 x3 x4 s
  | .acas x0 x1 x2 x3 x4 => Sys2Proof.Machine.execAcas x0 x1 x2 x3 x4 s
  | .amaxf x0 x1 x2 x3 x4 => Sys2Proof.Machine.execAmaxf x0 x1 x2 x3 x4 s
  | .amaxrst x0 x1 x2 x3 => Sys2Proof.Machine.execAmaxrst x0 x1 x2 x3 s
  | .xadd x0 x1 x2 => Sys2Proof.Machine.execXadd x0 x1 x2 s
  | .xaddv x0 x1 x2 => Sys2Proof.Machine.execXaddv x0 x1 x2 s
  | .xrd x0 x1 x2 x3 => Sys2Proof.Machine.execXrd x0 x1 x2 x3 s
  | .xrdv x0 x1 x2 x3 => Sys2Proof.Machine.execXrdv x0 x1 x2 x3 s
  | .xclr x0 x1 x2 => Sys2Proof.Machine.execXclr x0 x1 x2 s
  | .fenceAcq x0 x1 => Sys2Proof.Machine.execFenceAcq x0 x1 s
  | .fenceRel x0 x1 => Sys2Proof.Machine.execFenceRel x0 x1 s
  | .fenceFull x0 x1 => Sys2Proof.Machine.execFenceFull x0 x1 s
  | .push x0 x1 x2 => Sys2Proof.Machine.execPush x0 x1 x2 s
  | .pusht x0 x1 x2 x3 => Sys2Proof.Machine.execPusht x0 x1 x2 x3 s
  | .pushqw x0 x1 x2 x3 => Sys2Proof.Machine.execPushqw x0 x1 x2 x3 s
  | .pop x0 x1 x2 => Sys2Proof.Machine.execPop x0 x1 x2 s
  | .pushr x0 x1 x2 => Sys2Proof.Machine.execPushr x0 x1 x2 s
  | .popr x0 x1 x2 => Sys2Proof.Machine.execPopr x0 x1 x2 s
  | .cbinv x0 x1 => Sys2Proof.Machine.execCbinv x0 x1 s
  | .nopMtx => Sys2Proof.Machine.execNopMtx s
  | .claim x0 x1 => Sys2Proof.Machine.execClaim x0 x1 s
  | .release x0 => Sys2Proof.Machine.execRelease x0 s
  | .ldw x0 x1 x2 => Sys2Proof.Machine.execLdw x0 x1 x2 s
  | .swpw => Sys2Proof.Machine.execSwpw s
  | .acc x0 x1 x2 x3 => Sys2Proof.Machine.execAcc x0 x1 x2 x3 s
  | .accz x0 x1 x2 x3 => Sys2Proof.Machine.execAccz x0 x1 x2 x3 s
  | .drain x0 x1 x2 x3 x4 => Sys2Proof.Machine.execDrain x0 x1 x2 x3 x4 s
  | .drainF32 x0 x1 x2 => Sys2Proof.Machine.execDrainF32 x0 x1 x2 s
  | .nopCpy => Sys2Proof.Machine.execNopCpy s
  | .cg2s x0 x1 x2 x3 => Sys2Proof.Machine.execCg2s x0 x1 x2 x3 s
  | .cg2sDc x0 x1 x2 => Sys2Proof.Machine.execCg2sDc x0 x1 x2 s
  | .cs2g x0 x1 x2 x3 => Sys2Proof.Machine.execCs2g x0 x1 x2 x3 s
  | .cs2gDc x0 x1 x2 => Sys2Proof.Machine.execCs2gDc x0 x1 x2 s
  | .cg2o x0 x1 x2 x3 => Sys2Proof.Machine.execCg2o x0 x1 x2 x3 s
  | .cs2o x0 x1 x2 x3 => Sys2Proof.Machine.execCs2o x0 x1 x2 x3 s
  | .cg2g x0 x1 x2 x3 => Sys2Proof.Machine.execCg2g x0 x1 x2 x3 s
  | .cg2gDc x0 x1 x2 => Sys2Proof.Machine.execCg2gDc x0 x1 x2 s
  | .cxred x0 x1 x2 x3 => Sys2Proof.Machine.execCxred x0 x1 x2 x3 s
  | .cxredDc x0 x1 x2 => Sys2Proof.Machine.execCxredDc x0 x1 x2 s
  | .tset x0 x1 => Sys2Proof.Machine.execTset x0 x1 s
  | .tdrain x0 x1 => Sys2Proof.Machine.execTdrain x0 x1 s
  | .gidx x0 => Sys2Proof.Machine.execGidx x0 s
  | .gather x0 x1 x2 x3 => Sys2Proof.Machine.execGather x0 x1 x2 x3 s
  | .gend => Sys2Proof.Machine.execGend s
  | .loadLanding x0 x1 => Sys2Proof.Machine.execLoadLanding x0 x1 s
  | .writeDrained x0 x1 => Sys2Proof.Machine.execWriteDrained x0 x1 s
  | .divRemWrite x0 x1 => Sys2Proof.Machine.execDivRemWrite x0 x1 s
  | .scatterGatherDone x0 x1 => Sys2Proof.Machine.execScatterGatherDone x0 x1 s
  | .copySectorLands x0 x1 x2 => Sys2Proof.Machine.execCopySectorLands x0 x1 x2 s
  | .gatherRowLands x0 x1 => Sys2Proof.Machine.execGatherRowLands x0 x1 s
  | .pageWalk x0 x1 x2 => Sys2Proof.Machine.execPageWalk x0 x1 x2 s
  | .pageResponse x0 x1 x2 x3 => Sys2Proof.Machine.execPageResponse x0 x1 x2 x3 s
  | .overlayLoaded x0 => Sys2Proof.Machine.execOverlayLoaded x0 s
  | .overlayPrefetch x0 x1 => Sys2Proof.Machine.execOverlayPrefetch x0 x1 s
  | .park x0 => Sys2Proof.Machine.execPark x0 s
  | .budgetovr x0 => Sys2Proof.Machine.execBudgetovr x0 s
  | .barrierRestart x0 => Sys2Proof.Machine.execBarrierRestart x0 s
  | .enginesEmpty x0 => Sys2Proof.Machine.execEnginesEmpty x0 s
  | .dispatch x0 => Sys2Proof.Machine.execDispatch x0 s
  | .gangDispatch x0 x1 => Sys2Proof.Machine.execGangDispatch x0 x1 s
  | .spawnAcceptance x0 => Sys2Proof.Machine.execSpawnAcceptance x0 s
  | .queueDelivery x0 x1 => Sys2Proof.Machine.execQueueDelivery x0 x1 s
  | .entryReturn x0 x1 => Sys2Proof.Machine.execEntryReturn x0 x1 s
  | .hearthQnew x0 => Sys2Proof.Machine.execHearthQnew x0 s
  | .hearthBorrow x0 => Sys2Proof.Machine.execHearthBorrow x0 s
  | .hearthReturn x0 => Sys2Proof.Machine.execHearthReturn x0 s
  | .hearthQwait x0 => Sys2Proof.Machine.execHearthQwait x0 s
  | .queueWindowWrite x0 x1 x2 => Sys2Proof.Machine.execQueueWindowWrite x0 x1 x2 s
  | .bindpasid x0 => Sys2Proof.Machine.execBindpasid x0 s
  | .preempt x0 => Sys2Proof.Machine.execPreempt x0 s
  | .preemptHalt x0 => Sys2Proof.Machine.execPreemptHalt x0 s
  | .preemptCompletion => Sys2Proof.Machine.execPreemptCompletion s
  | .inval x0 => Sys2Proof.Machine.execInval x0 s
  | .qmode x0 => Sys2Proof.Machine.execQmode x0 s
  | .descinv x0 => Sys2Proof.Machine.execDescinv x0 s
  | .temper x0 => Sys2Proof.Machine.execTemper x0 s
  | .route x0 => Sys2Proof.Machine.execRoute x0 s
  | .attest x0 => Sys2Proof.Machine.execAttest x0 s
  | .fring x0 => Sys2Proof.Machine.execFring x0 s
  | .kill x0 => Sys2Proof.Machine.execKill x0 s
  | .reset x0 => Sys2Proof.Machine.execReset x0 s
  | .elog x0 => Sys2Proof.Machine.execElog x0 s
  | .badcmd x0 => Sys2Proof.Machine.execBadcmd x0 s
  | .frp x0 => Sys2Proof.Machine.execFrp x0 s
  | .erp x0 => Sys2Proof.Machine.execErp x0 s
  | .registerWrite x0 x1 => Sys2Proof.Machine.execRegisterWrite x0 x1 s
  | .dstat x0 x1 => Sys2Proof.Machine.execDstat x0 x1 s
  | .debugStopRequest x0 => Sys2Proof.Machine.execDebugStopRequest x0 s
  | .debugResume x0 => Sys2Proof.Machine.execDebugResume x0 s
  | .debuggerRegisterWrite x0 x1 x2 => Sys2Proof.Machine.execDebuggerRegisterWrite x0 x1 x2 s
  | .debugMemoryAccess x0 x1 => Sys2Proof.Machine.execDebugMemoryAccess x0 x1 s
  | .sampleRecord x0 => Sys2Proof.Machine.execSampleRecord x0 s
  | .spdmRequest x0 => Sys2Proof.Machine.execSpdmRequest x0 s
  | .hostMemoryAccess x0 x1 => Sys2Proof.Machine.execHostMemoryAccess x0 x1 s
  | .peerRequest x0 x1 => Sys2Proof.Machine.execPeerRequest x0 x1 s
  | .boot => Sys2Proof.Machine.execBoot s
  | .functionLevelReset => Sys2Proof.Machine.execFunctionLevelReset s
  | .temperTick => Sys2Proof.Machine.execTemperTick s
  | .boostStep x0 => Sys2Proof.Machine.execBoostStep x0 s
  | .patrolScrub x0 x1 => Sys2Proof.Machine.execPatrolScrub x0 x1 s
  | .flitCrcRetry x0 => Sys2Proof.Machine.execFlitCrcRetry x0 s
  | .linkRetrain x0 => Sys2Proof.Machine.execLinkRetrain x0 s
  | .portDown x0 => Sys2Proof.Machine.execPortDown x0 s
  | .portUp x0 => Sys2Proof.Machine.execPortUp x0 s
  | .registerStateLost x0 => Sys2Proof.Machine.execRegisterStateLost x0 s
  | .coreLogicError x0 => Sys2Proof.Machine.execCoreLogicError x0 s
  | .fabricError x0 => Sys2Proof.Machine.execFabricError x0 s
  | .unassignedEncoding x0 x1 x2 => Sys2Proof.Machine.execUnassignedEncoding x0 x1 x2 s
  | .evictionCompletes x0 => Sys2Proof.Machine.execEvictionCompletes x0 s
  | .imageRestored x0 => Sys2Proof.Machine.execImageRestored x0 s

end Sys2Proof.Machine
end

