-- ==== Sys2Proof/WellFormed.lean ====
section
/-! DEFINITION. Which operations are well formed: the field values that R311 reserves, the tail combinations of R123
and R312, and the system-register numbers of R138. An operation that is not well formed is decoded, and the bundle that
holds it raises ILLEGAL in stage 1 of R304 with the reason that fieldFault gives. -/

namespace Sys2Proof

/-- The access that MOVS and MOVG have to a system register number (R138). -/
def sysAccess (n : Nat) : Option Bool :=
  if n ∈ [0x000, 0x001, 0x002, 0x003, 0x004, 0x011, 0x012, 0x013, 0x031, 0x038, 0x039, 0x03A, 0x049, 0x050, 0x051] then
    some false
  else if n ∈ [0x008, 0x009, 0x00A, 0x00B, 0x00C, 0x010, 0x018, 0x019, 0x01A, 0x030, 0x032, 0x03B, 0x040, 0x048] ∨
      (0x020 ≤ n ∧ n ≤ 0x02F) then some true
  else none

/-- The tail combinations that the fields of a CTL operation can show (R123). -/
def tailFault (e x : BitVec 1) (t : BitVec 2) : Option Nat :=
  if e = 1 ∧ x = 1 then some 0x03 else if x = 0 ∧ t ≠ 0 then some 0x03 else none

/-- As tailFault, for a PREP of buffer b (R123). -/
def prepFault (e x : BitVec 1) (t b : BitVec 2) : Option Nat :=
  if x = 1 ∧ b = t then some 0x03 else tailFault e x t

/-- A reserved value of a field (R311), reason 0x05. -/
def valueFault (bad : Bool) : Option Nat := if bad then some 0x05 else none

/-- Reserved bits of a field that this form leaves unused (R183, R186, R311), reason 0x02. -/
def bitFault (bad : Bool) : Option Nat := if bad then some 0x02 else none

/-- The first of two faults. -/
def firstFault : Option Nat → Option Nat → Option Nat
  | some a, _ => some a
  | none, b => b

/-- Why an operation is not well formed: the reason of R309, or none when it is. -/
def fieldFault : Instr → Option Nat
  | .nopCtl e _ x t => tailFault e x t
  | .prep e _ x t b _ => prepFault e x t b
  | .prepc e _ x t b _ => prepFault e x t b
  | .prepr e _ x t b => prepFault e x t b
  | .prepi e _ x t b _ _ => prepFault e x t b
  | .loop e _ x t _ _ _ => tailFault e x t
  | .loopi e _ x t _ _ _ => tailFault e x t
  | .budget e _ x t _ => tailFault e x t
  | .mark e _ x t _ => tailFault e x t
  | .sync e _ x t s => firstFault (valueFault (2 ≤ s.toNat)) (tailFault e x t)
  | .spawn e _ x t _ _ q => firstFault (valueFault (16 ≤ q.toNat)) (tailFault e x t)
  | .susp _ x t _ q => firstFault (valueFault (16 ≤ q.toNat)) (tailFault 0 x t)
  | .qnew e _ x t _ _ => tailFault e x t
  | .qwait _ x t _ => tailFault 0 x t
  | .qborrow e _ x t _ => tailFault e x t
  | .qsplit e _ x t _ => tailFault e x t
  | .qjoin e _ x t _ => tailFault e x t
  | .qret e _ x t => tailFault e x t
  | .waitte e _ x t _ _ => tailFault e x t
  | .drainw e _ x t => tailFault e x t
  | .trap e _ x t _ => tailFault e x t
  | .rft _ _ => none
  | .nopInt => none
  | .add _ _ _ _ _ _ => none
  | .addN _ _ _ _ _ _ => none
  | .addP _ _ _ _ _ _ => none
  | .sub _ _ _ _ _ _ => none
  | .subN _ _ _ _ _ _ => none
  | .subP _ _ _ _ _ _ => none
  | .mul _ _ _ _ _ _ => none
  | .mulN _ _ _ _ _ _ => none
  | .mulP _ _ _ _ _ _ => none
  | .min _ _ _ _ _ _ => none
  | .minN _ _ _ _ _ _ => none
  | .minP _ _ _ _ _ _ => none
  | .max _ _ _ _ _ _ => none
  | .maxN _ _ _ _ _ _ => none
  | .maxP _ _ _ _ _ _ => none
  | .abs _ _ _ _ => none
  | .absN _ _ _ _ => none
  | .absP _ _ _ _ => none
  | .neg _ _ _ _ => none
  | .negN _ _ _ _ => none
  | .negP _ _ _ _ => none
  | .mov _ _ _ _ => none
  | .movN _ _ _ _ => none
  | .movP _ _ _ _ => none
  | .addi _ _ _ _ => none
  | .addiN _ _ _ _ => none
  | .addiP _ _ _ _ => none
  | .muli _ _ _ _ => none
  | .muliN _ _ _ _ => none
  | .muliP _ _ _ _ => none
  | .and _ _ _ _ _ _ => none
  | .or _ _ _ _ _ _ => none
  | .xor _ _ _ _ _ _ => none
  | .shl _ _ _ _ _ _ => none
  | .shr _ _ _ _ _ _ => none
  | .sar _ _ _ _ _ _ => none
  | .eq _ _ _ _ _ _ => none
  | .eqN _ _ _ _ _ => none
  | .eqP _ _ _ _ _ => none
  | .ne _ _ _ _ _ _ => none
  | .neN _ _ _ _ _ => none
  | .neP _ _ _ _ _ => none
  | .lt _ _ _ _ _ _ => none
  | .ltN _ _ _ _ _ => none
  | .ltP _ _ _ _ _ => none
  | .le _ _ _ _ _ _ => none
  | .leN _ _ _ _ _ => none
  | .leP _ _ _ _ _ => none
  | .eqi _ _ _ _ => none
  | .eqiN _ _ _ => none
  | .eqiP _ _ _ => none
  | .nei _ _ _ _ => none
  | .neiN _ _ _ => none
  | .neiP _ _ _ => none
  | .lti _ _ _ _ => none
  | .ltiN _ _ _ => none
  | .ltiP _ _ _ => none
  | .lei _ _ _ _ => none
  | .leiN _ _ _ => none
  | .leiP _ _ _ => none
  | .gti _ _ _ _ => none
  | .gtiN _ _ _ => none
  | .gtiP _ _ _ => none
  | .gei _ _ _ _ => none
  | .geiN _ _ _ => none
  | .geiP _ _ _ => none
  | .dlo _ _ _ _ => none
  | .dhi _ _ _ _ => none
  | .dsize _ _ _ _ => none
  | .dmid _ _ _ _ => none
  | .dset _ _ _ _ _ _ => none
  | .dfull _ _ => none
  | .single _ _ _ _ => none
  | .div _ _ _ _ _ _ => none
  | .rem _ _ _ _ _ _ => none
  | .ckpt _ => none
  | .roll _ => none
  | .commit _ => none
  | .nopAdr => none
  | .adda _ _ _ _ => none
  | .suba _ _ _ _ => none
  | .mula _ _ _ _ => none
  | .anda _ _ _ _ => none
  | .ora _ _ _ _ => none
  | .xora _ _ _ _ => none
  | .shla _ _ _ _ => none
  | .shra _ _ _ _ => none
  | .sara _ _ _ _ => none
  | .addai _ _ _ _ => none
  | .li _ _ _ => none
  | .shlai _ _ _ _ => none
  | .cmpa _ _ _ _ c => valueFault (6 ≤ c.toNat)
  | .cmpai _ _ _ c _ => valueFault (6 ≤ c.toNat)
  | .plogic d a b f => firstFault (bitFault ((f == 2 || f == 5 || f == 6 || f == 7) && b != 0)) (valueFault (96 ≤ d.toNat || 96 ≤ a.toNat || 96 ≤ b.toNat))
  | .pset d v => valueFault (96 ≤ d.toNat || v == 3)
  | .arm _ s _ => valueFault (96 ≤ s.toNat)
  | .armm _ _ => none
  | .mlogic _ _ _ b f => bitFault ((f == 4 || f == 5) && b != 0)
  | .mcnt _ _ _ => none
  | .mfirst _ _ _ => none
  | .mfill _ _ _ => none
  | .mfromp _ _ s => valueFault (96 ≤ s.toNat)
  | .movka _ _ _ => none
  | .movak _ _ _ => none
  | .sela _ _ _ _ p => valueFault (96 ≤ p.toNat)
  | .ldelta _ _ t _ => valueFault (t == 0)
  | .getlc _ _ _ => none
  | .movs _ _ r => if sysAccess r.toNat = none then some 0x06 else none
  | .movg _ _ r => if sysAccess r.toNat = some true then none else some 0x06
  | .nopVec => none
  | .vaddF _ _ _ _ _ _ => none
  | .vsubF _ _ _ _ _ _ => none
  | .vmulF _ _ _ _ _ _ => none
  | .vfmaF _ _ _ _ _ _ => none
  | .vfmsF _ _ _ _ _ _ => none
  | .vminF _ _ _ _ _ _ => none
  | .vmaxF _ _ _ _ _ _ => none
  | .vabsF _ _ _ _ => none
  | .vnegF _ _ _ _ => none
  | .vrcpF _ _ _ _ => none
  | .vrsqF _ _ _ _ => none
  | .vexp2F _ _ _ _ => none
  | .vlog2F _ _ _ _ => none
  | .vcmpeqF _ _ _ _ _ _ => none
  | .vcmpltF _ _ _ _ _ _ => none
  | .vcmpleF _ _ _ _ _ _ => none
  | .vaddI _ _ _ _ _ _ => none
  | .vsubI _ _ _ _ _ _ => none
  | .vmulI _ _ _ _ _ _ => none
  | .vminI _ _ _ _ _ _ => none
  | .vmaxI _ _ _ _ _ _ => none
  | .vand _ _ _ _ _ _ => none
  | .vor _ _ _ _ _ _ => none
  | .vxor _ _ _ _ _ _ => none
  | .vshl _ _ _ _ _ _ => none
  | .vshr _ _ _ _ _ _ => none
  | .vsar _ _ _ _ _ _ => none
  | .vcmpeqI _ _ _ _ _ _ => none
  | .vcmpltI _ _ _ _ _ _ => none
  | .vcvtFi _ _ _ _ => none
  | .vcvtIf _ _ _ _ => none
  | .vpkbf _ _ _ _ _ _ => none
  | .vunbf _ _ _ _ _ => none
  | .vcvtn _ _ _ _ _ => none
  | .vcvtw _ _ _ _ _ => none
  | .vmov _ _ _ _ => none
  | .vsel _ _ _ _ _ _ => none
  | .vbca _ _ _ _ => none
  | .vbck _ _ _ _ => none
  | .vperm _ _ _ _ _ _ => none
  | .vext _ _ _ _ _ => none
  | .vins _ _ _ _ _ => none
  | .viota _ _ => none
  | .vsumx _ _ _ _ => none
  | .vmaxr _ _ _ _ => none
  | .vminr _ _ _ _ => none
  | .vsumi _ _ _ _ => none
  | .nopIvl => none
  | .qadd _ _ _ _ => none
  | .qsub _ _ _ _ => none
  | .qmul _ _ _ _ => none
  | .qfma _ _ _ _ _ => none
  | .qdiv _ _ _ _ => none
  | .qsqr _ _ _ => none
  | .qsqrt _ _ _ => none
  | .qrelu _ _ _ => none
  | .qmax _ _ _ _ => none
  | .qmin _ _ _ _ => none
  | .qneg _ _ _ => none
  | .qabs _ _ _ => none
  | .qexp _ _ _ => none
  | .qmeet _ _ _ _ => none
  | .qhull _ _ _ _ => none
  | .qmid _ _ _ => none
  | .qwid _ _ _ => none
  | .qbis _ _ _ => none
  | .qmake _ _ _ _ _ => none
  | .qpoint _ _ _ _ => none
  | .qlo _ _ _ _ => none
  | .qhi _ _ _ _ => none
  | .qent _ _ => none
  | .qemp _ _ => none
  | .qbca _ _ _ => none
  | .qcmp _ _ _ _ c => valueFault (5 ≤ c.toNat)
  | .qtest _ _ _ _ c => valueFault (5 ≤ c.toNat)
  | .qaddC _ _ _ _ => none
  | .qsubC _ _ _ _ => none
  | .qmulC _ _ _ _ => none
  | .qfmaC _ _ _ _ _ => none
  | .qsqrC _ _ _ => none
  | .qreluC _ _ _ => none
  | .qmaxC _ _ _ _ => none
  | .qexpC _ _ _ => none
  | .qleC _ _ _ => none
  | .qstat _ _ _ => none
  | .nopMem => none
  | .ldsV _ _ _ _ => none
  | .stsV _ _ _ _ => none
  | .ldsQ _ _ _ _ => none
  | .stsQ _ _ _ _ => none
  | .ldsK _ _ _ _ => none
  | .stsK _ _ _ _ => none
  | .ldsA _ _ _ _ => none
  | .stsA _ _ _ _ => none
  | .ldsVx _ r _ i => valueFault (r == i)
  | .stsVx _ r _ i => valueFault (r == i)
  | .ldgA _ _ _ o _ => valueFault (5 ≤ o.toNat)
  | .stgA _ _ _ o _ => valueFault (5 ≤ o.toNat)
  | .ldgV _ _ _ o _ => valueFault (5 ≤ o.toNat)
  | .stgV _ _ _ o _ => valueFault (5 ≤ o.toNat)
  | .ldgK _ _ _ o _ => valueFault (5 ≤ o.toNat)
  | .ldgKN _ _ _ o _ => valueFault (5 ≤ o.toNat)
  | .aadd _ _ _ _ o => valueFault (5 ≤ o.toNat)
  | .amax _ _ _ _ o => valueFault (5 ≤ o.toNat)
  | .amin _ _ _ _ o => valueFault (5 ≤ o.toNat)
  | .axch _ _ _ _ o => valueFault (5 ≤ o.toNat)
  | .acas _ _ _ _ o => valueFault (5 ≤ o.toNat)
  | .amaxf _ _ _ _ o => valueFault (5 ≤ o.toNat)
  | .amaxrst _ _ _ o => valueFault (5 ≤ o.toNat)
  | .xadd _ _ _ => none
  | .xaddv _ _ _ => none
  | .xrd _ _ _ _ => none
  | .xrdv _ _ _ _ => none
  | .xclr _ _ _ => none
  | .fenceAcq _ s => valueFault (5 ≤ s.toNat)
  | .fenceRel _ s => valueFault (5 ≤ s.toNat)
  | .fenceFull _ s => valueFault (5 ≤ s.toNat)
  | .push _ q _ => valueFault (q.toNat < 16)
  | .pusht _ q _ _ => valueFault (q.toNat < 16)
  | .pushqw _ q _ _ => valueFault (q.toNat < 16)
  | .pop _ q _ => valueFault (q.toNat < 16)
  | .pushr _ q _ => valueFault (q.toNat < 16)
  | .popr _ q _ => valueFault (q.toNat < 16)
  | .cbinv _ _ => none
  | .nopMtx => none
  | .claim _ _ => none
  | .release _ => none
  | .ldw _ _ _ => none
  | .swpw => none
  | .acc _ _ _ _ => none
  | .accz _ _ _ _ => none
  | .drain _ _ _ _ _ => none
  | .drainF32 _ _ _ => none
  | .nopCpy => none
  | .cg2s t _ _ _ => valueFault (t.toNat < 32)
  | .cg2sDc _ _ _ => none
  | .cs2g t _ _ _ => valueFault (t.toNat < 32)
  | .cs2gDc _ _ _ => none
  | .cg2o ⟨f, t⟩ d _ _ => valueFault (t.toNat != d.toNat || (f = 1 && t.toNat != 0))
  | .cs2o ⟨f, t⟩ d _ _ => valueFault (t.toNat != d.toNat || (f = 1 && t.toNat != 0))
  | .cg2g t _ _ _ => valueFault (t.toNat < 32)
  | .cg2gDc _ _ _ => none
  | .cxred t _ _ _ => valueFault (t.toNat < 32)
  | .cxredDc _ _ _ => none
  | .tset _ _ => none
  | .tdrain _ _ => none
  | .gidx _ => none
  | .gather t _ _ _ => valueFault (t.toNat < 32)
  | .gend => none
  | .loadLanding _ _ => none
  | .writeDrained _ _ => none
  | .divRemWrite _ _ => none
  | .scatterGatherDone _ _ => none
  | .copySectorLands _ _ _ => none
  | .gatherRowLands _ _ => none
  | .pageWalk _ _ _ => none
  | .pageResponse _ _ _ _ => none
  | .overlayLoaded _ => none
  | .overlayPrefetch _ _ => none
  | .park _ => none
  | .budgetovr _ => none
  | .barrierRestart _ => none
  | .enginesEmpty _ => none
  | .dispatch _ => none
  | .gangDispatch _ _ => none
  | .spawnAcceptance _ => none
  | .queueDelivery _ _ => none
  | .entryReturn _ _ => none
  | .hearthQnew _ => none
  | .hearthBorrow _ => none
  | .hearthReturn _ => none
  | .hearthQwait _ => none
  | .queueWindowWrite _ _ _ => none
  | .bindpasid _ => none
  | .preempt _ => none
  | .preemptHalt _ => none
  | .preemptCompletion => none
  | .inval _ => none
  | .qmode _ => none
  | .descinv _ => none
  | .temper _ => none
  | .route _ => none
  | .attest _ => none
  | .fring _ => none
  | .kill _ => none
  | .reset _ => none
  | .elog _ => none
  | .badcmd _ => none
  | .frp _ => none
  | .erp _ => none
  | .registerWrite _ _ => none
  | .dstat _ _ => none
  | .debugStopRequest _ => none
  | .debugResume _ => none
  | .debuggerRegisterWrite _ _ _ => none
  | .debugMemoryAccess _ _ => none
  | .sampleRecord _ => none
  | .spdmRequest _ => none
  | .hostMemoryAccess _ _ => none
  | .peerRequest _ _ => none
  | .boot => none
  | .functionLevelReset => none
  | .temperTick => none
  | .boostStep _ => none
  | .patrolScrub _ _ => none
  | .flitCrcRetry _ => none
  | .linkRetrain _ => none
  | .portDown _ => none
  | .portUp _ => none
  | .registerStateLost _ => none
  | .coreLogicError _ => none
  | .fabricError _ => none
  | .unassignedEncoding _ _ _ => none
  | .evictionCompletes _ => none
  | .imageRestored _ => none

/-- An operation is well formed when no field of it holds a value that the architecture reserves. -/
def WellFormed (i : Instr) : Bool := (fieldFault i).isNone

end Sys2Proof
end

