-- ==== Sys2Proof/Machine/Bundle.lean ====
section
/-! DEFINITION. A bundle from its fetch to its boundary (R22, R27, R28, R66, R108 to R130, R146 to R149, R169 to R171, R298 to R307): the
checks of R304 over the eight operations, their effects together, the end of the bundle, propagation one wake at a time, QWAIT. -/

namespace Sys2Proof.Machine

/-! ### Check-out and check-in -/

/-- The context that a core runs, checked out. -/
def State.checkout (s : State) (n : Nat) : Option State :=
  match (s.coreOf n).cur with
  | none => none
  | some uid => (s.ctx? uid).map fun c => { s with live := c, issue := c, uid := uid, core := n, verdict := .idle, beside := none }

/-- Any context checked out on the core that holds its ingots. -/
def State.visit (s : State) (uid : Nat) (c : Context) : State :=
  { s with live := c, issue := c, uid := uid, core := c.id.core, verdict := .idle, beside := none }

/-- The live context goes back to the list; one that no longer runs holds no core, and one that diverged from the run it replays
ends (R321, R356). -/
def State.checkin (s : State) : State :=
  let c := s.live
  let s := { s with ctxs := Tbl.put s.ctxs s.uid c, beside := none }
  if c.id.killed then s.machineEnd s.uid c 1
  else if c.id.status = .running then s
  else
    let s := match c.id.status with
      | .evicting _ _ => s.withdraw s.uid
      | _ => s
    s.mapCore s.core fun k => { k with
      cur := if k.cur = some s.uid then none else k.cur
      fetch := k.fetch.filter fun f => f.1 ≠ s.uid
      waited := 0
      source := 0 }

/-! ### Fetch (R66) -/

/-- Notes the fetch of the overlay of a bundle, for the replacement of R66. -/
def Core.touch (k : Core) (c : Context) (n : Nat) : Core :=
  let mark (o : Overlay) : Overlay := if o.hash = c.id.hash ∧ o.index = c.flow.pc.toNat / 256 then { o with used := n } else o
  { k with overlays := k.overlays.map mark }

/-! ### Decode (R108, R139, R311, R312) -/

/-- Slot word n of a bundle. -/
def slotWord (x : BitVec 256) (n : Nat) : Nat := (x.extractLsb' (32 * n) 32).toNat

/-- The reason of R309 for what a decoder refuses. -/
def Reject.reason : Reject → Nat
  | .opcode => 1
  | .reservedBit => 2
  | .tail => 3
  | .rm => 4
  | .fieldValue => 5

/-- The buffer that an ARM or ARMM names. -/
def armsBuffer : Instr → Option (BitVec 2)
  | .arm b _ _ => some b
  | .armm b _ => some b
  | _ => none

/-- Whether slot 0 transfers through a buffer that slot 2 arms (R123, R312). -/
def txArms (w0 : Nat) (i2 : Except Reject Instr) : Bool :=
  match i2 with
  | .ok i => w0 / 2 ^ 28 % 2 = 1 && armsBuffer i = some (BitVec.ofNat 2 (w0 / 2 ^ 26))
  | .error _ => false

/-- The number that ILLEGAL reports beside its reason: the word, or for reason 6 the system register's number. -/
def illegalWord (reason w : Nat) : Nat := if reason = 6 then w % 4096 else w

/-- A slot's operation, or the reason of its ILLEGAL. -/
noncomputable def slotInstr (n w : Nat) : Except Nat Instr :=
  match decodeSlot n w with
  | .error r => .error (Reject.reason r)
  | .ok i => match fieldFault i with
    | some r => .error r
    | none => .ok i

/-- The operations of the last slots of a bundle, or the first slot with its reason and word. DEDUCED: in slot 0 the payload's own reason
comes before that of a transfer whose buffer slot 2 arms (log 30). -/
noncomputable def decodeFrom (x : BitVec 256) : Nat → Except (Nat × Nat × Nat) (List Instr)
  | 0 => .ok []
  | k + 1 =>
    let n := 7 - k
    let w := slotWord x n
    match slotInstr n w with
    | .error r => .error (n, r, illegalWord r w)
    | .ok i =>
      if n = 0 && txArms w (decodeSlot 2 (slotWord x 2)) then .error (0, 3, w)
      else match decodeFrom x k with
        | .ok is => .ok (i :: is)
        | .error e => .error e

/-- The lowest slot with an unassigned opcode, which ILLEGAL names before any other fault of the bundle (R139). -/
noncomputable def unassignedSlot (x : BitVec 256) : Option Nat := (List.range 8).find? fun n => match decodeSlot n (slotWord x n) with
  | .error .opcode => true
  | _ => false

/-- The operations of a bundle, or the slot that ILLEGAL names with its reason and word (R139, R304, R311). -/
noncomputable def decodeBundle (x : BitVec 256) : Except (Nat × Nat × Nat) (List Instr) :=
  match unassignedSlot x with
  | some n => .error (n, 1, slotWord x n)
  | none => decodeFrom x 8

/-! ### Issue (R22, R110, R304) -/

/-- Whether a stall source may park (R22). -/
def mayPark (source : Nat) : Bool := [1, 3, 4, 5, 7, 8, 11].contains source

/-- What an attempt to issue comes to. -/
inductive Attempt where
  /-- A trap has been taken and the bundle has not issued. -/
  | trapped (s : State)
  | waits (source : Nat) (s : State)
  /-- Every operation has performed; the end of the bundle is still to come. -/
  | issued (x : BitVec 256) (s : State)
  /-- A step of the machine that is no step of this context. -/
  | ends (o : Out)

/-- The wait on a DRAINW of the bundle before: stall source 7 (R146). -/
def Context.drainWait (c : Context) : Option Nat :=
  match c.flow.drain with
  | some w => if c.wdc.ult w then some 7 else none
  | none => none

/-- Whether a late result of the context is due before its next bundle can issue: a DIV or REM within 34 bundles (R164), stall source 10. -/
def Context.overdue (c : Context) : Bool := c.mem.divs.any fun d => d.bclk.toNat + 34 ≤ c.flow.bclk.toNat

/-- The results of the operations, each from the same state. -/
def outcomes (s : State) (ops : List Instr) : List Out := ops.map fun i => exec i s

/-- The first result whose verdict is a trap of a stage. -/
def firstTrap (stage : Nat) : List Out → Option State
  | [] => none
  | .next s :: t => if s.verdict = .trapped stage then some s else firstTrap stage t
  | _ :: t => firstTrap stage t

/-- The stall sources of the results, in slot order. -/
def waitsOf : List Out → List Nat
  | [] => []
  | .next s :: t => match s.verdict with
    | .waits n => n :: waitsOf t
    | _ => waitsOf t
  | _ :: t => waitsOf t

/-- The source to name among several: one that may park, if there is one (R22). -/
def stallOf (xs : List Nat) : Option Nat := (xs.find? mayPark).orElse fun _ => xs.head?

/-- A wait changes nothing, except that an arrival at a barrier and the device's own page request count when nothing else
waits. -/
def waitState (s : State) (outs : List Out) (waits : List Nat) : State :=
  match outs with
  | .next t :: _ => match t.verdict with
    | .waits _ => if waits.length ≤ 1 then t else s
    | _ => s
  | _ => s

/-- The operations perform one after another on the same sources, slot 0 last (R110, R250). -/
def performAll (s : State) : List Instr → Out
  | [] => .next s
  | i :: t => match exec i { s with verdict := .idle } with
    | .next s' => match s'.verdict with
      | .trapped _ | .waits _ => .next s'
      | _ => performAll s' t
    | o => o

/-- Issues the operations of a bundle, or waits, or traps (R304). -/
def State.issueOps (s : State) (x : BitVec 256) (ops : List Instr) : Attempt :=
  let outs := outcomes s ops
  match firstTrap 2 outs with
  | some t => .trapped t
  | none =>
    let waits := waitsOf outs ++ s.issue.drainWait.toList ++ if s.issue.overdue then [10] else []
    match stallOf waits with
    | some src => .waits src (waitState s outs waits)
    | none => match firstTrap 4 outs with
      | some t => .trapped t
      | none => match performAll s (ops.drop 1 ++ ops.take 1) with
        | .next t => match t.verdict with
          | .trapped _ => .trapped t
          | .waits src => .waits src s
          | _ => .issued x t
        | o => .ends o

/-- The breakpoint that the next bundle hits, the lowest of several (R298). -/
def Context.breakpoint (c : Context) : Option Nat :=
  (List.range 4).find? fun i =>
    let b := Tbl.get 0 c.dbg.bk i
    bitOf b 63 && b.extractLsb' 32 16 = c.id.obj && b.extractLsb' 0 32 = c.flow.pc

/-- Whether a breakpoint hits now. -/
def State.hits (s : State) (c : Context) : Option Nat :=
  if bitOf c.dbg.dctl 3 && s.traces? c && !c.flow.exempt then c.breakpoint else none

/-- A breakpoint: a stop for the debugger, or BREAK (R294, R298, R324). -/
def State.takeBreak (s : State) (i : Nat) : State :=
  if bitOf s.live.dbg.dctl 0 then
    let t := s.checkin.stopCtx s.uid 2 i 0 s.live.flow.pc
    { t with live := (t.ctx? s.uid).getD s.live }
  else { s with live := s.live.takeTrap s.core s.mcc (progCause 0x29 0 s.live.flow.pc 0) (.at_ s.live.flow.pc) }

/-- A fetch fault of the live context. -/
def State.faultFetch (s : State) (code reason : Byte) (va : W64) : State :=
  let c := s.live
  ({ s with live := c.fetchFault s.core s.mcc code reason (s.fetchTinfo c code reason) va }).mapCore s.core fun k => k.dropFetch s.uid c code

/-- A fetch fault that other causes of its boundary outrank is held with the rest (R324); one that stands where a stop is to come is taken first
(R306, R332). -/
def State.holdFetch (s : State) (stops : Bool) : State :=
  if s.live.flow.causes.isEmpty && !stops then s
  else
    let (s, c) := s.withFetch s.uid s.live
    { s with live := c }

/-- A missing overlay: its load begins, or goes on, or has failed. -/
def State.awaitOverlay (s : State) : Attempt :=
  let c := s.live
  let i := c.flow.pc.toNat / 256
  match (s.coreOf s.core).fetch.find? fun f => f.1 = s.uid && f.2.1 = i with
  | some (_, _, .failed code reason) => .trapped (s.faultFetch code reason (c.bundleVa))
  | some _ => .waits 8 s
  | none => .waits 8 (s.mapCore s.core fun k => { k with fetch := (k.fetch.filter fun f => f.1 ≠ s.uid) ++ [(s.uid, i, .waiting)] })

/-- The slice begins with the bundle that is to issue now, whose cycle counts (R27). -/
def Budget.start (b : Budget) (mcc : W64) : Budget :=
  if b.started then b else { b with started := true, sliceStart := mcc, reloaded := false }

/-- The operand slot that an ACC, ACCZ or LDW of a bundle reads from its issue on (R239). -/
def slotRead : List Instr → Option Nat
  | [] => none
  | .acc _ o _ _ :: _ => some o.toNat
  | .accz _ o _ _ :: _ => some o.toNat
  | .ldw _ o _ :: _ => some o.toNat
  | _ :: t => slotRead t

/-- An attempt to issue the next bundle of the context checked out. -/
noncomputable def State.attempt (s : State) : Attempt :=
  let c := s.live
  if c.flow.barrier = .issued then .waits 5 s
  else match s.hits c with
    | some i => .trapped (s.takeBreak i)
    | none => match (s.coreOf s.core).lookup c with
      | .outside => .trapped (s.faultFetch 0x21 1 0)
      | .absent => s.awaitOverlay
      | .poisoned => .trapped (s.faultFetch 0x30 3 (c.bundleVa))
      | .bundle x =>
        let c := { c with budget := c.budget.start s.mcc }
        let s := ({ s with live := c, issue := c } : State).mapCore s.core fun k => k.touch c s.tick
        match decodeBundle x with
        | .error (n, r, w) => match execUnassignedEncoding (BitVec.ofNat 3 n) (BitVec.ofNat 8 r) (BitVec.ofNat 32 w) s with
          | .next t => .trapped t
          | o => .ends o
        | .ok ops => ({ s with beside := slotRead ops } : State).issueOps x ops

/-! ### The end of a bundle -/

/-- Leaves every level whose body does not hold a target (R130). -/
def Flow.leaveLoops (f : Flow) (target : W32) : Flow :=
  let leave (e : Nat × Loop) : Nat × Loop :=
    if e.2.active && !(e.2.start.ule target && target.ule e.2.last) then (e.1, { e.2 with active := false }) else e
  { f with loops := f.loops.map leave }

/-- The deltas of a loop-back (R129). -/
def Regs.addDeltas (g : Regs) (deltas : Tbl W32) : Regs :=
  deltas.foldl (fun g d => g.writeA (BitVec.ofNat 5 d.1) (g.readA (BitVec.ofNat 5 d.1) + sext64 d.2)) g

/-- The loops that end with a bundle, from level n - 1 down: registers, levels, and the bundle looped back to (R129). -/
def Context.stepLoops (c : Context) (pc : W32) : Nat → Context × Option W32
  | 0 => (c, none)
  | n + 1 =>
    let l := Tbl.get Loop.none c.flow.loops n
    let put (l : Loop) : Context := { c with flow := { c.flow with loops := Tbl.put c.flow.loops n l } }
    if l.active && l.last = pc then
      if 1 < l.count.toNat then
        let c := put { l with count := l.count - 1 }
        ({ c with regs := c.regs.addDeltas l.delta }, some l.start)
      else (put { l with active := false }).stepLoops pc n
    else c.stepLoops pc n

/-- Where the context continues after its bundle (R125, R128 to R130). -/
def Context.moveOn (c : Context) : Context :=
  let f := c.flow
  let go (c : Context) (next : W32) (tx looped : Bool) : Context := { c with flow := { c.flow with
    pc := next
    last := some f.pc
    lastTx := tx
    lastLoop := looped
    exempt := false } }
  match f.tail.taken, f.tail.skip with
  | some t, _ => go { c with flow := f.leaveLoops t } t true false
  | none, some t => go { c with flow := f.leaveLoops t } t false false
  | none, none => match c.stepLoops f.pc 4 with
    | (c, some t) => go c t false true
    | (c, none) => go c (f.pc + 1) false false

/-- A stop learns the next bundle (R148). -/
def Stop.filled : Stop → W32 → Stop
  | .susp d q _, n => .susp d q n
  | .qwait b _, n => .qwait b n
  | st, _ => st

/-- Whether a relational or assign form of the bundle itself has failed: no propagation starts from it (R166, R175). -/
def ownFailure (old new : List Cause) : Bool := (new.drop old.length).any fun x => x.slot = 1 && (x.code = 0x01 || x.code = 0x05)

/-- The registers narrowed at this point make a propagation due; in the handler, and where the bundle itself has failed, their relations join the queue
that is kept (R166, R169, R171). -/
def Context.startWakes (c : Context) (failed : Bool) : Context :=
  { c with swage := if c.trap.handler || failed then c.swage.wakeUp else c.swage.begin }

/-- The counter is loaded again after a yield bundle has issued (R27); the slice ends only if the core switches (R28). -/
def Budget.yielded (b : Budget) : Budget := { b with counter := b.declared, spent := false, reloaded := true }

/-- The effects that come with the end of the bundle: clock, array, results due, where to go on, stops, wakes, RFT. -/
def Context.finish (c : Context) (k : Core) (core : Nat) (mcc : W64) : Context :=
  let old := c.flow.causes
  let tail := c.flow.tail
  let back := c.rftPoint
  let c := (c.anvilStep k).landPoint mcc
  let failed := ownFailure old c.flow.causes
  let c := { c with flow := { c.flow with bclk := c.flow.bclk + 1 } }
  let c := c.moveOn
  let yields := tail.yield && tail.stop = .none
  let c := { c with
    budget := if yields then c.budget.yielded else c.budget
    flow := { c.flow with
      stop := tail.stop.filled c.flow.pc
      drain := if tail.drainw then some c.sys.wic else none
      barrier := c.flow.barrier
      tail := { Tail.none with yield := yields } } }
  let c := c.startWakes failed
  if tail.rft then c.returnFromTrap core mcc back else c

/-! ### Trace of a bundle (R300 to R302) -/

/-- The BUNDLE record. DESIGN CHOICE: the previous issue is the last of the core, whichever context it was of (R300, log 180),
and the count is 0 for two bundles in one cycle of MCC at boost (log 206). -/
def bundleRecord (core : Nat) (old new : Context) (k : Core) (mcc : W64) : BitVec 512 :=
  let gap := (mcc - k.lastIssue).toNat - 1
  let x := traceHead 2 0 core old mcc old.flow.pc old.flow.bclk
  let x := recSet x 40 64 gap
  let x := recSet x 48 8 k.source
  recSet x 49 8 (if new.flow.lastTx then 1 else 0)

/-- The history keeps the last 64 records (R301). -/
def keepHistory (xs : List (BitVec 512)) (x : BitVec 512) : List (BitVec 512) :=
  let ys := xs ++ [x]
  ys.drop (ys.length - 64)

/-- Writes the BUNDLE record where tracing asks for it. -/
def State.traceBundle (s : State) (x : BitVec 512) : State :=
  let old := s.issue.dbg
  let on := bitOf old.dctl 7 || decide (0 < old.detail)
  let s := if on then s.traceOf s.core s.live x else s
  s.mapLive fun c => { c with dbg := { c.dbg with
    hist := keepHistory c.dbg.hist x
    detail := c.dbg.detail - 1 } }

/-- How many bundles after its issue an operation of slot n may still run on the bundle clock (R119). -/
def sampleDue (i : Instr) : Nat :=
  match i with
  | .acc n _ _ _ => n.toNat + 130
  | .accz n _ _ _ => n.toNat + 130
  | .drain n _ _ _ _ => n.toNat + 12
  | .drainF32 n _ _ => n.toNat + 12
  | .ldw n _ _ => n.toNat + 1
  | _ => 1

/-- Whether an operation is a NOP of its slot. -/
def isNop : Instr → Bool
  | .nopCtl _ _ _ _ => true
  | .nopInt => true
  | .nopAdr => true
  | .nopVec => true
  | .nopIvl => true
  | .nopMem => true
  | .nopMtx => true
  | .nopCpy => true
  | _ => false

/-- The tag of a sampled bundle (R302). -/
def bundleTag (core : Nat) (c : Context) (mcc : W64) (ops : List Instr) : Tag :=
  let named := ((List.range 8).zip ops).filter fun o => !isNop o.2
  { head := traceHead 3 0 core c mcc c.flow.pc c.flow.bclk, bclk := c.flow.bclk, at_ := mcc,
    wait := named.map fun o => (o.1, c.flow.bclk.toNat + sampleDue o.2), times := [] }

/-- Counts a bundle toward the next sample and tags it when its turn has come. -/
def State.sample (s : State) (ops : List Instr) : State :=
  let d := s.live.dbg
  if !(bitOf d.dctl 8 && s.traces? s.live) then s
  else if d.count < d.speriod.toNat then s.mapLive fun c => { c with dbg := { c.dbg with count := c.dbg.count + 1 } }
  else s.mapLive fun c => { c with dbg := { c.dbg with count := 0, tags := c.dbg.tags ++ [bundleTag s.core s.issue s.mcc ops] } }

/-! ### The boundary -/

/-- The entry or resident that is ready and ranks strictly earlier than a context on its core (R28). -/
def State.outranked (s : State) (c : Context) : Option Ranked :=
  (firstRanked (s.ownOf c.id.core)).filter fun x => s.finiteFirst c.id.core x &&
    rankLess x.deadline x.ticket c.id.deadline c.id.ticket

/-- Whether the core's cycle after a bundle has come, in which a yield is reported (R28). -/
def Core.reports (k : Core) (mcc : W64) : Bool := k.lastIssue ≠ mcc || decide (10 ≤ k.credit)

/-- A yield: the core switches to an earlier-ranked entry or resident in one step with its report, or the slice goes on (R28). -/
def State.yieldNow (s : State) : State :=
  let c := { s.live with flow := { s.live.flow with tail := Tail.none } }
  let away : State := ({ s with live := { c with id := { c.id with status := .ready }, budget := { c.budget with started := false } } }).checkin
  match away.outranked c with
  | none => { s with live := c }
  | some x => match away.give s.core x with
    | none => { s with live := c }
    | some t => { t with live := (t.ctx? s.uid).getD away.live }

/-- A stop that the debugger asked for, or that a step or a watchpoint asks for (R295, R297, R299). -/
def State.debugStop (s : State) : State :=
  match s.live.stopNext with
  | none => s
  | some (reason, index, slot, off) =>
    let t := s.checkin.stopCtx s.uid reason index slot off
    { t with live := (t.ctx? s.uid).getD s.live }

/-- The bundle that a core is to issue is another one: its wait begins at zero (R22). -/
def Core.afresh (k : Core) : Core := { k with waited := 0, source := 0 }

/-- The causes that stand at the boundary are taken; the handler's first bundle waits from zero (R22, R306). -/
def State.takeNow (s : State) : State :=
  if s.live.flow.causes.isEmpty then s
  else ({ s with live := s.live.takeCauses s.core s.mcc } : State).mapCore s.core Core.afresh

/-- What stands at the boundary when no propagation is in course: a trap, that of an overrun slice among them (R306, R319), then a stop for
the debugger, then a yield; nothing of a run that has diverged, which ends (R356). -/
def State.boundary (s : State) : State :=
  if s.live.swage.busy || s.live.id.killed then s
  else
    let s := (({ s with live := if s.live.overrunDue then s.live.overrun else s.live } : State).holdFetch s.live.stopsNow).takeNow
    if s.live.id.status ≠ .running then s
    else if s.live.stopsNow then s.debugStop
    else if s.live.flow.tail.yield && (s.coreOf s.core).reports s.mcc then s.yieldNow
    else s

/-- Fences that have nothing to hold go at the end of the bundle; one of the bundle that finds no earlier read out acquires, and ends the use of
held copies (R225, R262). -/
def State.sweepEnd (s : State) : State :=
  let s := if s.live.mem.acquires fun id => decide (s.issue.mem.nextId ≤ id) then s.dropCopies else s
  s.mapLive fun c => { c with mem := c.mem.sweepFences }

/-- A borrow is one step with the rise of MYW (R45); one behind an earlier Hearth operation of its context is performed after it (R151), and nothing
reads the new MYW before that (log 165). -/
def State.borrowNow (s : State) : State :=
  let first := s.live.mem.hearth.takeWhile fun h => !h.op.toHearth
  match s.live.mem.hearth.drop first.length with
  | ⟨_, .borrow block m _⟩ :: t => (s.borrowInto block.toNat m).mapLive fun c => { c with mem := { c.mem with hearth := first ++ t } }
  | _ => s

/-- The end of the bundle that has just issued. -/
def State.endBundle (s : State) (ops : List Instr) : State :=
  let k := s.coreOf s.core
  let push := s.live.flow.tail.push
  let s := s.sample ops
  let s := s.mapLive fun c => c.finish k s.core s.mcc
  let s := match push with
    | some p => s.offerPush s.uid s.live s.issue.mem.hearth.length p
    | none => s
  let s := s.sweepEnd.borrowNow
  let s := s.traceBundle (bundleRecord s.core s.issue s.live k s.mcc)
  let s := s.mapLive fun c => s.tagStep s.uid c
  let step := bitOf s.live.dbg.dctl 5 && bitOf s.live.dbg.dctl 0 && s.traces? s.live
  let s := if step then s.mapLive fun c => { c with dbg := { c.dbg with pend := c.dbg.pend ++ [(4, 0, 0, 0, c.flow.lastOff)] } } else s
  let s := s.mapCore s.core fun k => { k with
    waited := 0
    source := 0
    lastIssue := s.mcc
    credit := k.credit - 10
    fetch := k.fetch.filter fun f => f.1 ≠ s.uid }
  s.boundary

/-! ### Propagation (R169, R171) -/

/-- The propagation that is due begins: the relations that name a register narrowed at this point join the queue in ascending order, and PUSED counts
from 0; with none to wake it ends at once, and in handler mode the queue is kept (R169, R171). -/
def Context.beginWakes (c : Context) : Context :=
  let w := c.swage.wakeUp
  { c with swage := if c.trap.handler then { w with busy := false } else { w with pused := 0, begun := true, busy := !w.queue.isEmpty } }

/-- One wake of the propagation in course. -/
def Context.wakeOne (c : Context) : Context :=
  let w := c.swage
  let done (c : Context) : Context := { c with swage := { c.swage with busy := false } }
  match w.queue with
  | [] => done c
  | j :: q =>
    let off := c.flow.lastOff
    let cause := causeAt c.flow.bclk
    if c.sys.pbudget.toNat ≤ w.pused then done (c.blame (cause 0x03 1 off (BitVec.ofNat 64 (j * 65536))))
    else match w.store[j]? with
      | none => { c with swage := { w with queue := q } }
      | some rel => match rel.apply c.regs.readK with
        | .error r => done ({ c with swage := { w with queue := [], pused := w.pused + 1 } }.blame (cause 0x01 1 off (failInfo j r)))
        | .ok ws => match c.narrow ws with
          | .error r => done (c.blame (cause 0x05 1 off (BitVec.ofNat 64 (j * 65536) ||| regInfo .k r.toNat)))
          | .ok c' =>
            let w' := ({ c'.swage with queue := q, pused := w.pused + 1 } : Swage).wakeUp
            { c' with swage := if w'.queue.isEmpty then { w' with busy := false } else w' }

/-! ### QWAIT acts (R47, R148, R153) -/

/-- The context suspends in QWAIT: its weight goes back and it registers with the block, in program order and through the gate; a replay that
diverges there keeps its account for the end of its run (R356). -/
def Context.suspend (c : Context) (base : Nat) (block waiter : W64) : Context :=
  let home : Option W64 := if c.inDomain then some c.home? else none
  let w := c.sys.myw
  let c := c.pass { kind := kQwait, target := block.toNat } (fun c => c.send (.qwait home w block c.sys.wic waiter)) fun c => c
  if c.id.killed then c
  else
    let c := { c with sys := { c.sys with myw := 0 } }
    let r := c.resumeRecord base
    { c with
      id := { c.id with status := .qwait, atQwait := true, marked := true }
      budget := { c.budget with mark := false, started := false }
      run := { c.run.closed r with home := c.homeNow } }

/-- QWAIT acts: the record is written to the save slot once it can be reached. -/
def State.actQwait (s : State) (block : W64) : State :=
  let c := s.live
  let base := s.recordAddr c
  match s.reachPages (c.asks s.uid) .write [base] with
  | (s, .wait) => s
  | (s, .fail code reason unit va) =>
    let t := s.checkin.haltUnsaved s.uid 3 code reason unit va c
    { t with live := (t.ctx? s.uid).getD s.live }
  | (s, .at_ keys) =>
    let c' := c.suspend base block (s.waiterWord c)
    let s := { s with live := c' }
    if c'.id.killed then s else s.storeBlock (keys.headD 0) c'.run.record

/-! ### One move of a core -/

/-- Whether the restart cycle of a context's barrier has come: the restart comes first, and every member issues on that cycle (R41). -/
def State.restartDue (s : State) (c : Context) : Bool :=
  match (c.id.gang.bind fun g => Tbl.find s.gangs g).bind (·.restart) with
  | some t => !s.mcc.ult t
  | none => false

/-- A wait counts toward parking once in a cycle (R22). -/
def Core.wait (k : Core) (source : Nat) : Core :=
  { k with waited := if mayPark source then k.waited + 1 else 0, source := source, credit := 0 }

/-- Whether the next bundle waits on a source that may park (R22). -/
noncomputable def State.waitsParked (s : State) : Bool := match s.attempt with
  | .waits src _ => mayPark src
  | _ => false

/-- A cycle of a core that a wake takes: it counts toward parking where the bundle that waits has a source that may park beside it (R22). -/
def Core.wakes (k : Core) (parks : Bool) : Core := { k with waited := if parks then k.waited + 1 else 0, source := 2 }

/-- The outcome of an attempt to issue. -/
noncomputable def State.afterAttempt (s : State) : Out :=
  let s := s.mapCore s.core fun k => { k with tried := some s.mcc }
  match s.attempt with
  | .trapped t =>
    let t := t.mapLive fun c => { c with budget := s.live.budget }
    .next (t.checkin.mapCore s.core Core.afresh)
  | .waits src t =>
    let t := t.mapLive fun c => { c with budget := s.live.budget }
    .next (t.checkin.mapCore s.core fun k => k.wait src)
  | .issued x t => match decodeBundle x with
    | .ok ops => .next (t.endBundle ops).checkin
    | .error _ => .next t.checkin
  | .ends o => o

/-- One move of a core: the beginning of a propagation that is due, a wake of the one in course, or the PBUDGET or the stop that ends it, one in a cycle at any clock (R169, log 25), the causes and stops that stand at the boundary, a QWAIT that acts, or
an attempt to issue. -/
noncomputable def State.coreMove (s : State) (n : Nat) : Out :=
  match s.checkout n with
  | none => .refused .notPending
  | some s =>
    let c := s.live
    let k := s.coreOf n
    if c.id.status ≠ .running then .refused .notPending
    else if c.swage.busy && c.stopsNow then .next s.debugStop.checkin
    else if c.swage.busy && (!c.swage.begun || c.trap.handler) then .next (s.mapLive Context.beginWakes).boundary.checkin
    else if c.swage.busy then
      if k.credit < 10 then .refused .notPending
      else
        let t := (s.mapCore n fun k => k.wakes s.waitsParked).mapLive Context.wakeOne
        .next (t.boundary.checkin.mapCore n fun k => { k with credit := 0 })
    else if !c.flow.causes.isEmpty || c.stopsNow || (c.flow.tail.yield && k.reports s.mcc) then .next s.boundary.checkin
    else if c.flow.tail.yield then .refused .notPending
    else match c.flow.stop with
      | .qwait block _ => if k.credit < 10 ∨ c.budget.spent then .refused .notPending
        else .next ((s.actQwait block).checkin.mapCore n fun k => { k with credit := 0 })
      | .ending | .susp _ _ _ => .refused .notPending
      | .none =>
        if k.credit < 10 ∨ k.switch ≠ 0 ∨ c.budget.spent ∨ s.restartDue c then .refused .notPending else s.afterAttempt

/-! ### Contexts that parked (R22, R332) -/

/-- Whether the condition that a parked context waits for has cleared. -/
noncomputable def State.unparks (s : State) (uid : Nat) (c : Context) : Bool :=
  !c.flow.causes.isEmpty || !c.dbg.pend.isEmpty || match (s.visit uid c).attempt with
    | .waits src _ => !mayPark src
    | _ => true

/-- A parked context becomes ready when its condition has cleared. -/
noncomputable def State.unpark (s : State) (e : Nat × Context) : State :=
  if e.2.id.status = .parked && s.unparks e.1 e.2 then s.mapCtx e.1 fun c => { c with id := { c.id with status := .ready } } else s

/-- Looks at every parked context. -/
noncomputable def State.unparkAll (s : State) : State := s.ctxs.foldl (fun s e => s.unpark e) s

end Sys2Proof.Machine
end

