-- ==== Sys2Proof/Machine/Moves.lean ====
section
/-! DEFINITION. The moves of the package: the cycle of MCC (R12, R14, R22, R27), the moves that can come next, the choice among them
(a script that the run carries, or Config's free choice), what follows a move, and an instruction placed to run. -/

namespace Sys2Proof.Machine

/-! ### One MCC cycle -/

/-- Bundle issues per MCC cycle in tenths: 1.0 GHz nominal, 1.1 GHz, 1.2 GHz boosted (R14, R289). -/
def clockRate (k : Cluster) : Nat := if k.clock = 2 then 12 else if k.clock = 1 then 11 else 10

/-- What a cycle brings a core: issue credit, and a cycle less of the switch in course (R14, R18). -/
def Core.cycle (k : Core) (rate : Nat) : Core := { k with credit := min 9 k.credit + rate, switch := k.switch - 1 }

/-- The slice counter steps at each cycle of the slice, stalled or not; one that was loaded again at the end of a bundle of this cycle counts from the
next on (R27, R143). -/
def Budget.cycle (b : Budget) : Budget :=
  if !b.started || b.spent then b
  else if b.reloaded then { b with reloaded := false }
  else if b.counter.toNat ≤ 1 then { b with counter := 0, spent := true }
  else { b with counter := b.counter - 1 }

/-- A slice pauses while its context is stopped for the debugger (R295). -/
def Budget.pause (b : Budget) : Budget := if b.started then { b with sliceStart := b.sliceStart + 1 } else b

/-- What a cycle brings a context; the cycles of a switch to it do not count (R27). -/
def Context.cycle (c : Context) (switching : Bool) : Context :=
  match c.id.status with
  | .running => if c.sliceOver || switching then c else { c with budget := c.budget.cycle }
  | .stopped => { c with budget := c.budget.pause }
  | _ => c

/-- One MCC cycle (R12). -/
def State.cycle (s : State) : State :=
  { s with
    mcc := s.mcc + 1
    cores := s.cores.map fun k => (k.1, k.2.cycle (clockRate (s.clusterOf (clusterOfCore k.1))))
    ctxs := s.ctxs.map fun c => (c.1, c.2.cycle (decide ((s.coreOf c.2.id.core).switch ≠ 0))) }

/-- The largest number of distinct bank words that the lanes touch in one bank (R220). -/
def Scatter.depth (x : Scatter) : Nat :=
  let words := (x.offs.map fun o => o / 64).eraseDups
  (words.map fun w => (words.filter fun v => v % 64 = w % 64).length).foldl max 1

/-- Whether an LDS.VX or STS.VX has used up its cycles (R220). -/
def Scatter.due (x : Scatter) (mcc : W64) : Bool := decide (x.at_.toNat + 8 + 2 * (x.depth - 1) ≤ mcc.toNat)

/-- Whether a scatter of a context must complete before time passes. -/
def Context.scatterDue (c : Context) (mcc : W64) : Bool := c.awake && c.mem.scats.any fun x => x.due mcc && !x.failed

/-- Whether a barrier's restart cycle has come (R41). -/
def Gang.restartDue (k : Gang) (mcc : W64) : Bool :=
  match k.restart with
  | some t => !mcc.ult t
  | none => false

/-- Whether a core has a move to make in this cycle. -/
noncomputable def State.coreMoves (s : State) (n : Nat) : Bool :=
  match s.coreMove n with
  | .refused _ => false
  | _ => true

/-- Whether a core's context must park or take BUDGETOVR before time passes (R22, R319). -/
def State.coreDue (s : State) (n : Nat) : Bool :=
  s.parkDue n || match (s.coreOf n).cur.bind s.ctx? with
    | some c => c.overrunDue
    | none => false

/-- Whether time may pass: everything that the manual puts at a cycle of its own has happened. -/
noncomputable def State.timePasses (s : State) : Bool :=
  !(s.temperDue || s.cores.any (fun k => s.coreDue k.1) || s.gangs.any (fun k => k.2.restartDue s.mcc) || s.ctxs.any (fun c => c.2.scatterDue s.mcc) ||
    s.clusters.any (fun k => decide (k.2.clock = 1 ∧ k.2.stepLeft = 0)) || s.cores.any fun k => s.coreMoves k.1)

/-! ### What can come next -/

/-- The events of a context's own work in flight. -/
noncomputable def Context.events (uid : Nat) (c : Context) : List Instr :=
  (c.mem.outs.map fun a => Instr.loadLanding uid a.id) ++ (c.mem.outs.map fun a => Instr.writeDrained uid a.id) ++
    (c.mem.divs.map fun d => Instr.divRemWrite uid d.id) ++ (c.mem.scats.map fun x => Instr.scatterGatherDone uid x.id) ++
    (c.mem.copies.flatMap fun x => x.left.map fun k => Instr.copySectorLands uid x.id k) ++
    (c.mem.gathers.map fun g => Instr.gatherRowLands uid g.id) ++
    [.enginesEmpty uid, .spawnAcceptance uid, .hearthQnew uid, .hearthBorrow uid, .hearthReturn uid, .hearthQwait uid, .sampleRecord uid,
      .evictionCompletes uid, .imageRestored uid]

/-- The events of a core that holds something. -/
noncomputable def State.coreEvents (s : State) (n : Nat) : List Instr :=
  let ahead := match (s.coreOf n).cur.bind s.ctx? with
    | some c => c.prefetches
    | none => []
  [.overlayLoaded n, .park n, .budgetovr n, .preemptHalt n] ++ ahead.map fun i => Instr.overlayPrefetch n i

/-- The events of a cluster's queues. -/
noncomputable def clusterEvents (g : Nat) : List Instr :=
  (List.range 64).flatMap fun q => [Instr.gangDispatch g q, Instr.queueDelivery g q, Instr.entryReturn g q]

/-- Every event that the package makes of itself. Those that come from outside (the host, the debugger, peers, page responses, errors)
come by the script alone. -/
noncomputable def State.events (s : State) : List Instr :=
  (s.ctxs.flatMap fun e => e.2.events e.1) ++ (s.needs.map fun n => Instr.pageWalk n.agent.pasid (BitVec.ofNat 57 n.va) n.kind) ++
    (s.cores.flatMap fun k => s.coreEvents k.1) ++ (s.gangs.map fun k => Instr.barrierRestart k.1) ++
    (s.clusters.flatMap fun k => clusterEvents k.1 ++ [Instr.boostStep k.1]) ++ ((List.range 1024).map fun n => Instr.dispatch n) ++
    [.preemptCompletion, .temperTick, .boot]

/-- Whether an event has its occasion. -/
def State.pending (s : State) (i : Instr) : Bool :=
  match exec i s with
  | .refused _ => false
  | _ => true

/-- One move of the model. -/
inductive Next where
  | core (n : Nat)
  | event (i : Instr)
  | input (n : Nat)
  | record (n : Nat)
  | flaw (x : Flaw)
  | tick

/-- The window writes that wait and are first of their port and cluster (R29), while the device takes any (R348). -/
def State.readyInputs (s : State) : List Nat :=
  if !s.takesHost then []
  else (List.range s.inputs.length).filter fun n => match s.inputs[n]? with
    | some i => !({ s with inputs := s.inputs.take n } : State).windowBehind i.1 i.2.1
    | none => false

/-- The moves that can come next. -/
noncomputable def State.moves (s : State) : List Next :=
  ((s.cores.filter fun k => s.coreMoves k.1).map fun k => Next.core k.1) ++ (s.readyInputs.map .input) ++
    ((s.events.filter s.pending).map .event) ++
    ((s.cores.filter fun k => !k.2.trace.isEmpty).map fun k => Next.record k.1) ++ (if s.timePasses then [.tick] else [])

/-- A window write that waited is looked at again. -/
def State.retryInput (s : State) (n : Nat) : State :=
  match s.inputs[n]? with
  | some i => if !s.takesHost then s else ({ s with inputs := s.inputs.eraseIdx n } : State).windowRecord i (i.2.1 / 64 % 1024) (BitVec.ofNat 512 (leNat i.2.2))
  | none => s

/-- Makes a move. -/
noncomputable def State.make (s : State) : Next → Out
  | .core n => s.coreMove n
  | .event i => exec i s
  | .input n => .next (s.retryInput n)
  | .record n => .next (s.recordEnters n)
  | .flaw x => .next (s.flaw x)
  | .tick => .next s.cycle

/-- The move that the free choice takes; with none to take, time passes. -/
noncomputable def State.chosen (s : State) : Next :=
  match s.moves with
  | [] => .tick
  | [m] => m
  | ms => ms.getD (Config.choice s.tick % ms.length) .tick

/-- What the script says. -/
def Move.toNext : Move → Next
  | .core n => .core n
  | .event i => .event i
  | .record n => .record n
  | .flaw x => .flaw x
  | .tick => .tick

/-- A move of the script: one that has no occasion is passed over. -/
noncomputable def State.scripted (s : State) (m : Move) : Out :=
  if m = .tick ∧ !s.timePasses then .next s
  else match s.make m.toNext with
    | .refused _ => .next s
    | o => o

/-- What follows a move: parked contexts whose condition has cleared become ready (R22), those that a PREEMPT covers go (R49), page
requests that nothing walks on, and what concerns a read that is over, are forgotten (R325, R331), and the mailbox goes on (R281). -/
noncomputable def State.afterMove (s : State) : State := State.runMail 64 ({ s with tick := s.tick + 1 } : State).unparkAll.evictCovered.sweepAnswered.sweepReaders

/-- The next move of the package: the head of the script, or the free choice. -/
noncomputable def State.advance (s : State) : Out :=
  let o := match s.script with
    | m :: t => ({ s with script := t } : State).scripted m
    | [] => s.make s.chosen
  match o with
  | .next s => .next s.afterMove
  | o => o

/-! ### An instruction placed to run -/

/-- A bundle that holds a word in one slot and NOPs in the others. -/
def bundleWith (slot w : Nat) : BitVec 256 := BitVec.ofNat 256 (w % 2 ^ 32 * 2 ^ (32 * slot))

/-- A context that starts at a fresh start, on core 0, with 16 ingots: 1 for registers, 4 for accumulators, 2 for the trail. -/
def placedContext : Context :=
  { Context.fresh with id := { Ident.fresh with clen := 65536, share := 16, part := 0x00020401 } }

/-- Core 0 runs it, and its overlay 0 is resident with the bundle. -/
def placedCore (x : BitVec 256) : Core :=
  { Core.fresh with
    cur := some 1
    credit := 10
    overlays := [{ hash := 0, index := 0, code := Tbl.set 0 [] 0 x, poison := [], used := 0 }] }

/-- The state in which the next step issues one bundle of a fresh context on core 0. -/
def State.place (s : State) (x : BitVec 256) : State :=
  { s with
    script := [.core 0]
    nextUid := 2
    ctxs := Tbl.put s.ctxs 1 placedContext
    cores := Tbl.put s.cores 0 (placedCore x)
    mail := { s.mail with booted := true } }

end Sys2Proof.Machine
end

