-- ==== Sys2Proof/Machine/Step.lean ====
section
/-! DEFINITION. One step of the package, and an instruction word placed where the next step runs it. -/

namespace Sys2Proof.Machine

/-- One step: the next move of the package and what follows it. -/
noncomputable def step (s : State) : Host.Outcome State Fault Refusal := s.advance

/-- The state with an instruction word of the opcode table in its slot of a bundle of NOPs that core 0 is about to issue. -/
noncomputable def State.withFetchWord (s : State) (_ w : Nat) : State := s.place (bundleWith ((tableSlot w).getD 0) w)

end Sys2Proof.Machine
end

