-- ==== Sys2Proof/Safety.lean ====
section
/-! DEFINITION. The terms in which statements are made: an operation that performs, the state it leaves, runs of the machine, and
the invariants that every step keeps. -/

namespace Sys2Proof.Machine

/-! ### An operation that performs -/

/-- Every register of a list is full, so an operation that names it does not wait (R116, R117). -/
def State.full (s : State) (rs : List RegRef) : Bool := rs.all fun r => !s.rd.isEmpty r

/-- The state in which an operation has performed and has changed the live context alone: no register has been written, no byte of
memory, no other context, core, cluster or device register. -/
def State.performed (s : State) (f : Context → Context) : State := { s with live := f s.live, verdict := .performed }

/-- The state in which an operation whose guard selects nothing has had no effect (R114, R115). -/
def State.passed (s : State) : State := { s with verdict := .idle }

/-- The meaning of an operation that names some registers: where it executes, every register it names is full and its own checks
hold, exec answers the state t; where its guard selects nothing, it has no effect. -/
def Acts (i : Instr) (s : State) (runs : Bool) (names : List RegRef) (ok : Prop) (t : State) : Prop :=
  (runs = true → s.full names = true → ok → exec i s = .next t) ∧ (runs = false → exec i s = .next s.passed)

/-- The tail bits of a CTL word may act: with X = 1 the buffer holds a transfer that is ready, and the return stack has what the
transfer needs (R119, R124, R126). -/
def State.tailReady (s : State) (x : BitVec 1) (t : BitVec 2) : Prop :=
  x = 1 →
    let b := s.buf t
    b.st ≠ .empty ∧ 2 ≤ (s.mcc - b.at_).toNat ∧ (b.kind = .prepr → s.issue.flow.top ≠ none) ∧
      (b.kind = .prepc → b.takes = true → s.issue.flow.rstack.length < 16 ∨ s.issue.trailFree ≠ 0)

/-- The block of the context's domain, if it is in one, can be reached and holds no poison (R344, R348). -/
def State.homeSound (s : State) : Prop :=
  s.issue.inDomain = true → s.linkDown s.issue.home?.toNat = false ∧ s.isPoisoned s.issue.home?.toNat 64 = false

/-- The destination k[d] takes a result: it is full, or empty of a division by zero, which owes it none (R117, R164). -/
def State.takesK (s : State) (d : BitVec 6) : Prop := s.rd.isEmpty (kRef d) = true → s.issue.mem.owesK d.toNat = false

/-- The state in which a CTL operation and its tail bits have performed. -/
def State.performedCtl (s : State) (e y x : BitVec 1) (t : BitVec 2) (f : Context → Context) : State :=
  s.performed fun c => (f c).tailAct (s.buf t) e y x t

/-- The meaning of a CTL operation, which has no guard (R140): where the registers it names are full, its tail bits may act (with E = 1 the
block that weight goes back to is sound) and its own checks hold, exec answers the state that f and the tail bits leave. -/
def ActsCtl (i : Instr) (s : State) (e y x : BitVec 1) (t : BitVec 2) (names : List RegRef) (ok : Prop) (f : Context → Context) :
    Prop :=
  s.tailReady x t → (e = 1 → s.homeSound) → s.full names = true → ok → exec i s = .next (s.performedCtl e y x t f)

/-- The bundle traps at issue with a cause (R303): the context as it stood at issue takes the trap, and the verdict names the stage. -/
def State.trapped (s : State) (stage : Nat) (x : Cause) : State :=
  { s with live := s.issue.takeTrap s.core s.mcc x (.at_ s.issue.flow.pc), verdict := .trapped stage }

/-! ### A step that issues a bundle -/

/-- The bundle of a word x holds the operations ops: each of its eight slot words decodes to the well-formed operation of its slot, and
slot 0 does not transfer through a buffer that slot 2 arms (R108, R123, R139). -/
def bundleHolds (x : BitVec 256) (ops : List Instr) : Prop :=
  ops.length = 8 ∧ txArms (slotWord x 0) (decodeSlot 2 (slotWord x 2)) = false ∧
    ∀ n i, ops[n]? = some i → decodeSlot n (slotWord x n) = .ok i ∧ WellFormed i = true

/-- The next move of the machine is core n's, from the state u: the script says so, or with an empty script the free choice. -/
def State.nextIsCore (s : State) (n : Nat) (u : State) : Prop :=
  (∃ rest, s.script = .core n :: rest ∧ u = { s with script := rest }) ∨ (s.script = [] ∧ s.chosen = .core n ∧ u = s)

/-- The context checked out on core n is about to issue the bundle x: it runs, nothing stands at the boundary, the core has a cycle
for it, no barrier, restart or breakpoint holds it, and the instruction store has the bundle. -/
def State.readyFor (s : State) (n : Nat) (x : BitVec 256) : Prop :=
  let c := s.live
  let k := s.coreOf n
  (c.id.status = .running ∧ c.swage.busy = false ∧ c.flow.causes = [] ∧ c.dbg.pend = [] ∧ c.flow.tail.yield = false ∧
    c.flow.stop = .none) ∧
  (10 ≤ k.credit ∧ k.switch = 0 ∧ c.overdue = false ∧ c.budget.spent = false ∧ c.flow.barrier ≠ .issued ∧ s.restartDue c = false ∧
    s.hits c = none) ∧
  k.lookup c = .bundle x

/-- The state from which the operations of a bundle are issued: the core has made its attempt of this cycle and fetched the bundle (R66), the slice has
begun (R27), and the operand slot that the bundle reads is known (R239). -/
def State.issuing (s : State) (ops : List Instr) : State :=
  let c := { s.live with budget := s.live.budget.start s.mcc }
  { (s.mapCore s.core fun k => { k with tried := some s.mcc }).mapCore s.core fun k => k.touch c s.tick with
    live := c, issue := c, beside := slotRead ops }

/-- A verdict of an operation that neither waits nor traps. -/
def Verdict.done (v : Verdict) : Prop := v = .idle ∨ v = .performed

/-- The operations perform one after another: each answers a next state, with a verdict that is done, from the state the one before
left. -/
inductive Performs : State → List Instr → State → Prop where
  | nil (s : State) : Performs s [] s
  | cons {s t u : State} {i : Instr} {is : List Instr} (h : exec i { s with verdict := .idle } = .next t) (d : t.verdict.done)
      (r : Performs t is u) : Performs s (i :: is) u

/-! ### What a relation says -/

/-- A relation of the relational forms, among integers (R85, R160, R162). -/
def RelOp.holds (op : RelOp) (d a b imm : Int) : Prop :=
  match op with
  | .add => d = a + b
  | .sub => d = a - b
  | .mul => d = a * b
  | .min => d = Min.min a b
  | .max => d = Max.max a b
  | .abs => d = if a < 0 then -a else a
  | .neg => d = -a
  | .mov => d = a
  | .addi => d = a + imm
  | .muli => d = a * imm
  | .eq => a = b
  | .ne => a ≠ b
  | .lt => a < b
  | .le => a ≤ b
  | .eqi => a = imm
  | .nei => a ≠ imm
  | .lti => a < imm
  | .lei => a ≤ imm
  | .gti => imm < a
  | .gei => imm ≤ a

/-- A relation holds for the values that an assignment gives its registers. -/
def Rel.HoldsFor (rel : Rel) (sol : BitVec 6 → Int) : Prop := rel.op.holds (sol rel.d) (sol rel.a) (sol rel.b) rel.imm.toInt

/-! ### Runs -/

/-- The states that a run of the machine from reset can reach. -/
inductive Reachable : State → Prop where
  | reset : Reachable State.reset
  | step {s t : State} : Reachable s → Machine.step s = .next t → Reachable t

/-- A run is safe when no reachable state stops at a fault. -/
def SafeRun : Prop := ∀ s, Reachable s → ∀ f, Machine.step s ≠ .fault f

/-! ### Invariants -/

/-- Memory is in its canonical form. -/
def MemoryCanonical (s : State) : Prop := Memory.wf s.mem = true

end Sys2Proof.Machine
end

