-- ==== Sys2Proof/Certificates/Slice0/Obligations.lean ====
section
/-! DEFINITION. The statements about the machine, each named for what it states; OBLIGATIONS.json lists them with the rules they
formalise. -/

section
open Sys2Proof Sys2Proof.Machine

/-! ### The domain slot -/

/-- R160, R161, R163: an assign form of slot 1 whose sources are full and whose destination is unbound and takes a result puts the hull of
its image, at latency 1, on the way to k[d], or FAIL where the image is empty; nothing else changes. -/
def Obligations.IntAssignResults : Prop :=
  ∀ (s : State) (g : BitVec 4) (d a b : BitVec 6) (f h : BitVec 1) (i : BitVec 8),
    let free : Prop := s.issue.swage.bound d = false ∧ s.takesK d
    let fly (x : Option Dom) : State := s.performed fun c => c.fly 1 1 (kResult d x)
    let two (op : Instr) (x : Option Dom) : Prop := Acts op s (s.guard4 g) [kRef a, kRef b] free (fly x)
    let one (op : Instr) (x : Option Dom) : Prop := Acts op s (s.guard4 g) [kRef a] free (fly x)
    two (.add g d a b f h) (hull (assignImage .add (s.set a) (s.set b) 0)) ∧
    two (.sub g d a b f h) (hull (assignImage .sub (s.set a) (s.set b) 0)) ∧
    two (.mul g d a b f h) (hull (assignImage .mul (s.set a) (s.set b) 0)) ∧
    two (.min g d a b f h) (hull (assignImage .min (s.set a) (s.set b) 0)) ∧
    two (.max g d a b f h) (hull (assignImage .max (s.set a) (s.set b) 0)) ∧
    one (.abs g d a f) (hull (assignImage .abs (s.set a) [] 0)) ∧
    one (.neg g d a f) (hull (assignImage .neg (s.set a) [] 0)) ∧
    one (.mov g d a f) (hull (assignImage .mov (s.set a) [] 0)) ∧
    one (.addi g d a i) (hull (assignImage .addi (s.set a) [] i.toInt)) ∧
    one (.muli g d a i) (hull (assignImage .muli (s.set a) [] i.toInt)) ∧
    two (.and g d a b f h) (hull (bitImage digitAnd (s.set a) (s.set b))) ∧
    two (.or g d a b f h) (hull (bitImage digitOr (s.set a) (s.set b))) ∧
    two (.xor g d a b f h) (hull (bitImage digitXor (s.set a) (s.set b))) ∧
    two (.shl g d a b f h) (hull (shlImage (s.set a) (s.set b))) ∧
    two (.shr g d a b f h) (hull (shrImage (s.set a) (s.set b))) ∧
    two (.sar g d a b f h) (hull (sarImage (s.set a) (s.set b))) ∧
    one (.dlo g d a f) (some (domSingle (domLo (s.k a)))) ∧
    one (.dhi g d a f) (some (domSingle (domHi (s.k a)))) ∧
    one (.dsize g d a f) (some (domSingle (min ((s.set a).card : Int) (2 ^ 31 - 1)))) ∧
    one (.dmid g d a f) (some (domSingle ((domLo (s.k a) + domHi (s.k a)) / 2))) ∧
    two (.dset g d a b f h) (hullRuns (Runs.of [(domLo (s.k a), domHi (s.k b))])) ∧
    Acts (.dfull g d) s (s.guard4 g) [] free (fly (some domTop))

/-- R162, R163: a comparison of slot 1 writes T, F or U over all pairs of members to a predicate, and SINGLE writes T or F, at
latency 1; nothing else changes. -/
def Obligations.IntPredicateResults : Prop :=
  ∀ (s : State) (g : BitVec 4) (d a b : BitVec 6) (f h : BitVec 1) (i : BitVec 8),
    let fly (x : BitVec 2) : State := s.performed fun c => c.fly 1 1 (.p (d.zeroExtend 7) x)
    let two (op : Instr) (x : BitVec 2) : Prop := Acts op s (s.guard4 g) [kRef a, kRef b] True (fly x)
    let one (op : Instr) (x : BitVec 2) : Prop := Acts op s (s.guard4 g) [kRef a] True (fly x)
    let imm : Runs := [(i.toInt, i.toInt)]
    two (.eq g d a b f h) (compareSets .eq (s.set a) (s.set b)) ∧
    two (.ne g d a b f h) (compareSets .ne (s.set a) (s.set b)) ∧
    two (.lt g d a b f h) (compareSets .lt (s.set a) (s.set b)) ∧
    two (.le g d a b f h) (compareSets .le (s.set a) (s.set b)) ∧
    one (.eqi g d a i) (compareSets .eqi (s.set a) imm) ∧
    one (.nei g d a i) (compareSets .nei (s.set a) imm) ∧
    one (.lti g d a i) (compareSets .lti (s.set a) imm) ∧
    one (.lei g d a i) (compareSets .lei (s.set a) imm) ∧
    one (.gti g d a i) (compareSets .gti (s.set a) imm) ∧
    one (.gei g d a i) (compareSets .gei (s.set a) imm) ∧
    one (.single g d a f) (pOf (domMember? (s.k a)).isSome)

/-- R85, R159, R166: a narrow form whose registers are full puts the new domains of its operands on the way together at latency 1, or
FAIL naming the operand left empty; nothing else changes. -/
def Obligations.IntNarrowResults : Prop :=
  ∀ (s : State) (g : BitVec 4) (d a b : BitVec 6) (f h : BitVec 1) (i : BitVec 8),
    let put (r : Rel) : State := s.performed fun c => c.fly 1 1 (narrowResult r s.rd)
    let three (op : Instr) (r : RelOp) : Prop :=
      Acts op s (s.guard4 g) [kRef d, kRef a, kRef b] True (put { op := r, d := d, a := a, b := b, imm := 0 })
    let two (op : Instr) (r : RelOp) (i : BitVec 8) : Prop :=
      Acts op s (s.guard4 g) [kRef d, kRef a] True (put { op := r, d := d, a := a, b := 0, imm := i })
    let pair (op : Instr) (r : RelOp) : Prop :=
      Acts op s (s.guard4 g) [kRef a, kRef b] True (put { op := r, d := 0, a := a, b := b, imm := 0 })
    let one (op : Instr) (r : RelOp) : Prop :=
      Acts op s (s.guard4 g) [kRef a] True (put { op := r, d := 0, a := a, b := 0, imm := i })
    three (.addN g d a b f h) .add ∧ three (.subN g d a b f h) .sub ∧ three (.mulN g d a b f h) .mul ∧
    three (.minN g d a b f h) .min ∧ three (.maxN g d a b f h) .max ∧
    two (.absN g d a f) .abs 0 ∧ two (.negN g d a f) .neg 0 ∧ two (.movN g d a f) .mov 0 ∧
    two (.addiN g d a i) .addi i ∧ two (.muliN g d a i) .muli i ∧
    pair (.eqN g a b f h) .eq ∧ pair (.neN g a b f h) .ne ∧ pair (.ltN g a b f h) .lt ∧ pair (.leN g a b f h) .le ∧
    one (.eqiN g a i) .eqi ∧ one (.neiN g a i) .nei ∧ one (.ltiN g a i) .lti ∧ one (.leiN g a i) .lei ∧
    one (.gtiN g a i) .gti ∧ one (.geiN g a i) .gei

/-- R168: a post form whose registers are full, with a place in the standing store, appends its relation there at the end of the bundle; nothing else
changes. -/
def Obligations.IntPostResults : Prop :=
  ∀ (s : State) (g : BitVec 4) (d a b : BitVec 6) (f h : BitVec 1) (i : BitVec 8),
    let room : Prop := s.issue.swage.store.length < 512
    let put (r : Rel) : State := s.performed fun c => c.fly 1 1 (.post r)
    let three (op : Instr) (r : RelOp) : Prop :=
      Acts op s (s.guard4 g) [kRef d, kRef a, kRef b] room (put { op := r, d := d, a := a, b := b, imm := 0 })
    let two (op : Instr) (r : RelOp) (i : BitVec 8) : Prop :=
      Acts op s (s.guard4 g) [kRef d, kRef a] room (put { op := r, d := d, a := a, b := 0, imm := i })
    let pair (op : Instr) (r : RelOp) : Prop :=
      Acts op s (s.guard4 g) [kRef a, kRef b] room (put { op := r, d := 0, a := a, b := b, imm := 0 })
    let one (op : Instr) (r : RelOp) : Prop :=
      Acts op s (s.guard4 g) [kRef a] room (put { op := r, d := 0, a := a, b := 0, imm := i })
    three (.addP g d a b f h) .add ∧ three (.subP g d a b f h) .sub ∧ three (.mulP g d a b f h) .mul ∧
    three (.minP g d a b f h) .min ∧ three (.maxP g d a b f h) .max ∧
    two (.absP g d a f) .abs 0 ∧ two (.negP g d a f) .neg 0 ∧ two (.movP g d a f) .mov 0 ∧
    two (.addiP g d a i) .addi i ∧ two (.muliP g d a i) .muli i ∧
    pair (.eqP g a b f h) .eq ∧ pair (.neP g a b f h) .ne ∧ pair (.ltP g a b f h) .lt ∧ pair (.leP g a b f h) .le ∧
    one (.eqiP g a i) .eqi ∧ one (.neiP g a i) .nei ∧ one (.ltiP g a i) .lti ∧ one (.leiP g a i) .lei ∧
    one (.gtiP g a i) .gti ∧ one (.geiP g a i) .gei

/-- R164: DIV and REM of singletons x and y into an unbound register mark it empty and leave one result on its way: the truncating
quotient or the remainder, wrapped to 32 bits, or none where y is 0; nothing else changes. -/
def Obligations.DivisionResults : Prop :=
  ∀ (s : State) (g : BitVec 4) (d a b : BitVec 6) (f h : BitVec 1) (x y : Int),
    let ok : Prop := domMember? (s.k a) = some x ∧ domMember? (s.k b) = some y ∧ s.issue.swage.bound d = false ∧
      s.takesK d
    let put (q : Int) : State := s.performed fun c => { c with
      regs := c.regs.mark (kRef d) true
      mem := { c.mem with
        nextId := c.mem.nextId + 1
        divs := c.mem.divs ++ [{ id := c.mem.nextId, bclk := c.flow.bclk, off := c.flow.pc, d := d,
                                 result := if y = 0 then none else some (BitVec.ofInt 32 q) }] } }
    Acts (.div g d a b f h) s (s.guard4 g) [kRef a, kRef b] ok (put (x.tdiv y)) ∧
    Acts (.rem g d a b f h) s (s.guard4 g) [kRef a, kRef b] ok (put (x - y * x.tdiv y))

/-- R174, R176, R177: CKPT below 128 checkpoints, ROLL and COMMIT above none put their effect on the way to the end of the
bundle. -/
def Obligations.CheckpointResults : Prop :=
  ∀ (s : State) (g : BitVec 4),
    let n := s.issue.swage.ckpts.length
    let put (e : Eff) : State := s.performed fun c => c.fly 1 1 e
    Acts (.ckpt g) s (s.guard4 g) [] (n < 128) (put .ckpt) ∧
    Acts (.roll g) s (s.guard4 g) [] (0 < n) (put .roll) ∧
    Acts (.commit g) s (s.guard4 g) [] (0 < n) (put .commit)

/-- R109: the NOP of each slot performs and changes nothing; that of slot 0 still acts on its tail bits. -/
def Obligations.NopsChangeNothing : Prop :=
  ∀ (s : State) (e y x : BitVec 1) (t : BitVec 2),
    ActsCtl (.nopCtl e y x t) s e y x t [] True id ∧
    ∀ i ∈ [Instr.nopInt, .nopAdr, .nopVec, .nopIvl, .nopMem, .nopMtx, .nopCpy], exec i s = .next (s.performed id)

/-! ### The address slot -/

/-- R181, R187, R189, R191: an operation of slot 2 with an a destination whose registers are full, and MFILL and MFROMP with a mask
destination, put their 64-bit result at latency 1; nothing else changes. -/
def Obligations.AdrRegisterResults : Prop :=
  ∀ (s : State) (g : BitVec 4) (d a b : BitVec 5) (m : BitVec 4) (p : BitVec 7) (v : BitVec 2) (i12 : BitVec 12) (i17 : BitVec 17)
    (i6 : BitVec 6),
    let act (op : Instr) (srcs : List (BitVec 5)) (x : W64) : Prop :=
      Acts op s (s.guard4 g) (aRef d :: srcs.map aRef) True (s.performed fun c => c.fly 1 2 (.a d x))
    let mask (op : Instr) (srcs : List (BitVec 5)) (x : W64) : Prop :=
      Acts op s (s.guard4 g) (srcs.map aRef) True (s.performed fun c => c.fly 1 2 (.m m (BitVec.allOnes 64) x))
    let l := Tbl.get Loop.none s.issue.flow.loops v.toNat
    act (.adda g d a b) [a, b] (s.a a + s.a b) ∧
    act (.suba g d a b) [a, b] (s.a a - s.a b) ∧
    act (.mula g d a b) [a, b] (s.a a * s.a b) ∧
    act (.anda g d a b) [a, b] (s.a a &&& s.a b) ∧
    act (.ora g d a b) [a, b] (s.a a ||| s.a b) ∧
    act (.xora g d a b) [a, b] (s.a a ^^^ s.a b) ∧
    act (.shla g d a b) [a, b] (s.a a <<< ((s.a b).toNat % 64)) ∧
    act (.shra g d a b) [a, b] (s.a a >>> ((s.a b).toNat % 64)) ∧
    act (.sara g d a b) [a, b] ((s.a a).sshiftRight ((s.a b).toNat % 64)) ∧
    act (.addai g d a i12) [a] (s.a a + i12.signExtend 64) ∧
    act (.li g d i17) [] (i17.signExtend 64) ∧
    act (.shlai g d a i6) [a] (s.a a <<< i6.toNat) ∧
    act (.sela g d a b p) [a, b] (if s.p p = predT then s.a a else s.a b) ∧
    act (.mcnt g d m) [] (BitVec.ofNat 64 (countOnes (s.m m) 64)) ∧
    act (.mfirst g d m) [] (BitVec.ofNat 64 (lowestSet (s.m m) 64 0)) ∧
    act (.getlc g d v) [] (if l.active then l.count.zeroExtend 64 else 0) ∧
    mask (.mfill g m a) [a] (s.a a) ∧
    mask (.mfromp g m p) [] (if s.p p = predT then BitVec.allOnes 64 else 0)

/-- R124, R182 to R187: predicates and masks from slot 2, at latency 1; PLOGIC, PSET, ARM and ARMM have no guard. ARM arms a buffer
that is not EMPTY on a predicate that is T or F, ARMM on a mask that is all ones or all zeros. -/
def Obligations.AdrPredicateAndMaskResults : Prop :=
  ∀ (s : State) (g m m1 m2 : BitVec 4) (p a b : BitVec 5) (c f : BitVec 3) (i9 : BitVec 9) (d p1 p2 : BitVec 7)
    (v buf : BitVec 2) (pol : BitVec 1),
    let pred (d : BitVec 7) (x : BitVec 2) : State := s.performed fun c => c.fly 1 2 (.p d x)
    let mask (op : Instr) (srcs : List (BitVec 5)) (x : W64) : Prop :=
      Acts op s (s.guard4 g) (srcs.map aRef) True (s.performed fun c => c.fly 1 2 (.m m (BitVec.allOnes 64) x))
    Acts (.cmpa g p a b c) s (s.guard4 g) [aRef a, aRef b] True (pred (p.zeroExtend 7) (pOf (condHolds c (s.a a) (s.a b)))) ∧
    Acts (.cmpai g p a c i9) s (s.guard4 g) [aRef a] True (pred (p.zeroExtend 7) (pOf (condHolds c (s.a a) (i9.signExtend 64)))) ∧
    exec (.plogic d p1 p2 f) s = .next (pred d (plogicFn f (s.p p1) (s.p p2))) ∧
    exec (.pset d v) s = .next (pred d v) ∧
    mask (.mlogic g m m1 m2 f) [] (mlogicFn f (s.m m1) (s.m m2)) ∧
    mask (.mfill g m a) [a] (s.a a) ∧
    mask (.mfromp g m p1) [] (if s.p p1 = predT then BitVec.allOnes 64 else 0) ∧
    ((s.buf buf).st ≠ .empty →
      let put (taken : Bool) : State := s.performed fun c => c.fly 1 2 (.arm buf taken)
      (s.p p1 ≠ predU → exec (.arm buf p1 pol) s = .next (put (s.p p1 = if pol = 0 then predT else predF))) ∧
      (s.m m1 = 0 ∨ s.m m1 = BitVec.allOnes 64 → exec (.armm buf m1) s = .next (put (s.m m1 ≠ 0))))

/-- R188, R190, R192: moves between register classes, loop deltas and system registers. MOVKA takes a singleton, MOVAK an unbound
destination that takes a result, MOVS and MOVG a number that they may read or write, with PBUDGET within 1 to 65535 and QBSZ within 1 to 2^62. -/
def Obligations.AdrMoveResults : Prop :=
  ∀ (s : State) (g : BitVec 4) (d a t : BitVec 5) (k : BitVec 6) (v : BitVec 2) (r : BitVec 12) (x : Int),
    let put (e : Eff) : State := s.performed fun c => c.fly 1 2 e
    Acts (.movka g d k) s (s.guard4 g) [aRef d, kRef k] (domMember? (s.k k) = some x) (put (.a d (BitVec.ofInt 64 x))) ∧
    Acts (.movak g k a) s (s.guard4 g) [aRef a] (s.issue.swage.bound k = false ∧ s.takesK k)
      (put (.k k (domSingle (low32 (s.a a)).toInt))) ∧
    Acts (.ldelta g v t a) s (s.guard4 g) [aRef a] True (put (.ldelta v t (low32 (s.a a)))) ∧
    Acts (.movs g d r) s (s.guard4 g) [aRef d] (sysReads r = true ∧ (r = 0x039 → s.mywWait = none)) (put (.a d (s.issue.readSys s.mcc r))) ∧
    Acts (.movg g a r) s (s.guard4 g) [aRef a]
      (sysWrites r = true ∧ (r = 0x010 → 1 ≤ (s.a a).toNat ∧ (s.a a).toNat ≤ 65535) ∧
        (r = 0x03B → 1 ≤ (s.a a).toNat ∧ (s.a a).toNat ≤ 2 ^ 62))
      (put (.sys r (s.a a)))

/-! ### The vector slot -/

/-- R90, R91, R195 to R197: an FP32 operation of slot 3 whose registers are full puts its result in the lanes that execute, at the
latency of its row; the other lanes keep their bits and nothing else changes. -/
def Obligations.VecFloatResults : Prop :=
  ∀ (s : State) (g : BitVec 5) (d a b : BitVec 6) (f h : BitVec 1),
    let put (lat : Nat) (x : Nat → W32) : State := s.performed fun c => c.fly lat 3 (.v d (s.guard5 g) (mkV x))
    let two (op : Instr) (x : W32 → W32 → W32) : Prop :=
      Acts op s (s.runs64 g) [vRef d, vRef a, vRef b] True (put 4 fun i => x (laneV (s.v a) i) (laneV (s.v b) i))
    let one (op : Instr) (lat : Nat) (x : W32 → W32) : Prop :=
      Acts op s (s.runs64 g) [vRef d, vRef a] True (put lat fun i => x (laneV (s.v a) i))
    let fma (op : Instr) (neg : Bool) : Prop :=
      Acts op s (s.runs64 g) [vRef d, vRef a, vRef b] True
        (put 4 fun i => fFma neg (laneV (s.v d) i) (laneV (s.v a) i) (laneV (s.v b) i))
    two (.vaddF g d a b f h) fAdd ∧ two (.vsubF g d a b f h) fSub ∧ two (.vmulF g d a b f h) fMul ∧
    fma (.vfmaF g d a b f h) false ∧ fma (.vfmsF g d a b f h) true ∧
    two (.vminF g d a b f h) fMin ∧ two (.vmaxF g d a b f h) fMax ∧
    one (.vabsF g d a f) 2 (fun x => x &&& 0x7FFFFFFF) ∧ one (.vnegF g d a f) 2 (fun x => x ^^^ 0x80000000) ∧
    one (.vrcpF g d a f) 6 fRcp ∧ one (.vrsqF g d a f) 6 fRsq ∧ one (.vexp2F g d a f) 6 fExp2 ∧ one (.vlog2F g d a f) 6 fLog2

/-- R195, R199: an integer operation of slot 3 whose registers are full puts its 32-bit result in the lanes that execute, at
latency 2; the other lanes keep their bits and nothing else changes. -/
def Obligations.VecIntegerResults : Prop :=
  ∀ (s : State) (g : BitVec 5) (d a b : BitVec 6) (f h : BitVec 1),
    let two (op : Instr) (x : W32 → W32 → W32) : Prop :=
      Acts op s (s.runs64 g) [vRef d, vRef a, vRef b] True
        (s.performed fun c => c.fly 2 3 (.v d (s.guard5 g) (mkV fun i => x (laneV (s.v a) i) (laneV (s.v b) i))))
    two (.vaddI g d a b f h) (fun x y => x + y) ∧ two (.vsubI g d a b f h) (fun x y => x - y) ∧
    two (.vmulI g d a b f h) (fun x y => x * y) ∧
    two (.vminI g d a b f h) (fun x y => if x.slt y then x else y) ∧
    two (.vmaxI g d a b f h) (fun x y => if x.slt y then y else x) ∧
    two (.vand g d a b f h) (fun x y => x &&& y) ∧ two (.vor g d a b f h) (fun x y => x ||| y) ∧
    two (.vxor g d a b f h) (fun x y => x ^^^ y) ∧
    two (.vshl g d a b f h) (fun x y => x <<< (y.toNat % 32)) ∧
    two (.vshr g d a b f h) (fun x y => x >>> (y.toNat % 32)) ∧
    two (.vsar g d a b f h) (fun x y => x.sshiftRight (y.toNat % 32))

/-- R195, R198, R199: a compare of slot 3 writes the bits of a mask for the lanes that execute, at latency 4 for FP32 and 2 for
integers. -/
def Obligations.VecCompareResults : Prop :=
  ∀ (s : State) (g : BitVec 5) (d : BitVec 4) (a b : BitVec 6) (f h : BitVec 1),
    let cmp (op : Instr) (lat : Nat) (x : W32 → W32 → Bool) : Prop :=
      Acts op s (s.runs64 g) [vRef a, vRef b] True
        (s.performed fun c => c.fly lat 3 (.m d (s.guard5 g) (mkMask 64 fun i => x (laneV (s.v a) i) (laneV (s.v b) i))))
    cmp (.vcmpeqF g d a b f h) 4 fEq ∧ cmp (.vcmpltF g d a b f h) 4 fLt ∧ cmp (.vcmpleF g d a b f h) 4 fLe ∧
    cmp (.vcmpeqI g d a b f h) 2 (fun x y => x == y) ∧ cmp (.vcmpltI g d a b f h) 2 (fun x y => x.slt y)

/-- R92, R98, R200, R201: conversions of slot 3 at latency 4; those that saturate count the lanes that do into VOVF at the same
point. -/
def Obligations.VecConversionResults : Prop :=
  ∀ (s : State) (g : BitVec 5) (g4 : BitVec 4) (d a b : BitVec 6) (f h k : BitVec 1) (n : BitVec 4),
    let x (i : Nat) : W32 := laneV (s.v a) i
    let y (i : Nat) : W32 := laneV (s.v b) i
    let put (z : Nat → W32) (c : Context) : Context := c.fly 4 3 (.v d (s.guard5 g) (mkV z))
    let one (op : Instr) (t : State) : Prop := Acts op s (s.runs64 g) [vRef d, vRef a] True t
    let fmt : W32 := s.fmtReg n
    one (.vcvtFi g d a f) (s.performed fun c => (put (fun i => (f32ToInt (x i)).1) c).fly 4 3
      (.vovf (s.countLanes g fun i => if (f32ToInt (x i)).2 then 1 else 0))) ∧
    one (.vcvtIf g d a f) (s.performed (put fun i => intToF32 (x i))) ∧
    Acts (.vpkbf g d a b f h) s (s.runs64 g) [vRef d, vRef a, vRef b] True
      (s.performed fun c => (put (fun i => (f32ToBf (y i)).1 ++ (f32ToBf (x i)).1) c).fly 4 3
        (.vovf (s.countLanes g fun i => (if (f32ToBf (x i)).2 then 1 else 0) + (if (f32ToBf (y i)).2 then 1 else 0)))) ∧
    one (.vunbf g d a k f) (s.performed (put fun i => bfToF32 ((x i).extractLsb' (16 * k.toNat) 16))) ∧
    Acts (.vcvtn g4 d a n f) s (s.guard4 g4) [vRef d, vRef a] (fmtValid fmt = true)
      (s.performed fun c => (c.fly 4 3 (.v d (BitVec.allOnes 64) (vcvtn fmt (s.v a)).1)).fly 4 3 (.vovf (vcvtn fmt (s.v a)).2)) ∧
    Acts (.vcvtw g4 d a n f) s (s.guard4 g4) [vRef d, vRef a] (fmtValid fmt = true)
      (s.performed fun c => c.fly 4 3 (.v d (BitVec.allOnes 64) (vcvtw fmt (s.v a))))

/-- R202: moves, broadcasts, permutes and single-lane moves of slot 3 at latency 2; VBCK takes a singleton, and VEXT and VINS act
only where their lane executes. -/
def Obligations.VecMoveResults : Prop :=
  ∀ (s : State) (g : BitVec 5) (m : BitVec 4) (d a b n : BitVec 6) (r : BitVec 5) (f h : BitVec 1) (x : Int),
    let put (z : Nat → W32) : State := s.performed fun c => c.fly 2 3 (.v d (s.guard5 g) (mkV z))
    let k : BitVec 6 := r.zeroExtend 6
    Acts (.vmov g d a f) s (s.runs64 g) [vRef d, vRef a] True (put fun i => laneV (s.v a) i) ∧
    Acts (.vsel m d a b f h) s true [vRef d, vRef a, vRef b] True (s.performed fun c => c.fly 2 3
      (.v d (BitVec.allOnes 64) (mkV fun i => if bitOf (s.m m) i then laneV (s.v a) i else laneV (s.v b) i))) ∧
    Acts (.vbca g d r f) s (s.runs64 g) [vRef d, aRef r] True (put fun _ => low32 (s.a r)) ∧
    Acts (.vbck g d r f) s (s.runs64 g) [vRef d, kRef k] (domMember? (s.k k) = some x) (put fun _ => BitVec.ofInt 32 x) ∧
    Acts (.vperm g d a b f h) s (s.runs64 g) [vRef d, vRef a, vRef b] True
      (put fun i => laneV (s.v a) ((laneV (s.v b) i).toNat % 64)) ∧
    Acts (.viota g d) s (s.runs64 g) [vRef d] True (put fun i => BitVec.ofNat 32 i) ∧
    Acts (.vext g r a n f) s (bitOf (s.guard5 g) n.toNat) [aRef r, vRef a] True
      (s.performed fun c => c.fly 2 3 (.a r ((laneV (s.v a) n.toNat).signExtend 64))) ∧
    Acts (.vins g d r n f) s (bitOf (s.guard5 g) n.toNat) [vRef d, aRef r] True
      (s.performed fun c => c.fly 2 3 (.v d (BitVec.twoPow 64 n.toNat) (mkV fun _ => low32 (s.a r))))

/-- R106, R203: a reduction of slot 3 over the lanes that execute puts its result in lane 0 and 0 in the others, at latency 8. -/
def Obligations.VecReductionResults : Prop :=
  ∀ (s : State) (g : BitVec 5) (d a : BitVec 6) (f : BitVec 1),
    let red (op : Instr) (x : List W32 → W32) : Prop :=
      Acts op s (s.runsAny g) [vRef d, vRef a] True
        (s.performed fun c => c.fly 8 3 (.v d (BitVec.allOnes 64) ((x (s.lanesOf g a)).zeroExtend 2048)))
    red (.vsumx g d a f) fSumX ∧ red (.vmaxr g d a f) (fReduce fMax 0xFF800000) ∧ red (.vminr g d a f) (fReduce fMin 0x7F800000) ∧
    red (.vsumi g d a f) (fun xs => xs.foldl (· + ·) 0)

/-! ### The interval slot -/

/-- R206, R207: a forward or set operation of slot 4 whose registers are full puts the tightest interval of its lane in the lanes that
execute, at latency 5, or 9 for QDIV, QSQRT and QEXP. -/
def Obligations.IntervalForwardResults : Prop :=
  ∀ (s : State) (g d a b c : BitVec 5),
    let put (lat : Nat) (x : Nat → Lane) : State := s.performed fun k => k.fly lat 4 (.q d (s.lanes32 g) (mkQ fun i => (x i).bits))
    let one (op : Instr) (lat : Nat) (x : QOp) : Prop :=
      Acts op s (s.runs32 g) [qRef d, qRef a] True (put lat fun i => x.apply (s.lane a i) .empty .empty)
    let two (op : Instr) (lat : Nat) (x : QOp) : Prop :=
      Acts op s (s.runs32 g) [qRef d, qRef a, qRef b] True (put lat fun i => x.apply (s.lane a i) (s.lane b i) .empty)
    two (.qadd g d a b) 5 .add ∧ two (.qsub g d a b) 5 .sub ∧ two (.qmul g d a b) 5 .mul ∧ two (.qdiv g d a b) 9 .div ∧
    Acts (.qfma g d a b c) s (s.runs32 g) [qRef d, qRef a, qRef b, qRef c] True
      (put 5 fun i => QOp.fma.apply (s.lane a i) (s.lane b i) (s.lane c i)) ∧
    one (.qsqr g d a) 5 .sqr ∧ one (.qsqrt g d a) 9 .sqrt ∧ one (.qrelu g d a) 5 .relu ∧
    two (.qmax g d a b) 5 .max ∧ two (.qmin g d a b) 5 .min ∧ one (.qneg g d a) 5 .neg ∧ one (.qabs g d a) 5 .abs ∧
    one (.qexp g d a) 9 .exp ∧ two (.qmeet g d a b) 5 .meet ∧ two (.qhull g d a b) 5 .hull ∧ one (.qmid g d a) 5 .mid ∧
    one (.qwid g d a) 5 .wid ∧
    Acts (.qbis g d a) s (s.runs32 g) [qRef d, qRef a] True (s.performed fun k =>
      let k' := k.fly 5 4 (.q d (s.lanes32 g) (mkQ fun i => (bisect (s.lane a i)).1.bits))
      if d = a then k' else k'.fly 5 4 (.q a (s.lanes32 g) (mkQ fun i => (bisect (s.lane a i)).2.bits)))

/-- R208: construction and bounds of slot 4 at latency 2, between half h of v registers and the lanes that execute. -/
def Obligations.IntervalMakeResults : Prop :=
  ∀ (s : State) (g d a b : BitVec 5) (h : BitVec 1),
    let put (x : Nat → Lane) : State := s.performed fun k => k.fly 2 4 (.q d (s.lanes32 g) (mkQ fun i => (x i).bits))
    let va : BitVec 6 := a.zeroExtend 6
    let vb : BitVec 6 := b.zeroExtend 6
    let vd : BitVec 6 := d.zeroExtend 6
    let half (pos : Nat) : State := s.performed fun k => k.fly 2 4 (.v vd (zext64 (s.lanes32 g) <<< (32 * h.toNat))
      (mkV fun i => (laneQ (s.q a) (i % 32)).extractLsb' pos 32))
    Acts (.qmake g d a b h) s (s.runs32 g) [qRef d, vRef va, vRef vb] True
      (put fun i => makeLane (laneV (s.v va) (32 * h.toNat + i)) (laneV (s.v vb) (32 * h.toNat + i))) ∧
    Acts (.qpoint g d a h) s (s.runs32 g) [qRef d, vRef va] True
      (put fun i => makeLane (laneV (s.v va) (32 * h.toNat + i)) (laneV (s.v va) (32 * h.toNat + i))) ∧
    Acts (.qlo g d a h) s (s.runs32 g) [vRef vd, qRef a] True (half 0) ∧
    Acts (.qhi g d a h) s (s.runs32 g) [vRef vd, qRef a] True (half 32) ∧
    Acts (.qent g d) s (s.runs32 g) [qRef d] True (put fun _ => .iv infN infP) ∧
    Acts (.qemp g d) s (s.runs32 g) [qRef d] True (put fun _ => .empty) ∧
    Acts (.qbca g d a) s (s.runs32 g) [qRef d, aRef a] True (put fun _ => readLane (s.a a))

/-- R209, R210, R214: comparisons of slot 4 and QSTAT at latency 3: QCMP writes the certain and the possible mask, QTEST the verdict
over the lanes, QSTAT whether any lane's flag is set, which it clears at the end of the bundle. -/
def Obligations.IntervalVerdictResults : Prop :=
  ∀ (s : State) (g a b c : BitVec 5) (d : BitVec 3) (p : BitVec 5) (w : BitVec 1),
    let verdict (i : Nat) := qVerdict c.toNat (s.lane a i) (s.lane b i)
    let lanes : W64 := 0xFFFFFFFF00000000 ||| zext64 (s.lanes32 g)
    let bits := s.flagMask w &&& s.lanes32 g
    Acts (.qcmp g d a b c) s (s.runs32 g) [qRef a, qRef b] True (s.performed fun k =>
      (k.fly 3 4 (.m (d ++ (0 : BitVec 1)) lanes (mkMask 64 fun i => i < 32 && verdict i = predT))).fly 3 4
        (.m (d ++ (1 : BitVec 1)) lanes (mkMask 64 fun i => i < 32 && verdict i ≠ predF))) ∧
    Acts (.qtest g p a b c) s (s.runsAny g) [qRef a, qRef b] True
      (s.performed fun k => k.fly 3 4 (.p (p.zeroExtend 7) (s.ivlVerdict g a b c.toNat))) ∧
    Acts (.qstat g p w) s (s.runsAny g) [] True
      (s.performed fun k => (k.fly 3 4 (.p (p.zeroExtend 7) (pOf (bits ≠ 0)))).fly 1 4 (.qclear (w = 0) bits))

/-- R211 to R213: a contractor of slot 4 whose registers are full puts the projections of its lanes in flight for every register it
names, at latency 7, or 9 for QEXP.C. That a lane with a NaI operand is written with the bits it had at issue is the model's choice (entry 201). -/
def Obligations.ContractorResults : Prop :=
  ∀ (s : State) (g d a b c : BitVec 5),
    let act (op : Instr) (lat : Nat) (x : COp) (d a b c : BitVec 5) : Prop :=
      Acts op s (s.runs32 g) ((x.regs d a b c).map qRef) True (s.performed fun k => k.fly lat 4 (s.contraction g x d a b c))
    act (.qaddC g d a b) 7 .add d a b 0 ∧ act (.qsubC g d a b) 7 .sub d a b 0 ∧ act (.qmulC g d a b) 7 .mul d a b 0 ∧
    act (.qfmaC g d a b c) 7 .fma d a b c ∧ act (.qsqrC g d a) 7 .sqr d a 0 0 ∧ act (.qreluC g d a) 7 .relu d a 0 0 ∧
    act (.qmaxC g d a b) 7 .max d a b 0 ∧ act (.qexpC g d a) 9 .exp d a 0 0 ∧ act (.qleC g a b) 7 .le 0 a b 0

/-! ### The memory slot -/

/-- R219: a scratchpad load whose registers are full, in range, aligned and unmarked, puts the bytes it finds at latency 8; LDS.Q
makes every lane canonical, LDS.K takes the hull of its pattern or fails on an empty one, and its register is unbound. -/
def Obligations.ScratchpadLoadResults : Prop :=
  ∀ (s : State) (g : BitVec 4) (r : BitVec 6) (r5 b : BitVec 5) (f : BitVec 11),
    let ok (n align : Nat) : Prop :=
      s.scrOff b f n + n ≤ s.issue.scrSize ∧ s.scrOff b f n % align = 0 ∧ s.issue.viewMarked? s.tick (s.scrOff b f n) n = none
    let put (n : Nat) (e : Nat → Eff) : State :=
      s.performed fun c => c.fly 8 5 (e (leNat (s.issue.scrView s.tick (s.scrOff b f n) n)))
    Acts (.ldsV g r b f) s (s.guard4 g) [aRef b, vRef r] (ok 256 64) (put 256 fun x => .v r (BitVec.allOnes 64) (BitVec.ofNat 2048 x)) ∧
    Acts (.ldsQ g r5 b f) s (s.guard4 g) [aRef b, qRef r5] (ok 256 64)
      (put 256 fun x => .q r5 (BitVec.allOnes 32) (canonQ (BitVec.ofNat 2048 x))) ∧
    Acts (.ldsK g r b f) s (s.guard4 g) [aRef b] (ok 16 16 ∧ s.issue.swage.bound r = false ∧ s.takesK r)
      (put 16 fun x => kResult r (kPattern (BitVec.ofNat 128 x))) ∧
    Acts (.ldsA g r5 b f) s (s.guard4 g) [aRef b, aRef r5] (ok 8 8) (put 8 fun x => .a r5 (BitVec.ofNat 64 x))

/-- R219: a scratchpad store whose registers are full, in range and aligned, writes its bytes at base plus scaled offset two bundles
on; no register, no other byte of scratchpad and no byte of memory changes. -/
def Obligations.ScratchpadStoreResults : Prop :=
  ∀ (s : State) (g : BitVec 4) (r : BitVec 6) (r5 b : BitVec 5) (f : BitVec 11),
    let ok (n align : Nat) : Prop := s.scrOff b f n + n ≤ s.issue.scrSize ∧ s.scrOff b f n % align = 0
    let put (n data : Nat) : State := s.performed fun c => c.fly 2 5 (.scr (s.scrOff b f n) (leBytes n data) false)
    Acts (.stsV g r b f) s (s.guard4 g) [aRef b, vRef r] (ok 256 64) (put 256 (s.v r).toNat) ∧
    Acts (.stsQ g r5 b f) s (s.guard4 g) [aRef b, qRef r5] (ok 256 64) (put 256 (s.q r5).toNat) ∧
    Acts (.stsK g r b f) s (s.guard4 g) [aRef b, kRef r] (ok 16 16) (put 16 (s.k r).toNat) ∧
    Acts (.stsA g r5 b f) s (s.guard4 g) [aRef b, aRef r5] (ok 8 8) (put 8 (s.a r5).toNat)

/-- R58, R220: LDS.VX and STS.VX with full registers, an aligned base and every lane in range leave one gather or scatter on its way, and
the registers they name empty until it is done. -/
def Obligations.IndexedScratchpadResults : Prop :=
  ∀ (s : State) (g : BitVec 4) (r i : BitVec 6) (b : BitVec 5),
    let offs := s.laneOffs b i
    let ok : Prop := (s.a b).toNat % 4 = 0 ∧ ∀ o ∈ offs, o + 4 ≤ s.issue.scrSize
    let go (index : Option (BitVec 6)) (data : VecV) (bad : Option Nat) (c : Context) : MemSide := { c.mem with
      nextId := c.mem.nextId + 1
      scats := c.mem.scats ++ [{ id := c.mem.nextId, bclk := c.flow.bclk, at_ := s.mcc, off := c.flow.pc, r := r, index := index,
                                 offs := offs, data := data, bad := bad }] }
    Acts (.ldsVx g r b i) s (s.guard4 g) [aRef b, vRef i, vRef r] ok (s.performed fun c => { c with
      regs := c.regs.mark (vRef r) true
      mem := go none (mkV fun n => BitVec.ofNat 32 (leNat (s.issue.scrView s.tick (offs.getD n 0) 4)))
        ((offs.findSome? fun o => s.issue.viewMarked? s.tick o 4).map (64 * ·)) c }) ∧
    Acts (.stsVx g r b i) s (s.guard4 g) [aRef b, vRef i, vRef r] ok (s.performed fun c => { c with
      regs := (c.regs.mark (vRef r) true).mark (vRef i) true
      mem := go (some i) (s.v r) none c })

/-- R116, R218, R221, R222: a global load, store or atomic with full registers and an aligned address goes out in program order; a load
and an atomic leave their destination empty until they land, a store and an atomic count in WIC. A plain LDG.K takes an unbound register; with its
narrowing bit it leaves a bound one full. -/
def Obligations.GlobalAccessResults : Prop :=
  ∀ (s : State) (g : BitVec 4) (r6 : BitVec 6) (r b d : BitVec 5) (o : BitVec 3) (f8 : BitVec 8) (f7 : BitVec 7),
    let va (f scale : Nat) : BitVec 57 := s.gva b f scale
    let aligned (f scale align : Nat) : Prop := (va f scale).toNat % align = 0
    let load (ref : RegRef) (f scale : Nat) (op : AccOp) (empties : Bool) : State := s.performed fun c =>
      let c := c.launch (va f scale) op o false
      if empties then { c with regs := c.regs.mark ref true } else c
    let store (f scale n data : Nat) : State := s.performed fun c => c.launch (va f scale) (.store (leBytes n data)) o true
    let atomic (i : Instr) (src : List (BitVec 5)) (align : Nat) (op : BitVec 3) (x : W64) : Prop :=
      Acts i s (s.guard4 g) ([aRef b, aRef d] ++ src.map aRef) (aligned 0 8 align) (s.performed fun c =>
        let c := c.launch (va 0 8) (.atomic op d x (s.a d)) o true
        { c with regs := c.regs.mark (aRef d) true })
    Acts (.ldgA g r b o f8) s (s.guard4 g) [aRef b, aRef r] (aligned f8.toNat 8 8) (load (aRef r) f8.toNat 8 (.ldgA r) true) ∧
    Acts (.ldgV g r6 b o f8) s (s.guard4 g) [aRef b, vRef r6] (aligned f8.toNat 256 64) (load (vRef r6) f8.toNat 256 (.ldgV r6) true) ∧
    Acts (.ldgK g r6 b o f7) s (s.guard4 g) [aRef b] (aligned f7.toNat 16 16 ∧ s.issue.swage.bound r6 = false ∧ s.takesK r6)
      (load (kRef r6) f7.toNat 16 (.ldgK r6 false) true) ∧
    Acts (.ldgKN g r6 b o f7) s (s.guard4 g) [aRef b, kRef r6] (aligned f7.toNat 16 16)
      (load (kRef r6) f7.toNat 16 (.ldgK r6 true) (!s.issue.swage.bound r6)) ∧
    Acts (.stgA g r b o f8) s (s.guard4 g) [aRef b, aRef r] (aligned f8.toNat 8 8) (store f8.toNat 8 8 (s.a r).toNat) ∧
    Acts (.stgV g r6 b o f8) s (s.guard4 g) [aRef b, vRef r6] (aligned f8.toNat 256 64) (store f8.toNat 256 256 (s.v r6).toNat) ∧
    atomic (.aadd g d b r o) [r] 8 0 (s.a r) ∧ atomic (.amax g d b r o) [r] 8 1 (s.a r) ∧ atomic (.amin g d b r o) [r] 8 2 (s.a r) ∧
    atomic (.axch g d b r o) [r] 8 3 (s.a r) ∧ atomic (.acas g d b r o) [r] 8 4 (s.a r) ∧ atomic (.amaxf g d b r o) [r] 4 5 (s.a r) ∧
    atomic (.amaxrst g d b o) [] 4 6 0

/-- R224, R225, R353: an operation on exact accumulators with full registers and aligned cells goes out in program order; the writing
ones pass the gate of the journal as accepted work and count in WIC, the reading ones leave their destination empty. Fences go out among the
accesses they order. -/
def Obligations.ExactAccumulatorAndFenceResults : Prop :=
  ∀ (s : State) (g : BitVec 4) (b r d : BitVec 5) (v : BitVec 6) (m : BitVec 2) (n : BitVec 7) (sc : BitVec 3),
    let va := s.gva b 0 8
    let aligned : Prop := va.toNat % 64 = 0
    let fresh : Prop := s.live.run.suppress = []
    let write (kind : Nat) (op : AccOp) : State :=
      s.performed fun c => (c.gate { kind := kind, target := va.toNat }).launch va op 0 true
    (fresh → Acts (.xadd g b r) s (s.guard4 g) [aRef b, aRef r] aligned (write kXadd (.xadd (low32 (s.a r))))) ∧
    (fresh → Acts (.xaddv g b v) s (s.guard4 g) [aRef b, vRef v] aligned (write kXaddv (.xaddv (s.v v)))) ∧
    (fresh → Acts (.xclr g b n) s (s.guard4 g) [aRef b] (aligned ∧ va.toNat % 4096 + 64 * (n.toNat + 1) ≤ 4096)
      (write kXclr (.xclr (n.toNat + 1)))) ∧
    Acts (.xrd g d b m) s (s.guard4 g) [aRef b, aRef d] aligned (s.performed fun c =>
      let c := c.launch va (.xrd d m) 0 false
      { c with regs := c.regs.mark (aRef d) true }) ∧
    Acts (.xrdv g v b m) s (s.guard4 g) [aRef b, vRef v] aligned (s.performed fun c =>
      let c := c.launch va (.xrdv v m) 0 false
      { c with regs := c.regs.mark (vRef v) true }) ∧
    Acts (.fenceAcq g sc) s (s.guard4 g) [] True (s.performed fun c => c.launch 0 (.fence 0) sc false) ∧
    Acts (.fenceRel g sc) s (s.guard4 g) [] True (s.performed fun c => c.launch 0 (.fence 1) sc false) ∧
    Acts (.fenceFull g sc) s (s.guard4 g) [] True (s.performed fun c => c.launch 0 (.fence 2) sc false)

/-- R226, R262: CBINV with a full base and an aligned address has the next read of a control block at that address come from memory, and drops the
copy of the block where the address lies now, and the walk descriptors held of it, or all that are held where no translation tells where it lies; it
changes nothing else. -/
def Obligations.CbinvResults : Prop :=
  ∀ (s : State) (g : BitVec 4) (b : BitVec 5),
    Acts (.cbinv g b) s (s.guard4 g) [aRef b] ((s.a b).toNat % 64 = 0)
      (let u := s.nameAfresh s.issue.id.pasid (s.a b).toNat
       (match u.seek s.issue.agent (s.a b).toNat with
        | some key => u.dropBlock key
        | none => u.dropDescs fun _ => true).judge .performed)

/-- R228, R229: a push with full registers, on a queue whose mode admits it and with a free place, in a run that replays nothing,
passes the gate and leaves its entry for the end of the bundle; a POP leaves its register empty and waits at the queue behind those
before it. -/
def Obligations.QueueOperationResults : Prop :=
  ∀ (s : State) (g : BitVec 4) (q : BitVec 6) (r t : BitVec 5),
    let v := s.queue q
    let fresh : Prop := s.live.run.suppress = [] ∧ s.placeFree = true
    let off := s.a r
    let record : Prop := off.toNat + 64 ≤ s.issue.scrSize ∧ off.toNat % 64 = 0
    let push (kind : Nat) (p : Push) (inside : Context → Context) : State := s.performed fun c =>
      let c := c.gate { kind := kind, target := q.toNat }
      inside (({ c with flow := { c.flow with tail := { c.flow.tail with push := some p } } } : Context).account (-p.weight))
    let item (payload : BitVec 512) (weight ticket : W64) (poisoned : Bool) : Push :=
      { qid := q, payload := payload, weight := weight, ticket := ticket, poisoned := poisoned }
    (fresh → Acts (.push g q r) s (s.guard4 g) [aRef r] (v.ticketMode = false)
      (push kPush (item ((s.a r).zeroExtend 512) 0 0 false) id)) ∧
    (fresh → Acts (.pusht g q r t) s (s.guard4 g) [aRef r, aRef t]
      (v.ticketMode = true ∧ (s.a t).ult v.nt = false ∧ ∀ e ∈ v.entries, e.ticket ≠ s.a t)
      (push kPusht (item ((s.a r).zeroExtend 512) 0 (s.a t) false) id)) ∧
    (fresh → Acts (.pushqw g q r t) s (s.guard4 g) [aRef r, aRef t] (s.mywWait = none ∧ v.ticketMode = false ∧ (s.a t).toNat ≤ s.issue.sys.myw.toNat)
      (push kPushqw (item ((s.a r).zeroExtend 512) (s.a t) 0 false) fun c => c.fly 1 5 (.mywSub (s.a t)))) ∧
    (fresh → Acts (.pushr g q r) s (s.guard4 g) [aRef r] (v.ticketMode = false ∧ record)
      (push kPushr (item (BitVec.ofNat 512 (leNat (s.issue.scrView s.tick off.toNat 64))) 0 0 (s.issue.viewMarked? s.tick off.toNat 64).isSome) id)) ∧
    Acts (.pop g q r) s (s.guard4 g) [aRef r] True ((s.waitAt q r none).judge .performed) ∧
    Acts (.popr g q r) s (s.guard4 g) [aRef r] record ((s.waitAt q r (some off.toNat)).judge .performed)

/-! ### The Anvil slot -/

/-- R63, R65, R233 to R238: the commands of the array where the Anvil is free for them: CLAIM takes the slot and the Anvil, RELEASE
gives them up and has no effect on a slot that is not held, LDW and the beats of ACC, ACCZ and DRAIN start, SWPW exchanges the planes.
Each changes the Anvil and what it names alone. -/
def Obligations.AnvilCommandResults : Prop :=
  ∀ (s : State) (o : BitVec 5) (f : BitVec 4) (n : BitVec 7) (r : BitVec 9) (m : BitVec 2) (e : BitVec 1),
    let x := s.issue.te o.toNat
    let fmt := s.fmtReg (teFmt x)
    let count := n.toNat + 1
    let held : Prop := teClaimed x = true
    let ready : Prop := held ∧ teSt x = teReady ∧ fmtValid fmt = true
    let idle : Prop := s.issue.anvil.run = none
    let port : Prop := s.issue.anvil.ldw = none
    let anvil (g : Anvil → Anvil) : State := s.performed fun c => { c with anvil := g c.anvil }
    let entry (y : W32) : State := s.performed fun c => c.fly 1 6 (.te (o.zeroExtend 6) y)
    let acc (op : Instr) (zero : Bool) : Prop :=
      ready → classOf fmt = s.issue.anvil.act.cls → idle → r.toNat + count ≤ s.issue.accRows →
      exec op s = .next (anvil fun a => { a with run := some (.acc o r.toNat zero m fmt, count) })
    let drain (op : Instr) (f32 : Bool) (fmt : W32) (m : BitVec 2) : Prop :=
      let at_ := s.issue.sys.drp.toNat
      let next := at_ + count * drainBytes f32 fmt + (if e = 1 then 4 else 0)
      idle → s.issue.anvil.pendingRow r.toNat count = none → r.toNat + count ≤ s.issue.accRows → at_ % 4 = 0 →
      next ≤ s.issue.scrSize → exec op s = .next (s.performed fun c =>
        let c := c.fly 1 6 (.sys 0x030 (BitVec.ofNat 64 next))
        { c with anvil := { c.anvil with run := some (.drain r.toNat f32 fmt m at_ (e = 1) true, count) } })
    (¬held → (s.coreOf s.core).owner = none ∨ s.ownsAnvil = true → fmtValid (s.fmtReg f) = true → idle →
      exec (.claim o f) s =
        .next ((entry (mkTe true f 0 0 teEmpty)).mapCore s.core fun k => { k with owner := some s.uid })) ∧
    (held → teSt x ≠ teFilling → teSt x ≠ teDraining → idle → s.issue.anvil.reads o.toNat = false →
      exec (.release o) s =
        let t := entry (mkTe false (teFmt x) (teRem x) (tePh x) teEmpty)
        .next (if s.holdsOther o then t else t.mapCore s.core fun k => { k with owner := none })) ∧
    (¬held → idle → exec (.release o) s = .next (s.performed id)) ∧
    (ready → idle → port → r.toNat + count ≤ 128 → exec (.ldw n o r) s = .next (anvil fun a => { a with
      shadow := if a.shadow.cls = classOf fmt then a.shadow else { cls := classOf fmt, lines := [] }
      ldw := some { om := o, fmt := fmt, line := r.toNat, left := count } })) ∧
    (s.ownsAnvil = true → idle → port → exec .swpw s = .next (anvil fun a => { a with act := a.shadow, shadow := a.act })) ∧
    acc (.acc n o r m) false ∧ acc (.accz n o r m) true ∧
    (fmtValid (s.fmtReg f) = true → drain (.drain n f r m e) false (s.fmtReg f) m) ∧ drain (.drainF32 n r e) true 0 0

/-! ### The copy slot -/

/-- R241 to R244: a copy with full registers, a free thread, an entry in the right state and lengths, offsets and addresses within
their limits starts one thread of the Tongs; an outgoing one passes the gate of the journal. Nothing else changes. -/
def Obligations.CopyResults : Prop :=
  ∀ (s : State) (t : BitVec 6) (d r l : BitVec 5),
    let x := s.a l
    let len := (low32 x).toNat
    let te := s.issue.te t.toNat
    let fmt := s.fmtReg (teFmt te)
    let free : Prop := s.sumCore Context.threads < 64 ∧ x.extractLsb' 32 16 = 0
    let plain : Prop := x.extractLsb' 48 16 = 0
    let unit (y : W64) (n : Nat) : Prop := y.toNat % n = 0
    let inside (y : W64) : Prop := y.toNat + len ≤ s.issue.scrSize
    let held : Prop := t.toNat < 32 → teClaimed te = true
    let start (entry : BitVec 6) (dc : Option (BitVec 16)) (kind : CopyKind) (dst : W64) (n stride : Nat) (fmt : W32)
        (data : List Byte × List Nat) : Copy := s.thread kind entry dc dst (s.a r) n stride fmt data
    let none_ : List Byte × List Nat := ([], [])
    let from_ : List Byte × List Nat := s.issue.scrSource s.tick (s.a r).toNat len
    let both (op opDc : Instr) (st : BitVec 2) (ok : Prop) (f : BitVec 6 → Option (BitVec 16) → Context → Context) : Prop :=
      Acts op s true [aRef d, aRef r, aRef l] (free ∧ plain ∧ teSt te = st ∧ ok) (s.performed (f t none)) ∧
      Acts opDc s true [aRef d, aRef r, aRef l] (free ∧ ok) (s.performed (f 0 (some (x.extractLsb' 48 16))))
    let slot (op opDc : Instr) (ok : Prop) (f : Option (BitVec 16) → Context → Context) : Prop :=
      Acts op s true [aRef r, aRef l] (free ∧ plain ∧ held ∧ fmtValid fmt = true ∧ teSt te = teFilling ∧ ok) (s.performed (f none)) ∧
      Acts opDc s true [aRef r, aRef l] (free ∧ held ∧ fmtValid fmt = true ∧ ok) (s.performed (f (some (x.extractLsb' 48 16))))
    both (.cg2s t d r l) (.cg2sDc d r l) teFilling
      (64 ≤ len ∧ len ≤ 2 ^ 24 - 64 ∧ len % 64 = 0 ∧ inside (s.a d) ∧ unit (s.a r) 64 ∧ unit (s.a d) 64)
      (fun e k c => c.fork (start e k .g2s (s.a d) len 0 0 none_)) ∧
    both (.cs2g t d r l) (.cs2gDc d r l) teDraining
      (64 ≤ len ∧ len ≤ 2 ^ 24 - 64 ∧ len % 64 = 0 ∧ inside (s.a r) ∧ unit (s.a r) 64 ∧ unit (s.a d) 64)
      (fun e k c => c.forkGated { kind := kCs2g, target := 0 } false (start e k .s2g (s.a d) len 0 0 from_)) ∧
    both (.cg2g t d r l) (.cg2gDc d r l) teFilling
      (64 ≤ len ∧ len ≤ 2 ^ 24 - 64 ∧ len % 64 = 0 ∧ unit (s.a r) 64 ∧ unit (s.a d) 64)
      (fun e k c => c.forkGated { kind := kCg2g, target := 0 } true (start e k .g2g (s.a d) len 0 0 none_)) ∧
    both (.cxred t d r l) (.cxredDc d r l) teDraining
      (4 ≤ len ∧ len ≤ 2 ^ 24 - 4 ∧ len % 4 = 0 ∧ inside (s.a r) ∧ unit (s.a r) 4 ∧ unit (s.a d) 64)
      (fun e k c => c.forkGated { kind := kCxred, target := (s.a d).toNat } false (start e k .xred (s.a d) len 0 0 from_)) ∧
    slot (.cg2o ⟨0, t⟩ d r l) (.cg2o ⟨1, t⟩ d r l) (256 ≤ len ∧ len ≤ 2 ^ 32 - 64 ∧ len % 64 = 0 ∧ unit (s.a r) 64)
      (fun k c => c.fork (start t k .g2o (zext64 t) (streamBytes fmt) len fmt none_)) ∧
    slot (.cs2o ⟨0, t⟩ d r l) (.cs2o ⟨1, t⟩ d r l) (64 ≤ len ∧ len ≤ streamBytes fmt ∧ len % 64 = 0 ∧ inside (s.a r) ∧ unit (s.a r) 64)
      (fun k c => c.fork (start t k .s2o (zext64 t) len 0 fmt from_))

/-- R61, R245, R246: TSET and TDRAIN give an entry its count at the end of the bundle; GATHER opens a gather, GIDX queues an index for
it and GEND closes it. -/
def Obligations.TileAndGatherResults : Prop :=
  ∀ (s : State) (t : BitVec 6) (d r l : BitVec 5),
    let te := s.issue.te t.toNat
    let x := s.a l
    let row := (x.extractLsb' 0 16).toNat
    let rows := (x.extractLsb' 16 16).toNat
    let free : Prop := (t.toNat < 32 → teClaimed te = true ∧ s.issue.anvil.reads t.toNat = false ∧
      s.beside ≠ some t.toNat) ∧ 1 ≤ x.toNat ∧ x.toNat ≤ 2 ^ 24 - 1
    let put (st : BitVec 2) : State := s.performed fun c => c.fly 1 7 (.te t (teTo te x.toNat 0 st))
    let mem (f : MemSide → MemSide) : State := s.performed fun c => { c with mem := f c.mem }
    Acts (.tset t l) s true [aRef l] (free ∧ (teSt te = teEmpty ∨ teSt te = teReady)) (put teFilling) ∧
    Acts (.tdrain t l) s true [aRef l] (free ∧ teSt te = teReady) (put teDraining) ∧
    Acts (.gather t d r l) s true [aRef d, aRef r, aRef l]
      (s.sumCore Context.threads < 64 ∧ s.issue.gatherOpen = false ∧ x.extractLsb' 32 32 = 0 ∧ 64 ≤ row ∧ row ≤ 4096 ∧ row % 64 = 0 ∧
        1 ≤ rows ∧ (s.a d).toNat + rows * row ≤ s.issue.scrSize ∧ (s.a d).toNat % 64 = 0 ∧ (s.a r).toNat % 64 = 0)
      (mem fun m => { m with
        nextId := m.nextId + 1
        gathers := m.gathers ++ [{ id := m.nextId, bclk := s.issue.flow.bclk, off := s.issue.flow.pc, te := t, ring := s.a d,
                                   base := global57 (s.a r), row := row, rows := rows, queue := [], landed := 0, closed := false,
                                   phase := .waiting, hidden := [] }] }) ∧
    Acts (.gidx r) s true [aRef r]
      (s.issue.gatherOpen = true ∧ s.sumCore Context.indices < 4096)
      (mem fun m => m.mapOpen fun g => { g with queue := g.queue ++ [low32 (s.a r)] }) ∧
    Acts .gend s true [] (s.issue.gatherOpen = true) (mem fun m => (m.mapOpen fun g => { g with closed := true }).sweepGathers)

/-! ### The control slot -/

/-- R124, R126, R128, R141, R142: PREP, PREPC, PREPI and PREPR fill a transfer buffer at the end of the bundle; LOOP and LOOPI
activate a level there, and a LOOP of count zero activates none and goes on behind the body. -/
def Obligations.PrepareAndLoopResults : Prop :=
  ∀ (s : State) (e y x : BitVec 1) (t b v : BitVec 2) (o19 : BitVec 19) (o14 l14 : BitVec 14) (r : BitVec 5) (c9 : BitVec 9)
    (l10 : BitVec 10) (top : W32),
    let pc := s.issue.flow.pc
    let act (op : Instr) (names : List RegRef) (ok : Prop) (f : Context → Context) : Prop := ActsCtl op s e y x t names ok f
    let prep (kind : PrepKind) (target : W32) (c : Context) : Context := c.fly 1 0 (.prep b kind target)
    let loop (len count : W32) (c : Context) : Context := c.fly 1 0 (.loop v (pc + 1) (pc + len) count)
    let nests (len : W32) : Prop := s.issue.flow.breaksNest v (pc + 1) (pc + len) = false
    let n := low32 (s.a r)
    let len14 : W32 := l14.zeroExtend 32 + 1
    let len10 : W32 := l10.zeroExtend 32 + 1
    act (.prep e y x t b o19) [] True (prep .prep (pc + o19.signExtend 32)) ∧
    act (.prepc e y x t b o19) [] True (prep .prepc (pc + o19.signExtend 32)) ∧
    act (.prepr e y x t b) [] (s.issue.flow.top = some top) (prep .prepr top) ∧
    act (.prepi e y x t b r o14) [aRef r] True (prep .prepi (low32 (s.a r) + o14.signExtend 32)) ∧
    act (.loop e y x t v r l14) [aRef r] (n ≠ 0 ∧ nests len14) (loop len14 n) ∧
    act (.loop e y x t v r l14) [aRef r] (n = 0)
      (fun c => { c with flow := { c.flow with tail := { c.flow.tail with skip := some (c.flow.pc + 1 + len14) } } }) ∧
    act (.loopi e y x t v c9 l10) [] (nests len10) (loop len10 (c9.zeroExtend 32 + 1))

/-- R143, R144, R146, R148, R155, R156: BUDGET declares, MARK logs a drift that reaches its threshold, WAITTE goes on at a READY entry of
its phase, DRAINW and SUSP leave a stop for the end of the bundle, TRAP a cause, and RFT returns in handler mode. -/
def Obligations.ControlResults : Prop :=
  ∀ (s : State) (e y x : BitVec 1) (t : BitVec 2) (c21 : BitVec 21) (c16 : BitVec 16) (n q : BitVec 6) (h : BitVec 1) (r : BitVec 5),
    let te := s.issue.te n.toNat
    let tail (f : Tail → Tail) (c : Context) : Context := { c with flow := { c.flow with tail := f c.flow.tail } }
    ActsCtl (.budget e y x t c21) s e y x t [] True
      (fun c => c.fly 1 0 (.budget (if c21 = 0 then 0xFFFFFFFF else c21.zeroExtend 32))) ∧
    ActsCtl (.mark e y x t c21) s e y x t [] (s.drifts c21 = false) id ∧
    (s.drifts c21 = true → s.tailReady x t → (e = 1 → s.homeSound) → exec (.mark e y x t c21) s =
      .next (((s.logDrift c21).mapLive fun c => c.tailAct (s.buf t) e y x t).judge .performed)) ∧
    ActsCtl (.waitte e y x t n h) s e y x t [] (teSt te = teReady ∧ tePh te = h) id ∧
    ActsCtl (.drainw e y x t) s e y x t [] True (tail fun z => { z with drainw := true }) ∧
    ActsCtl (.susp y x t r q) s 0 y x t [aRef r] True (tail fun z => { z with stop := .susp (s.a r) q 0 }) ∧
    ActsCtl (.trap e y x t c16) s e y x t [] True (fun c => c.fly 1 0 (.cause 0x13 (zext64 c16))) ∧
    ActsCtl (.rft e y) s e y 0 0 [] (s.issue.trap.handler = true ∧ s.issue.sys.tpc.extractLsb' 32 16 = s.issue.id.obj)
      (tail fun z => { z with rft := true })

/-- R41, R145: a SYNC of a member of a gang of its scope waits until it is the last to arrive; the last arrival releases the members
and performs, and so does a SYNC whose release has come. That the last arrival's own bundle performs at its arrival and the others' at the restart
cycle, from which all go on together, is the model's choice (entry 59). -/
def Obligations.SyncResults : Prop :=
  ∀ (s : State) (e y x : BitVec 1) (t sc : BitVec 2),
    let b := s.issue.flow.barrier
    let held : Prop := b = .none ∨ b = .arrived
    let done (u : State) : State := ((u.mapLive fun c =>
      { c with flow := { c.flow with barrier := if b = .late then .none else .issued } }).mapLive fun c =>
        c.tailAct (s.buf t) e y x t).judge .performed
    s.gangFits sc = true → s.tailReady x t → (e = 1 → s.homeSound) →
    (held → s.lastToArrive = false → exec (.sync e y x t sc) s = .next (s.arrive.judge (.waits 5))) ∧
    (held → s.lastToArrive = true → exec (.sync e y x t sc) s = .next (done s.releaseGang)) ∧
    (¬held → exec (.sync e y x t sc) s = .next (done s))

/-- R31, R35, R147, R151, R152: SPAWN of a well-formed record reads it from scratchpad and offers it, T in its predicate, where a place is
free; writes F, and neither splits nor borrows, where none is; and raises RANGE at the end of the bundle where a place is free and the borrow that it
needs overflows, which no value of QBSZ from 1 to 2^62 (R138) makes it do. It never waits for the Hearth: that its borrow follows the earlier operations
of its context, and that nothing reads the new MYW before, is the model's reading of R45 (entry 165). -/
def Obligations.SpawnResults : Prop :=
  ∀ (s : State) (e y x : BitVec 1) (t : BitVec 2) (p q : BitVec 6) (r : BitVec 5),
    let off := (s.a r).toNat
    let rec_ := s.spawnRecord off
    let w := s.issue.sys.myw
    let spills : Prop := s.issue.inDomain = true ∧ w = 1 ∧ overflows w s.issue.sys.qbsz = true
    let good : Prop := off % 64 = 0 ∧ off + 64 ≤ s.issue.scrSize ∧ spawnBad rec_ = false ∧ s.issue.viewMarked? s.tick off 64 = none ∧
      (recField rec_ 0 16 : BitVec 16).toNat < ((s.bind? s.issue.id.pasid).map (·.objn)).getD 0
    let sound : Prop := w = 1 → s.homeSound
    ActsCtl (.spawn e y x t p r q) s e y x t [aRef r] (good ∧ s.takesSpawn q = true ∧ sound ∧ ¬spills) (fun c => c.spawn w p q rec_) ∧
    ActsCtl (.spawn e y x t p r q) s e y x t [aRef r] (good ∧ s.takesSpawn q = false)
      (fun c => c.fly 1 0 (.p (p.zeroExtend 7) predF)) ∧
    ActsCtl (.spawn e y x t p r q) s e y x t [aRef r] (good ∧ s.takesSpawn q = true ∧ sound ∧ spills)
      (fun c => c.fly 1 0 (.cause 0x09 (w + s.issue.sys.qbsz)))

/-- R152: the weight operations, those on the block of the domain where it is sound. Outside a domain QBORROW and QRET have no effect and QSPLIT writes 0; a sum of weights beyond 64 bits
raises RANGE at the end of the bundle; QSPLIT of weight 1 borrows first, of more writes half and keeps the rest. That it waits, to borrow, until the
Hearth has performed the earlier operations of its context, and behind the borrow of another split, is the model's reading of R45 (entry 165). That a
context which the gate has killed, since its replay diverges there (R356), takes no split is the model's reading too (entry 75). -/
def Obligations.WeightResults : Prop :=
  ∀ (s : State) (e y x : BitVec 1) (t : BitVec 2) (n : BitVec 16) (r : BitVec 5),
    let w := s.issue.sys.myw
    let bsz := s.issue.sys.qbsz
    let m : W64 := if n = 0 then bsz else zext64 n
    let domain := s.issue.inDomain
    let fits (a b : W64) : Prop := a.toNat + b.toNat < 2 ^ 64
    let act (op : Instr) (names : List RegRef) (ok : Prop) (f : Context → Context) : Prop := ActsCtl op s e y x t names ok f
    let range (z : W64) (c : Context) : Context := c.fly 1 0 (.cause 0x09 z)
    let split (w : W64) (c : Context) : Context := (c.fly 1 0 (.a r (w / 2))).fly 1 0 (.myw (w - w / 2))
    act (.qborrow e y x t n) [] (domain = false) id ∧
    act (.qborrow e y x t n) [] (domain = true ∧ s.homeSound ∧ ¬fits w m) (range (w + m)) ∧
    act (.qborrow e y x t n) [] (domain = true ∧ s.homeSound ∧ fits w m) (fun c => c.pass { kind := kQborrow, target := c.sys.qdi.toNat }
      (fun c => (c.send (.borrow c.home? m false)).account m) fun c => c.fly 1 0 (.myw (w + m))) ∧
    act (.qsplit e y x t r) [aRef r] (s.borrowWait = none ∧ (domain = false ∨ w = 0)) (fun c => c.fly 1 0 (.a r 0)) ∧
    act (.qsplit e y x t r) [aRef r] (domain = true ∧ w = 1 ∧ s.borrowWait = none ∧ s.homeSound ∧ ¬fits w bsz) (range (w + bsz)) ∧
    (∀ k, s.full [aRef r] = true → s.borrowWait = some k → exec (.qsplit e y x t r) s = .next (s.judge (.waits k))) ∧
    act (.qsplit e y x t r) [aRef r] (domain = true ∧ w = 1 ∧ s.borrowWait = none ∧ s.homeSound ∧ fits w bsz)
      (fun c => if c.borrowFirst.id.killed then c.borrowFirst else split (w + bsz) c.borrowFirst) ∧
    act (.qsplit e y x t r) [aRef r] (s.borrowWait = none ∧ domain = true ∧ 2 ≤ w.toNat) (fun c => if c.id.killed then c else split w c) ∧
    act (.qjoin e y x t r) [aRef r] (fits w (s.a r)) (fun c => c.fly 1 0 (.myw (w + s.a r))) ∧
    act (.qjoin e y x t r) [aRef r] (¬fits w (s.a r)) (range (w + s.a r)) ∧
    act (.qret e y x t) [] (domain = false) id ∧
    act (.qret e y x t) [] (domain = true ∧ s.homeSound) (fun c => c.pass { kind := kQret, target := c.sys.qdi.toNat }
      (fun c => (c.send (.ret c.home? w false c.sys.wic)).account (-w)) fun c => c.fly 1 0 (.myw 0))

/-- R43, R44, R47, R152, R153: QNEW and QWAIT that name a domain of the process whose block can be reached, while the block of their own
domain is sound: QNEW with a weight from 1
to 2^62 gives the weight it holds back and starts the domain, with any other raises RANGE at the end of the bundle; QWAIT leaves its
wait for the end of the bundle. -/
def Obligations.DomainOperationResults : Prop :=
  ∀ (s u : State) (e y x : BitVec 1) (t : BitVec 2) (q w : BitVec 5) (b : Bind) (key va : Nat),
    s.tailReady x t → s.full [aRef q] = true → s.bind? s.issue.id.pasid = some b → (s.a q).toNat < b.qdn →
    s.nameDomain (s.issue.asks s.uid) (s.a q).toNat = (u, .block key va) → s.isHost key = false → u.homeSound →
    (s.full [aRef w] = true → 1 ≤ (s.a w).toNat → (s.a w).toNat ≤ 2 ^ 62 → exec (.qnew e y x t q w) s =
      .next (u.performedCtl e y x t fun c => c.qnew s.issue.sys.myw (s.a q) (s.a w) key va)) ∧
    (s.full [aRef w] = true → (s.a w).toNat = 0 ∨ 2 ^ 62 < (s.a w).toNat → exec (.qnew e y x t q w) s =
      .next (u.performedCtl e y x t fun c => c.fly 1 0 (.cause 0x09 (s.a w)))) ∧
    (s.isPeer key = false → exec (.qwait y x t q) s = .next (u.performedCtl 0 y x t fun c =>
      { c with flow := { c.flow with tail := { c.flow.tail with stop := .qwait (BitVec.ofNat 64 key) 0 } } }))

/-! ### Events of the memory side -/

/-- R116, R164, R218, R220 to R224, R249, R326, R344, R348, R350: an outstanding access whose translations are at hand and that nothing holds back performs: a
load or an atomic lands, a write drains, and where its data cannot be had it fails. A division writes its singleton or raises DIVZERO, whose
TINFO names the destination (log 39), and a gather or a scatter of the scratchpad ends, or fails where it has read poison. -/
def Obligations.AccessEventResults : Prop :=
  ∀ (s : State) (uid id : Nat) (c : Context) (a : Acc) (ps : List (Nat × Nat)),
    s.ctx? uid = some c →
    let at_ : Prop := c.acc? id = some a ∧ a.phase = .waiting ∧ c.mem.holds a = false ∧ s.accHeld uid c a ps = false ∧
      s.accPlaces uid c a = some ps
    let tagged (t : State) : State := t.mapCtx uid fun c => t.tagStep uid c
    let ends (op : Instr) (t : State) : Prop :=
      (s.accFault c a ps = none → exec op s = .next t) ∧
      ∀ code reason info va, s.accFault c a ps = some (code, reason, info, va) →
        exec op s = .next (s.failAccess uid a code reason info va)
    (at_ → c.awake = true → a.op.reads = true → c.midWake a = false → ends (.loadLanding uid id)
      (if a.op.loads then s.performLoad uid c a ps else s.hideFrom (s.performLoad uid c a ps) uid a ps)) ∧
    (at_ → c.drains = true → a.op.reads = false → a.op.size ≠ 0 →
      ends (.writeDrained uid id) (s.hideFrom (s.performWrite uid c a ps) uid a ps)) ∧
    (∀ d, c.mem.divs.find? (fun d => d.id = id) = some d →
      let gone := s.mapCtx uid fun c => { c with mem := { c.mem with divs := c.mem.divs.filter fun x => x.id ≠ id } }
      exec (.divRemWrite uid id) s = .next (tagged (match d.result with
        | some x => gone.landReg uid 1 id d.off d.bclk (kRef d.d) fun g => g.writeK d.d (domSingle x.toInt)
        | none => gone.mapCtx uid fun c => c.blame (causeAt d.bclk 0x14 1 d.off (regInfo .k d.d.toNat))))) ∧
    (∀ x, c.mem.scats.find? (fun x => x.id = id && !x.failed) = some x →
      let gone := s.mapCtx uid fun c => { c with mem := { c.mem with scats := c.mem.scats.filter fun y => y.id ≠ id } }
      let full (t : State) (r : BitVec 6) : State := t.landLate uid 5 id x.off x.bclk (vRef r) none
      (∀ i, x.index = some i → exec (.scatterGatherDone uid id) s =
        .next (tagged (full (full (gone.mapCtx uid fun c => { c with mem := c.mem.scatter x }) x.r) i))) ∧
      (x.index = none → x.bad = none → exec (.scatterGatherDone uid id) s =
        .next (tagged (gone.landReg uid 5 id x.off x.bclk (vRef x.r) fun g => g.writeV x.r x.data))) ∧
      (∀ o, x.index = none → x.bad = some o → exec (.scatterGatherDone uid id) s =
        .next (tagged (s.mapCtx uid fun c => c.failScatter x o))))

/-- R242, R244, R246, R329, R348, R350: a sector of a copy, or a row of a gather into a FILLING entry, whose translations are at hand and that nothing
holds back lands: its bytes move, its entry counts, and where its data cannot be had the thread fails. -/
def Obligations.CopyEventResults : Prop :=
  ∀ (s : State) (uid id k : Nat) (c : Context) (x : Copy) (g : Gather),
    s.ctx? uid = some c → s.popBefore uid id = false →
    let agent := c.agentOf uid id
    let lines (ps : List (Nat × Nat)) (n : Nat) : List (Nat × Nat) :=
      ps.flatMap fun p => (List.range (p.2 / n)).map fun i => (p.1 + n * i, n)
    let places (kind : AccKind) (vs : List (Nat × Nat)) : List (Nat × Nat) := (s.placesOf agent kind vs).getD []
    let tagged (t : State) : State := t.mapCtx uid fun c => t.tagStep uid c
    (c.mem.copies.find? (fun x => x.id = id) = some x → c.threadsMove = true ∨ x.quench = true →
      (x.te.isSome = true → s.triedNow c = false) → x.left.contains k = true → x.failed = none → x.paged.contains k = false →
      c.mem.copyHeld x k (s.counterParts uid agent x) = false → s.sectorNeed uid agent x k = none →
      let from_ := lines (x.sourceParts k) 64
      let to_ := lines (x.destParts k) 64
      let count := s.counterParts uid agent x
      let source := s.moveFault c from_ (places .read from_)
      let dest := s.moveFault c (to_ ++ count) (places .write (to_ ++ count))
      s.passedThere uid c.id.core (places .read from_) = false →
      (source = none → dest = none → exec (.copySectorLands uid id k) s = .next ((tagged
        ((((s.moveSector uid c x k (s.chunksOf c.mem x.bclk (from_.zip (places .read from_))) (places .write to_)).countSector uid c x
          k).sectorSeen uid x (places .write (to_ ++ count))).mapCtx uid fun c => c.sectorDone id k)).reap uid)) ∧
      (∀ code reason va, source = some (code, reason, va) →
        exec (.copySectorLands uid id k) s = .next ((s.mapCtx uid fun c => c.failCopy id code reason va 0).reap uid)) ∧
      (∀ code reason va, source = none → dest = some (code, reason, va) → exec (.copySectorLands uid id k) s =
        .next ((s.mapCtx uid fun c => c.failCopy id code reason va (if x.kind = .xred then 3 else 1)).reap uid))) ∧
    (c.mem.gathers.find? (fun g => g.id = id) = some g → c.threadsMove = true → s.triedNow c = false → g.rowParts ≠ [] → g.phase = .waiting → teSt (c.te g.te.toNat) = teFilling →
      c.mem.heldBefore g.id true = false → c.mem.forkWaits g.id g.bclk false g.rowParts [] = false → s.missingIn agent .read g.rowParts = none →
      let from_ := lines g.rowParts 64
      let source := s.moveFault c from_ (places .read from_)
      s.passedThere uid c.id.core (places .read from_) = false →
      (source = none → exec (.gatherRowLands uid id) s =
        .next (tagged (s.mapCtx uid fun c' => c'.landRow g (s.rowChunks c.mem g (from_.zip (places .read from_)))))) ∧
      (∀ code reason va, source = some (code, reason, va) →
        exec (.gatherRowLands uid id) s = .next (s.mapCtx uid fun c => c.failGather g code reason va)))

/-- R66, R67, R71 to R73, R77, R284, R325, R348: a walk for what needs a page, by the binding that it goes by, finds it and holds the translation, or
asks the host for it, or fails what it is for where a table is out of reach or closed to its world; the answer lets what waits on the stack of the
request walk again or fails it; an overlay whose bytes can be read is held, fetched or prefetched, and one that is resident is not fetched again. -/
def Obligations.TranslationEventResults : Prop :=
  ∀ (s : State) (pasid : BitVec 20) (va : BitVec 57) (kind : AccKind) (core i : Nat),
    let walks (t : State) : Prop := exec (.pageWalk pasid va kind) s = .next t
    (∀ m ms b, s.walkNeeds pasid (va.toNat / 4096) kind = m :: ms → s.bindingOf m.agent = some b → s.descPoisoned b = false →
      let found := s.walk b m.agent.world va.toNat kind
      (∀ base size pa w nx entry esize value apos dpos, found = .page base size pa w nx entry esize value apos dpos →
        walks ((s.holdPage m.agent kind base size pa w nx entry esize value apos dpos).walkDone m.agent va.toNat kind)) ∧
      (found = .absent → walks (s.walkFails (m :: ms) m.agent va.toNat kind none)) ∧
      (∀ nx, found = .denied nx → walks (s.walkFails (m :: ms) m.agent va.toNat kind (some nx))) ∧
      (∀ key, found = .cut key → walks (s.failNeeds (m :: ms) (.same 0x31 0))) ∧ (found = .closed → walks (s.barNeeds (m :: ms) false))) ∧
    (∀ r, s.awaited pasid va.toNat kind = some r →
      exec (.pageResponse pasid va kind true) s = .next (s.answerPage r (s.waitingOn r)) ∧
      exec (.pageResponse pasid va kind false) s = .next (s.refusePage r (s.waitingOn r))) ∧
    (∀ uid j c, s.fetchReady (s.coreOf core) = some (uid, j, c) → ((s.coreOf core).overlay? c.id.hash j).isSome = true →
      exec (.overlayLoaded core) s = .next (s.mapCore core fun k => k.endFetch uid j)) ∧
    (∀ uid j c b t key x ps, s.fetchReady (s.coreOf core) = some (uid, j, c) → s.bind? c.id.pasid = some b →
      (s.coreOf core).overlay? c.id.hash j = none → (s.coreOf core).overlay? (objOf x).hash j = none →
      s.readTable (c.reads (.fetch core uid)) (b.objectAt c.id.obj.toNat) 32 = (t, .at_ key, x) → t.isPoisoned key 32 = false →
      t.spans c.agent ((objOf x).base.toNat + 8192 * j) 8192 .fetch = some ps → t.fetchBars c ps = none →
      exec (.overlayLoaded core) s =
        let v := t.mapCtx uid fun c => { c with id := { c.id with base := (objOf x).base } }
        .next (v.mapCore core fun k => (k.endFetch uid j).hold (v.positionOn k) (v.overlayOf (objOf x).hash j ps))) ∧
    (∀ uid c t u o ps, (s.coreOf core).cur = some uid → s.ctx? uid = some c → c.prefetches.contains i = true →
      (s.coreOf core).overlay? c.id.hash i = none → 256 * i < c.id.clen → s.findObject c = some (t, o) →
      (s.coreOf core).overlay? o.hash i = none → t.findAll c.agent .fetch (piecesOf (o.base.toNat + 8192 * i) 8192) = some (u, ps) →
      u.spansPoisoned ps = false →
      exec (.overlayPrefetch core i) s = .next (u.mapCore core fun k => k.hold (u.positionOn k) (u.overlayOf o.hash i ps)))

/-! ### Events of the scheduler -/

/-- R22, R37 to R41, R51, R319: an idle core with a candidate runs it, and a gang with a member for each core runs at once, where no entry with a
deadline waits for the core of a member without one; a core whose
context has waited long enough parks it; a spent slice ends in BUDGETOVR; a gang restarts at its cycle. How a finite deadline of one member
counts for its gang is the model's choice (entry 157), and so is how the entries of a queue group into gangs (entry 196). -/
def Obligations.SchedulingEventResults : Prop :=
  ∀ (s t : State) (n g q uid : Nat) (c : Context) (x : Ranked) (k : Gang),
    ((s.coreOf n).cur = none → n < 1024 → s.mail.failed = false → s.pickFor n = some x →
      (s.mapCore n fun k => { k with room := none }).give n x = some t → exec (.dispatch n) s = .next t) ∧
    (∀ es u,
      let stack : Bool := Tbl.get 0 (s.clusterOf g).mode q = 2
      let cores := gangCores g stack
      let ms := cores.zip es
      Tbl.get 0 (s.clusterOf g).mode q ≠ 0 → q < 16 → gangsIn ((s.clusterOf g).queue q) cores.length = [es] →
      s.gangReady ms false = true → (∀ m ∈ ms, m.2.finite = false → (s.bestFor m.1).any Ranked.finite = false ∧ s.finiteGangOn m.1 = false) →
      s.gangLacks ms = none → s.gangTables g q ms = (u, true) →
      let v := u.startGang g q u.freshGang ms
      (∀ m ∈ ms, m.2 ∉ (v.clusterOf g).queue q) → exec (.gangDispatch g q) s =
        let k : Gang := { stack := stack, members := v.gangMembers u.freshGang, arrived := [], restart := none }
        .next { v with gangs := Tbl.put v.gangs u.freshGang k }) ∧
    ((s.coreOf n).cur = some uid → s.ctx? uid = some c → 256 ≤ (s.coreOf n).waited → c.flow.causes = [] → c.budget.spent = false →
      c.swage.busy = false → c.stopsNow = false → exec (.park n) s =
      .next ((s.mapCtx uid fun c => { c with id := { c.id with status := .parked } }).mapCore n fun k =>
        { k with cur := none, waited := 0, source := 0 })) ∧
    ((s.coreOf n).cur = some uid → s.ctx? uid = some c → c.id.status = .running → c.budget.spent = true → c.swage.busy = false →
      c.sliceOver = false → exec (.budgetovr n) s = .next (s.mapCtx uid Context.overrun)) ∧
    (∀ at_, Tbl.find s.gangs g = some k → k.restart = some at_ → s.mcc.ult at_ = false → exec (.barrierRestart g) s =
      let u := k.members.foldl (fun s m => s.mapCtx m fun c => { c with flow := { c.flow with barrier := c.flow.barrier.restart } }) s
      .next { u with gangs := Tbl.put u.gangs g { k with arrived := [], restart := none } })

/-- R19, R33, R49, R283, R302, R330, R335, R336: a run whose engines are empty ends, its samples recorded; a halted context of a preempted core begins its eviction, which
ends with its image written, or halted unsaved where its record cannot be reached (R335); an image that can be read is resumed. That the samples
of a run which are still open are recorded as it ends is the model's choice (entry 163), and so is that a context
that a refused save slot has halted stays so until a PREEMPT is issued again (entry 118), and that an eviction goes by the binding of its completion
(entry 205). -/
def Obligations.RunEventResults : Prop :=
  ∀ (s : State) (n uid : Nat) (c : Context) (p : Preempt),
    s.ctx? uid = some c →
    let empty : Prop := c.id.status = .running ∧ c.enginesEmpty = true ∧ c.flow.causes = [] ∧ c.swage.busy = false
    let ends (c' : Context) : Prop :=
      exec (.enginesEmpty uid) s = .next (if c'.id.killed then s.machineEnd uid c 1 else
        (s.lastSamples c).retire uid { c with dbg := { c.dbg with tags := [] } } c')
    (empty → c.flow.stop = .ending → ends c.endWeight) ∧
    (∀ d q next, empty → c.flow.stop = .susp d q next → ends (c.suspOffer d q next)) ∧
    (s.mail.preempt = some p → p.cores.contains n = true → (s.coreOf n).cur = some uid → targets p.target c = true →
      c.id.status = .running → c.flow.barrier = .none ∨ c.flow.barrier = .arrived →
      c.swage.busy = true ∨ (c.flow.causes = [] ∧ c.budget.spent = false ∧ s.fetchStands uid c = none) → exec (.preemptHalt n) s =
        .next (({ s with mail := { s.mail with
          preempt := some { p with cores := removeNat n p.cores, waiting := insertNat uid p.waiting } } } : State).beginEvict uid 1 none)) ∧
    (s.mail.preempt = some p → p.cores = [] → p.waiting.any s.preempting = false → exec .preemptCompletion s =
      let t := { s with mail := { s.mail with
        preempt := none
        queue := s.mail.queue.drop 1
        unlisted := s.mail.unlisted ++ p.pending.map fun a => (p.target, a) } }
      .next (State.runMail 64 (t.complete 0x02 (if p.pending.isEmpty then stOk else stMore) p.listed))) ∧
    let base := if c.id.atQwait then c.savedBase else s.recordAddr c
    (∀ why report t, c.id.status = .evicting why report → s.settled uid c = true →
      (∀ keys, s.reachPages (c.reads (.image uid)) .write (c.savePages base) = (t, .at_ keys) →
        exec (.evictionCompletes uid) s = .next (t.saveImage uid why base keys report c)) ∧
      (∀ code r unit va, s.reachPages (c.reads (.image uid)) .write (c.savePages base) = (t, .fail code r unit va) →
        exec (.evictionCompletes uid) s = .next (t.haltUnsaved uid why code r unit va c))) ∧
    (∀ t u b keys k x, c.id.status = .restoring → s.reachPages (c.reads (.image uid)) .read ((c.savePages c.savedBase).drop 1) = (t, .at_ keys) →
      c.id.unresumable = false → t.bind? c.id.pasid = some b → t.readTable (c.reads (.image uid)) (b.objectAt c.id.obj.toNat) 32 = (u, .at_ k, x) →
      u.isPoisoned k 32 = false → (objOf x).hash = c.id.hash →
      exec (.imageRestored uid) s = .next (u.resumed uid (u.readArea c keys) (objOf x)))

/-- R34, R44, R45, R150, R151, R153, R229, R259: the first Hearth operation of a context performs, a return or a wait once its earlier writes
have drained; an offered record is accepted, and so is a push that had to wait; an entry comes back when there is room; a waiting POP receives the next entry. -/
def Obligations.QueueAndHearthEventResults : Prop :=
  ∀ (s : State) (uid g q : Nat) (c : Context),
    let v := (s.clusterOf g).values q
    (∀ block total, s.nextOp? uid = some (c, .qnew block total) →
      exec (.hearthQnew uid) s = .next ((s.initBlock block.toNat total).opDone uid)) ∧
    (∀ block m split, s.nextOp? uid = some (c, .borrow block m split) →
      exec (.hearthBorrow uid) s = .next ((s.borrowInto block.toNat m).opDone uid)) ∧
    (∀ block w faulted stamp, s.nextOp? uid = some (c, .ret block w faulted stamp) → c.wdc.ult stamp = false →
      exec (.hearthReturn uid) s = .next ((s.giveBack block.toNat w faulted).opDone uid)) ∧
    (∀ home w block stamp waiter, s.nextOp? uid = some (c, .qwait home w block stamp waiter) → c.wdc.ult stamp = false →
      exec (.hearthQwait uid) s =
        .next ((s.mapCtx uid fun c => { c with mem := { c.mem with hearth := c.mem.hearth.drop 1 } }).waitOn uid home w block.toNat waiter)) ∧
    (∀ k r stamp, s.nextOp? uid = some (c, .offer k r stamp) →
      exec (.spawnAcceptance uid) s = .next ((s.acceptFresh c.id.home k.toNat r (some (uid, stamp))).opDone uid)) ∧
    (∀ p stamp, s.nextOp? uid = some (c, .push p stamp) →
      exec (.spawnAcceptance uid) s = .next ((s.acceptPush c.id.home c.id.pasid p (uid, stamp)).opDone uid)) ∧
    (∀ e, q < 16 → firstSpilled ((s.clusterOf g).queue q) = some e → spillsSched ((s.clusterOf g).queue q) = false →
      exec (.entryReturn g q) s = .next (s.mapCluster g fun k =>
        k.setQueue q (((s.clusterOf g).queue q).map fun x => if x = e then { x with spilled := false } else x))) ∧
    (16 ≤ q → (v.entries.any fun e => e.spilled) = true → (v.entries.filter fun e => !e.spilled).length < chipSize →
      exec (.entryReturn g q) s = .next (s.mapCluster g fun k => k.setValues q { v with entries := unspillFirst v.entries })) ∧
    let unwait (v : VQueue) (w : Waiter) : State := s.mapCluster g fun k => k.setValues q { v with waiters := v.waiters.erase w }
    (∀ w d, s.redelivery? q v = some (w, d) → exec (.queueDelivery g q) s =
      .next (((unwait v w).mapCtx w.ctx fun c => { c with run := { c.run with again := c.run.again.erase d } }).deliver w d.payload d.weight)) ∧
    (∀ w ws e, v.waiters = w :: ws → s.redelivery? q v = none → s.again? w.ctx q = none → v.next? = some e → s.stampMet e.stamp = true →
      s.popHeld w = false → w.failed = false → e.poisoned = false →
      exec (.queueDelivery g q) s =
        .next (((unwait (v.take e) w).mapCtx w.ctx fun c =>
          c.journal { qid := q, payload := e.payload, weight := e.weight }).deliver w e.payload e.weight))

/-! ### The host, the debugger and the package -/

/-- R74, R262, R281 to R289, R322, R323, R352, R357: a command posted to an empty mailbox while the device takes commands is performed
at once: with good operands it has its effect and completes with OK, with any other it completes with BADARG and has none, and a QMODE of a value
queue that holds entries or waiting POPs completes with BUSY. PREEMPT,
a KILL that waits for a page and an INVAL while a write has still to perform by a translation that it drops stay at the head of the mailbox, and a command for a full one is turned away. The model's choices are: the BADARG
of a KILL whose record cannot be reached (entry 124), the read of a PASID block at the device's own address (entry 127), a ROUTE that replaces an
entry of its BASE and the BADARG of a 65th (entry 128), the operand packing (entry 129) and ATTEST's 56 result bytes (entry 132). -/
def Obligations.CommandResults : Prop :=
  ∀ (s : State) (o : CmdOps),
    s.takesHost = true → s.mail.queue = [] → s.mail.preempt = none → o.stray = false →
    let posted (code : Byte) : State :=
      { s with mail := { s.mail with queue := [{ code := code, ops := o }], accepted := s.mail.accepted + 1 } }
    let ends (code status : Byte) (results : Nat) (u : State) : State :=
      (({ u with mail := { u.mail with queue := [] } } : State).forget .command).complete code status results
    let cmd (op : Instr) (code : Byte) (good : Prop) (results : Nat) (f : State → State) : Prop :=
      (good → exec op s = .next (ends code stOk results (f (posted code)))) ∧
      (¬good → exec op s = .next (ends code stBadArg 0 (posted code)))
    let x := s.block (keyOf s.fabric.hdm o.b16.toNat)
    let desc : BitVec 256 := BitVec.ofNat 256 (s.word (keyOf s.fabric.hdm (recField x 0 64 : W64).toNat) 32)
    let route := ((s.fabric.routes.find? fun e => e.2.1 = o.b8).map (·.1)).getD s.fabric.routes.length
    let report := s.fabric.report (o.b32 ++ o.b24 ++ o.b16 ++ o.b8)
    let n := (o.b8 &&& 0x7FFFFFFFFFFFFFFF).toNat
    let cluster := bitOf o.b8 63
    let values := (s.clusterOf o.b8.toNat).values o.b16.toNat
    let goodPreempt : Prop :=
      targetOk o.b8 = true ∧ o.b16.extractLsb' 0 3 = 0 ∧ 1 ≤ o.b24.toNat ∧ o.b24.toNat ≤ 65536 ∧ o.b32 = 0
    let goodInval : Prop := pasidOk o.b8 = true ∧ o.b32 = 0
    let dropped (s : State) : State := { s with mmu := { s.mmu with
      tlb := s.mmu.tlb.filter fun t => !(t.pasid = pasidOf o.b8 &&
        (decide (o.b24 = 0) || rangesMeet t.base (2 ^ t.size) (o.b16.toNat % 2 ^ 57) o.b24.toNat)) } }
    let goodQmode : Prop := qmodeOk o.b8.toNat o.b16.toNat o.b24.toNat = true ∧ o.b32 = 0
    let free : Prop := 16 ≤ o.b16.toNat → values.entries = [] ∧ values.waiters = []
    let goodKill : Prop := pasidOk o.b16 = true ∧ o.b24 = 0 ∧ o.b32 = 0
    cmd (.bindpasid o) 0x01 (o.b24 = 0 ∧ o.b32 = 0 ∧ pasidOk o.b8 = true ∧ bindBad x = false) 0
      (fun s => { s with mmu := { s.mmu with
        binds := Tbl.put s.mmu.binds o.b8.toNat (bindOf x desc), prior := s.priorOf (pasidOf o.b8) } }) ∧
    (goodPreempt → exec (.preempt o) s = .next ((posted 0x02).beginPreempt o)) ∧
    (¬goodPreempt → exec (.preempt o) s = .next (ends 0x02 stBadArg 0 (posted 0x02))) ∧
    (s.usesOld o = false ∨ ¬goodInval → cmd (.inval o) 0x03 goodInval 0 dropped) ∧
    (s.usesOld o = true → goodInval → exec (.inval o) s = .next (dropped (posted 0x03))) ∧
    (free → cmd (.qmode o) 0x04 goodQmode 0 fun s =>
      s.mapCluster o.b8.toNat fun k =>
        if o.b16.toNat < 16 then { k with mode := Tbl.set 0 k.mode o.b16.toNat (BitVec.ofNat 2 o.b24.toNat) }
        else if o.b24 = 4 then k.setValues o.b16.toNat { values with ticketMode := true, nt := 0 }
        else k.setValues o.b16.toNat { values with ticketMode := false }) ∧
    (¬free → exec (.qmode o) s = .next (ends 0x04 (if goodQmode then stBusy else stBadArg) 0 (posted 0x04))) ∧
    cmd (.descinv o) 0x05 (pasidOk o.b8 = true ∧ o.b16 = 0 ∧ o.b24 = 0 ∧ o.b32 = 0) 0
      (fun s => { s with mmu := { s.mmu with
        binds := Tbl.update (fun b => { b with desc := none }) s.mmu.binds o.b8.toNat
        prior := s.mmu.prior.map fun p => if ((s.ctx? p.uid).map fun c => c.id.pasid) = some (pasidOf o.b8) then
          { p with bind := { p.bind with desc := none } } else p } }) ∧
    cmd (.temper o) 0x06 (o.b16.toNat ≤ 65535 ∧ o.b24 = 0 ∧ o.b32 = 0) 0 (fun s =>
      ((List.range 64).filter fun g => bitOf o.b8 g).foldl
        (fun s g => s.mapCluster g fun k => { k with pmax := o.b16.toNat, pc := min k.pc o.b16.toNat }) s) ∧
    cmd (.route o) 0x07 (o.b8.extractLsb' 0 39 = 0 ∧ o.b16.toNat ≤ 65535 ∧ o.b24 = 0 ∧ o.b32 = 0 ∧ route < 64) 0
      (fun s => { s with fabric := { s.fabric with routes := Tbl.put s.fabric.routes route (o.b8, o.b16.extractLsb' 0 16) } }) ∧
    cmd (.attest o) 0x08 True (leNat (report.take 56)) (fun s => { s with mail := { s.mail with doe := report } }) ∧
    cmd (.fring o) 0x09 (ringOk o = true) 0 (fun s =>
      ({ s with faults := { s.faults with named := true, base := o.b8.toNat, size := o.b16.toNat, wp := 0, rp := 0 } } : State).drainFaults
        s.faults.held) ∧
    (¬goodKill → exec (.kill o) s = .next (ends 0x0A stBadArg 0 (posted 0x0A))) ∧
    (goodKill →
      (s.killed? (pasidOf o.b16) o.b8.toNat = none → exec (.kill o) s = .next (ends 0x0A stBadArg 0 (posted 0x0A))) ∧
      ∀ uid c, s.killed? (pasidOf o.b16) o.b8.toNat = some (uid, c) →
        (∀ u key, (posted 0x0A).reachOpen (c.reads .command) o.b8.toNat .write = (u, .at_ key) →
          let r := u.block key
          let marked := recSet r 6 16 (((recKind r) ||| 4) &&& 0xFF07).toNat
          exec (.kill o) s = .next (ends 0x0A stOk 0
            ((u.rewriteBlock key (recSet marked 24 32 ((recField marked 24 32 : W32) &&& 0x07FFFFFF).toNat)).endRun uid c c.homeNow
              c.sys.myw))) ∧
        (∀ u n m, (posted 0x0A).reachOpen (c.reads .command) o.b8.toNat .write = (u, .fail n m) →
          exec (.kill o) s = .next (ends 0x0A stBadArg 0 u)) ∧
        (∀ u, (posted 0x0A).reachOpen (c.reads .command) o.b8.toNat .write = (u, .wait) → exec (.kill o) s = .next u)) ∧
    cmd (.reset o) 0x0B (n < (if cluster then 64 else 1024) ∧ o.b16 = 0 ∧ o.b24 = 0 ∧ o.b32 = 0) 0
      (fun s => s.resetCores (if cluster then coresOf n else [n]) 9 n o.b8.toNat) ∧
    cmd (.elog o) 0x0C (ringOk o = true) 0
      (fun s => { s with errors := { s.errors with named := true, base := o.b8.toNat, size := o.b16.toNat, wp := 0, rp := 0 } }) ∧
    (∀ full : State, full.takesHost = true → 64 ≤ full.mail.queue.length →
      ∀ op ∈ [Instr.bindpasid o, .preempt o, .inval o, .qmode o, .descinv o, .temper o, .route o, .attest o, .fring o, .kill o, .reset o, .elog o],
        exec op full = .next { full with mail := { full.mail with overrun := true } }) ∧
    ∀ code : Byte, code = 0 ∨ 12 < code.toNat →
      exec (.badcmd code) s = .next ((({ s with mail := { s.mail with accepted := s.mail.accepted + 1 } } : State).forget .command).complete code stBadCmd 0)

/-- R15, R29, R30, R223, R251, R256, R279, R280, R287, R288, R322, R343, R348, R350, R357: a record that passes the checks of its window is accepted
and one that fails one is logged; while a port leads to the device the host reads and writes memory at the addresses it has programmed, windows
read as zeros, a peer reads
and writes memory by its offset, and neither reaches a secure region; ring indices are named and reports are served. The model's choices are: an
address below the device's size is DRAM of the same offset where the host has programmed nothing (entry 11), a write to a window stays behind an
earlier one of its cluster and port that waits (entry 130), a read of poison or of a secure region is answered by an empty list (entry 133), and
bytes written to the package interface change nothing (entry 170). -/
def Obligations.HostEventResults : Prop :=
  ∀ (s : State) (port : BitVec 1) (link : BitVec 4) (offset addr key : Nat) (bytes rest : List Byte) (b : Byte) (bad : Bool) (op : PeerOp)
    (x : W32) (nonce : BitVec 256),
    let w := offset / 64 % 1024
    let r : BitVec 512 := BitVec.ofNat 512 (leNat bytes)
    let window : Prop := s.takesHost = true ∧ offset < 65536
    let by_ := s.cxlBy port
    let place := s.hostPlace addr
    let host (w : Option Byte) : Out := exec (.hostMemoryAccess ⟨port, addr, bad, rest⟩ w) s
    let data := b :: rest
    let reads (n : Nat) : Prop := addr < 2 ^ 64 → host none = .next (s.answer (if s.isPoisoned n 1 then [] else [s.byte n]))
    let writes (n : Nat) : Prop := addr + data.length ≤ 2 ^ 64 →
      host (some b) = .next ((s.reveal none [(n, data.length)]).hostStore n data bad)
    let whole : Prop := offset % 64 = 0 ∧ bytes.length = 64
    let write (t : State) : Prop := exec (.queueWindowWrite port offset bytes) s = .next t
    let reader : Reader := .window by_ (offset / 1024)
    (∀ u, window → whole → s.windowBehind by_ offset = false → s.checkRecord (w / 16) reader r = (u, .pass) →
      write ((u.acceptWindow (w / 16) (w % 16) r).forget reader)) ∧
    (∀ u v n, window → whole → s.windowBehind by_ offset = false → s.checkRecord (w / 16) reader r = (u, .bad n) →
      u.refuseWeight (w / 16) reader r = (v, true) →
      write ((v.logWindow w (2 ^ 31 + n) (whoOf (recPasid r) (recWorld r))).forget reader)) ∧
    (window → whole → s.windowBehind by_ offset = true → write { s with inputs := s.inputs ++ [(by_, offset, bytes)] }) ∧
    (window → ¬whole → write (s.logWindow w bytes.length 0)) ∧
    (¬window → write s) ∧
    (s.portUp (cxlPort port.toNat) = true → by_ = port) ∧ (s.portUp (cxlPort port.toNat) = false → by_ ≠ port) ∧
    exec (.frp x) s = .next (({ s with faults := { s.faults with rp := x } } : State).drainFaults s.faults.held) ∧
    exec (.erp x) s = .next { s with errors := { s.errors with rp := x } } ∧
    (s.fabric.bar0 = [] → s.fabric.bar2 = [] → s.fabric.hdm = [] → addr < deviceSize → place = .dram addr) ∧
    (place = .beyond key → reads key ∧ writes key) ∧
    (s.hostCut = false →
      (place = .dram key → s.isSecure key = false → reads key) ∧
      (place = .dram key → s.isSecure key = false → s.isSecure (key + data.length - 1) = false → writes key) ∧
      (place = .dram key → s.isSecure key = true → addr < 2 ^ 64 → host none = .next ((s.answer []).logWorld key 6 by_.toNat)) ∧
      (place = .dram key → s.isSecure key = true ∨ s.isSecure (key + data.length - 1) = true → addr + data.length ≤ 2 ^ 64 →
        host (some b) = .next (s.logWorld (s.secureIn key data.length) 6 by_.toNat)) ∧
      (place = .interface key → addr + data.length ≤ 2 ^ 64 →
        host none = .next (s.answer [s.interfaceByte key]) ∧ host (some b) = .next s) ∧
      (place = .window key → addr + data.length ≤ 2 ^ 64 →
        host none = .next (s.answer [0]) ∧ host (some b) = exec (.queueWindowWrite port key data) s)) ∧
    (addr + peerSize op ≤ deviceSize → s.isSecure addr = false → s.isSecure (addr + peerSize op - 1) = false →
      exec (.peerRequest ⟨link, addr⟩ op) s =
        .next ((if peerWrites op then s.reveal none [(addr, peerSize op)] else s).peer addr op)) ∧
    (addr + peerSize op ≤ deviceSize → s.isSecure addr = true ∨ s.isSecure (addr + peerSize op - 1) = true →
      exec (.peerRequest ⟨link, addr⟩ op) s = .next ((if peerReads op then s.answer [] else s).logWorld (s.secureIn addr (peerSize op)) 7 link.toNat)) ∧
    (s.mail.booted = true →
      exec (.spdmRequest nonce) s = .next { s with mail := { s.mail with doe := s.fabric.report nonce } })

/-- R291, R292, R294 to R297, R302: a stop request reaches the contexts it names; a stopped context that may be debugged resumes and has
its registers and its discard record written; the debugger reads and writes memory; registers are written; a sample that waits for
nothing is recorded. The places a debugger writes are entry 137's, the empty answer to a read of poison is entry 133's, and what a stop
request does to a context that is away is entry 69's: the model's choices. -/
def Obligations.DebugEventResults : Prop :=
  ∀ (s : State) (uid addr : Nat) (pasid : BitVec 20) (c : Context) (place : DbgPlace) (x : BitVec 2048) (y : W64) (b : Byte) (reg : DevReg),
    let stopped : Prop := s.ctx? uid = some c ∧ c.id.status = .stopped ∧ s.traces? c = true
    let stop (f : Nat × Context → Bool) : State := (s.ctxs.filter f).foldl (fun s e => s.requestStop e.1 e.2) s
    exec (.debugStopRequest (.context uid)) s = .next (stop fun e => e.1 = uid) ∧
    exec (.debugStopRequest (.process pasid)) s = .next (stop fun e => e.2.id.pasid = pasid) ∧
    (stopped → exec (.debugResume uid) s = .next (s.mapCtx uid Context.unstop)) ∧
    (s.ctx? uid = some c → c.stoppedNow = true → s.traces? c = true →
      exec (.debuggerRegisterWrite uid place x) s = .next (s.debugWrite uid c place x)) ∧
    (s.ctx? uid = some c → c.stoppedNow = true → s.traces? c = true → bitOf y 7 = false → exec (.dstat uid y) s =
      .next (s.mapCtx uid fun c => { c with dbg := { c.dbg with dstat := c.dbg.dstat &&& 0x7F } })) ∧
    (addr < deviceSize → s.isSecure addr = false ∨ s.fabric.sdebug = true →
      exec (.debugMemoryAccess addr none) s = .next (s.answer (if s.isPoisoned addr 1 then [] else [s.byte addr])) ∧
      exec (.debugMemoryAccess addr (some b)) s = .next (s.store addr [b])) ∧
    exec (.registerWrite reg y) s = .next (s.writeReg reg y) ∧
    (∀ t, s.ctx? uid = some c → c.dbg.tags.find? (fun t => t.wait.isEmpty) = some t → exec (.sampleRecord uid) s =
      .next ((s.mapCtx uid fun c => { c with dbg := { c.dbg with tags := c.dbg.tags.erase t } }).traceOf c.id.core c t.record))

/-- R288 to R290, R311, R342, R345 to R349, R352: boot, resets, Temper, the scrubber, links and errors of the part. A µs changes the clock
and the permits of each cluster: a boosted one spends a permit while it requests boost and begins its way back when it stops or has none
left, an idle one gains a permit, and those that ask for boost are granted it in the order of R290 while there is room; at most 32 are boosted
where no more were. That the clusters on their way back from boost count among the 32 is the model's choice (entry 141), and so is that a
function-level reset keeps memory, its marks, MCC and the microseconds (entry 142) and that the CXL ports are up after a failed boot (entry 207); entries 144 to 146 fix the rest of the errors of the part. -/
def Obligations.DeviceEventResults : Prop :=
  ∀ (s : State) (n line uid : Nat) (p : LinkPort) (c : Context) (g : BitVec 6) (slot : BitVec 3) (reason : Byte) (word : W32) (x : Port) (seq : W64),
    let logged (t : State) (cls : Nat) : State := t.logAt cls 0 (stackOf (64 * line)) (64 * line) 0 0
    let tempered (g : Nat) : Cluster := (s.clusterOf g).temper (s.boostRank g).isSome (s.runningIn g).isEmpty
    let k := s.clusterOf n
    let requests : Prop := (s.boostRank n).isSome = true
    let boosted (s : State) : Nat := ((List.range 64).filter fun g => (s.clusterOf g).clock ≠ 0).length
    (s.mail.booted = false → s.mail.bootFailed = false → exec .boot s = .next (if Config.imagesValid then { s with
      cores := []
      fabric := { s.fabric with
        secure := Config.secureRegions
        secureCores := Config.secureCores
        sdebug := Config.sdebug
        ports := bootPorts Config.enabledPorts }
      mail := { s.mail with booted := true } } else { s with
      fabric := { s.fabric with ports := bootPorts [cxlPort 0, cxlPort 1] }
      mail := { s.mail with bootFailed := true } })) ∧
    exec .functionLevelReset s = .next { State.reset with
      mem := s.mem, poison := s.poison, mcc := s.mcc, micros := s.micros, tick := s.tick, script := s.script } ∧
    (s.temperDue = true → ∃ t u : State, exec .temperTick s = .next t ∧ t.micros = s.micros + 1 ∧ t.mem = s.mem ∧ t.ctxs = s.ctxs ∧
      t.cores = s.cores ∧ (boosted s ≤ 32 → boosted t ≤ 32) ∧
      u.ctxs = s.ctxs ∧ u.cores = s.cores ∧ (∀ g < 64, u.clusterOf g = tempered g) ∧
      (n < 64 → t.clusterOf n = if n ∈ u.grants then { tempered n with clock := 2 } else tempered n) ∧
      (n < 64 → n ∈ u.grants → (tempered n).clock = 0 ∧ 100 ≤ (tempered n).pc ∧ requests)) ∧
    (k.clock = 2 → requests → 1 < k.pc → tempered n = { k with pc := k.pc - 1 }) ∧
    (k.clock = 2 → ¬requests → tempered n = { k with clock := 1, stepLeft := 10 }) ∧
    (k.clock = 2 → requests → k.pc ≤ 1 → tempered n = { k with pc := 0, clock := 1, stepLeft := 10 }) ∧
    (k.clock = 1 → tempered n = { k with stepLeft := k.stepLeft - 1 }) ∧
    (k.clock ≠ 2 → k.clock ≠ 1 → tempered n = if (s.runningIn n).isEmpty then { k with pc := min k.pmax (k.pc + 1) } else k) ∧
    ((s.clusterOf n).clock = 1 → (s.clusterOf n).stepLeft = 0 →
      exec (.boostStep n) s = .next (s.mapCluster n fun k => { k with clock := 0 })) ∧
    (64 * line < deviceSize →
      exec (.patrolScrub line .clean) s = .next s ∧ exec (.patrolScrub line .corrected) s = .next (logged s 1) ∧
      exec (.patrolScrub line .uncorrectable) s = .next (logged (s.poisonLines (64 * line) 64) 2)) ∧
    (s.port? p = some x → x.up = true →
      (x.retries < 16 →
        exec (.flitCrcRetry ⟨p, seq, false⟩) s = .next ((s.mapPort p fun x => { x with retries := x.retries + 1, seq := seq }).logLink p 0) ∧
        exec (.flitCrcRetry ⟨p, seq, true⟩) s = .next ((s.mapPort p fun x => { x with retries := 0, seq := seq }).logLink p 0)) ∧
      (16 ≤ x.retries → exec (.linkRetrain p) s = .next ((s.mapPort p fun x => { x with retries := 0 }).logLink p 1)) ∧
      (let t := (s.mapPort p fun x => { x with up := false }).logLink p 2
       (∀ i, p = .suzamal i → exec (.portDown p) s = .next t) ∧
       ∀ i, p = .cxl i → exec (.portDown p) s = .next
         (if t.hostCut then (t.logError (logEntry 8 6 0 t.mcc 0 0 0)).cutRequests else t))) ∧
    (s.port? p = some x → x.up = false →
      exec (.portUp p) s = .next ((s.mapPort p fun x => { x with up := true, retries := 0 }).logLink p 3)) ∧
    (s.ctx? uid = some c → c.residentOn c.id.core = true → exec (.registerStateLost uid) s = .next (s.resetContexts [(uid, c)])) ∧
    (n < 1024 → exec (.coreLogicError n) s = .next (s.resetCores [n] 9 n n)) ∧
    exec (.fabricError (.clusterPort g)) s = .next (s.resetCores (coresOf g.toNat) 8 g.toNat (2 ^ 63 + g.toNat)) ∧
    exec (.fabricError .shared) s = .next s.failPackage ∧
    exec (.unassignedEncoding slot reason word) s =
      .next (s.trapped 1 (s.cause slot.toNat 0x10 (BitVec.ofNat 64 (reason.toNat * 2 ^ 56 + word.toNat))))

/-! ### Traps -/

/-- R117, R118: a form of slot 1 or 3 with two sources traps with EMPTYREAD where a source is empty and its trap bit is 1;
where no trap bit asks for that, an empty source makes the bundle wait and changes nothing. That EMPTYREAD names A where both ask for it is the
model's choice (entry 150). -/
def Obligations.EmptySourcesTrapOrHold : Prop :=
  ∀ (s : State) (g : BitVec 4) (e : BitVec 5) (d a b : BitVec 6) (m : BitVec 4) (f h : BitVec 1),
    let ints : List Instr :=
      [.add g d a b f h, .addN g d a b f h, .addP g d a b f h, .sub g d a b f h, .subN g d a b f h, .subP g d a b f h,
       .mul g d a b f h, .mulN g d a b f h, .mulP g d a b f h, .min g d a b f h, .minN g d a b f h, .minP g d a b f h,
       .max g d a b f h, .maxN g d a b f h, .maxP g d a b f h, .and g d a b f h, .or g d a b f h, .xor g d a b f h,
       .shl g d a b f h, .shr g d a b f h, .sar g d a b f h, .dset g d a b f h, .div g d a b f h, .rem g d a b f h,
       .eq g d a b f h, .eqN g a b f h, .eqP g a b f h, .ne g d a b f h, .neN g a b f h, .neP g a b f h,
       .lt g d a b f h, .ltN g a b f h, .ltP g a b f h, .le g d a b f h, .leN g a b f h, .leP g a b f h]
    let vecs : List Instr :=
      [.vaddF e d a b f h, .vsubF e d a b f h, .vmulF e d a b f h, .vminF e d a b f h, .vmaxF e d a b f h,
       .vcmpeqF e m a b f h, .vcmpltF e m a b f h, .vcmpleF e m a b f h, .vaddI e d a b f h, .vsubI e d a b f h, .vmulI e d a b f h,
       .vminI e d a b f h, .vmaxI e d a b f h, .vand e d a b f h, .vor e d a b f h, .vxor e d a b f h, .vshl e d a b f h,
       .vshr e d a b f h, .vsar e d a b f h, .vcmpeqI e m a b f h, .vcmpltI e m a b f h, .vfmaF e d a b f h, .vfmsF e d a b f h,
       .vpkbf e d a b f h, .vperm e d a b f h, .vsel g d a b f h]
    let one (ops : List Instr) (slot : Nat) (ref : BitVec 6 → RegRef) : Prop :=
      let trap (r : BitVec 6) : State := s.trapped 2 (s.cause slot 0x0A (regInfo (ref r).1 (ref r).2))
      let empty (r : BitVec 6) : Prop := s.rd.isEmpty (ref r) = true
      ∀ i ∈ ops,
        (empty a → f = 1 → exec i s = .next (trap a)) ∧
        (¬empty a ∨ f = 0 → empty b → h = 1 → exec i s = .next (trap b)) ∧
        (empty a ∨ empty b → (¬empty a ∨ f = 0) → (¬empty b ∨ h = 0) → exec i s = .next { s with verdict := .waits 1 })
    (s.guard4 g = true → one ints 1 kRef) ∧ (s.runs64 e = true → one vecs 3 vRef)

/-- R124, R164, R165, R168, R174, R176, R177, R185, R188, R192, R230, R303, R304, R308, R309, R324: what the checks after the wait find wrong makes
the bundle trap at issue, with the code and the TINFO of each cause. The clause on a MOVG of a system register that none may write speaks of the
operation alone: in a bundle the decoder traps such a word before the wait (entry 31). -/
def Obligations.IssueTrapResults : Prop :=
  ∀ (s : State) (g : BitVec 4) (d a b : BitVec 6) (r t : BitVec 5) (f h : BitVec 1) (i : BitVec 8) (n : BitVec 12) (buf : BitVec 2)
    (p : BitVec 7) (m : BitVec 4) (o : BitVec 3) (w : BitVec 11),
    let trap (slot : Nat) (code : Byte) (info : W64) : Out := .next (s.trapped 4 (s.cause slot code info))
    let boundInfo : W64 := BitVec.ofNat 64 (s.issue.swage.firstNaming d % 65536 * 2 ^ 32) ||| regInfo .k d.toNat
    let on : Prop := s.guard4 g = true ∧ s.full [kRef d, kRef a, kRef b, aRef r, aRef t] = true
    let off := s.scrOff t w 8
    let va := s.gva t i.toNat 8
    (on → s.issue.swage.bound d = true → ∀ op ∈ [Instr.add g d a b f h, .sub g d a b f h, .mul g d a b f h, .min g d a b f h,
        .max g d a b f h, .and g d a b f h, .or g d a b f h, .xor g d a b f h, .shl g d a b f h, .shr g d a b f h, .sar g d a b f h,
        .dset g d a b f h, .abs g d a f, .neg g d a f, .mov g d a f, .addi g d a i, .muli g d a i, .dlo g d a f, .dhi g d a f,
        .dsize g d a f, .dmid g d a f, .dfull g d], exec op s = trap 1 0x07 boundInfo) ∧
    (on → s.issue.swage.bound d = true → exec (.movak g d r) s = trap 2 0x07 boundInfo) ∧
    (on → 512 ≤ s.issue.swage.store.length → ∀ op ∈ [Instr.addP g d a b f h, .subP g d a b f h, .mulP g d a b f h, .minP g d a b f h,
        .maxP g d a b f h, .absP g d a f, .negP g d a f, .movP g d a f, .addiP g d a i, .muliP g d a i, .eqP g a b f h, .neP g a b f h,
        .ltP g a b f h, .leP g a b f h, .eqiP g a i, .neiP g a i, .ltiP g a i, .leiP g a i, .gtiP g a i, .geiP g a i],
        exec op s = trap 1 0x04 (BitVec.ofNat 64 s.issue.swage.store.length)) ∧
    (on → domMember? (s.k a) = none → exec (.div g d a b f h) s = trap 1 0x08 (regInfo .k a.toNat) ∧
      exec (.rem g d a b f h) s = trap 1 0x08 (regInfo .k a.toNat) ∧ exec (.movka g r a) s = trap 2 0x08 (regInfo .k a.toNat)) ∧
    (s.guard4 g = true → 128 ≤ s.issue.swage.ckpts.length → exec (.ckpt g) s = trap 1 0x06 (BitVec.ofNat 64 s.issue.swage.ckpts.length)) ∧
    (s.guard4 g = true → s.issue.swage.ckpts = [] → exec (.roll g) s = trap 1 0x06 0 ∧ exec (.commit g) s = trap 1 0x06 0) ∧
    (s.p p = predU → exec (.arm buf p f) s = trap 2 0x0C (armInfo buf .p p.toNat)) ∧
    (s.m m ≠ 0 → s.m m ≠ BitVec.allOnes 64 → exec (.armm buf m) s = trap 2 0x0B (armInfo buf .m m.toNat)) ∧
    ((s.buf buf).st = .empty → s.p p ≠ predU → exec (.arm buf p f) s = trap 2 0x0D (regInfo .b buf.toNat)) ∧
    (on → sysWrites n = false → exec (.movg g r n) s = trap 2 0x10 (BitVec.ofNat 64 (6 * 2 ^ 56 + n.toNat))) ∧
    (on → s.a r = 0 → exec (.movg g r 0x010) s = trap 2 0x09 (s.a r)) ∧
    (on → s.issue.scrSize < off + 8 ∨ off % 8 ≠ 0 → exec (.ldsA g r t w) s = trap 5 0x09 (BitVec.ofNat 64 off)) ∧
    (on → va.toNat % 8 ≠ 0 → exec (.ldgA g r t o i) s =
      .next (s.trapped 4 (s.sysCause 5 0x23 0 (va.zeroExtend 64) (va.zeroExtend 64) 0)))

/-- R154, R155, R305, R321, R334, R337: a cause that the program handles enters the handler in one step, any other halts the context for
system software as pre-emption does; RFT goes on at the resume point, or where MOVG has moved TPC, with the buffers, the loops, the return stack, the
wait of a DRAINW and the snapshot back, or enters the handler again for the first cause that was held. That a result of the handler still in
flight stands before the snapshot in the list is the model's choice (entry 72): the marks put the snapshot first where they land together. So is that
the causes which a return still holds, where the first of them halts the context, stand at the first boundary after the resumption (entry 64). -/
def Obligations.TrapAndReturn : Prop :=
  ∀ (c : Context) (core : Nat) (mcc : W64) (x : Cause) (at_ : Resume),
    let t := c.takeTrap core mcc x at_
    let snapshot (f : Flight) : Flight := { f with snap := true }
    (c.handles x = true ↔ x.code.toNat ≤ 0x16 ∧ c.sys.tvec ≠ (0xFFFFFFFF : W32) ∧ c.trap.handler = false) ∧
    t.sys.tcause = x.code.zeroExtend 32 ∧ t.sys.tpc = BitVec.ofNat 64 (c.id.obj.toNat * 2 ^ 32 + x.off.toNat) ∧ t.sys.tinfo = x.tinfo ∧
    t.sys.tslot = BitVec.ofNat 32 (x.slot % 8) ∧ t.regs = c.regs ∧ t.mem = c.mem ∧ t.swage = c.swage ∧ t.anvil = c.anvil ∧
    t.budget = c.budget ∧ t.flow.bclk = c.flow.bclk ∧
    (c.handles x = true →
      t.trap.handler = true ∧ t.trap.resume = at_ ∧ t.trap.tpcMoved = false ∧ t.flow.pc = c.sys.tvec ∧ t.flow.bufs = [] ∧
      t.flow.loops = [] ∧ t.flow.rstack = [] ∧ t.flow.spilled = [] ∧ t.flow.drain = none ∧ t.flow.stop = .none ∧ t.id = c.id ∧
      (∀ f, f ∈ t.flow.flights ↔ f ∈ c.flow.flights ∧
        ((∃ off bytes poisoned, f.eff = .scr off bytes poisoned) ∨ (∃ n, f.eff = .ovfc n) ∨ ∃ off, f.eff = .epi off)) ∧
      ∀ u : Context, c.trap.held = [] → u.trap.handler = true → u.trap.held = [] → u.trap.shadow = t.trap.shadow →
        u.trap.snapshot = t.trap.snapshot → u.trap.resume = t.trap.resume →
        let v := u.returnFromTrap core mcc u.rftPoint
        v.trap.handler = false ∧ v.flow.bufs = c.flow.bufs ∧ v.flow.loops = c.flow.loops ∧ v.flow.rstack = c.flow.rstack ∧
        v.flow.spilled = c.flow.spilled ∧ v.flow.drain = c.flow.drain ∧ v.regs = u.regs ∧ v.sys = u.sys ∧ v.mem = u.mem ∧
        v.flow.flights = u.flow.flights ++ (c.flow.flights.filter Flight.snapshots).map snapshot ∧
        (u.trap.tpcMoved = true → v.flow.pc = u.sys.tpc.extractLsb' 0 32 ∧ v.flow.stop = .none) ∧
        (u.trap.tpcMoved = false → ∀ off, (at_ = .at_ off → v.flow.pc = off ∧ v.flow.stop = .none) ∧
          ∀ st, at_ = .stop st off → v.flow.pc = off ∧ v.flow.stop = st)) ∧
    (c.handles x = false →
      t.id.status = .evicting 2 (some (faultReport core c mcc x)) ∧ t.trap = c.trap ∧ t.flow.flights = c.flow.flights.map snapshot ∧
      t.flow.barrier ≠ .arrived ∧
      t.flow = { c.flow with flights := t.flow.flights, barrier := t.flow.barrier, tail := Tail.none }) ∧
    ∀ rest, c.trap.handler = true → c.trap.held = x :: rest →
      let v := c.returnFromTrap core mcc at_
      v.sys.tcause = x.code.zeroExtend 32 ∧ v.sys.tinfo = x.tinfo ∧ v.regs = c.regs ∧ v.mem = c.mem ∧
      (x.code.toNat ≤ 0x16 → c.sys.tvec ≠ (0xFFFFFFFF : W32) →
        v.trap = { c.trap with held := rest, tpcMoved := false, resume := at_ } ∧ v.flow.pc = c.sys.tvec ∧ v.flow.stop = .none ∧
        v.flow.bufs = [] ∧ v.flow.loops = [] ∧ v.flow.rstack = [] ∧ v.flow.flights = c.flow.flights ∧ v.id = c.id) ∧
      (0x16 < x.code.toNat ∨ c.sys.tvec = (0xFFFFFFFF : W32) →
        v.trap.handler = false ∧ v.trap.held = [] ∧ v.flow.causes = c.flow.causes ++ rest ∧
        v.id.status = .evicting 2 (some (faultReport core c mcc x)))

/-- R143, R156: BUDGET declares its cycles, or 0xFFFF_FFFF for 0 as a record's BUDGET of 0 does, and reloads the counter from them at
the end of its bundle; TRAP raises TRAPI there with its code in TINFO. Both perform, and so does every operation of the bundle: neither
traps or waits by itself. -/
def Obligations.BudgetAndTrap : Prop :=
  ∀ (s : State) (e y x : BitVec 1) (t : BitVec 2) (n : BitVec 21) (code : BitVec 16) (c : Context) (mcc : W64),
    let cycles : W32 := if n = 0 then 0xFFFFFFFF else n.zeroExtend 32
    ActsCtl (.budget e y x t n) s e y x t [] True (fun c => c.fly 1 0 (.budget cycles)) ∧
    ActsCtl (.trap e y x t code) s e y x t [] True (fun c => c.fly 1 0 (.cause 0x13 (code.zeroExtend 64))) ∧
    budgetOf 0 = (0xFFFFFFFF : W32) ∧
    (c.flow.flights = [] →
      ((c.fly 1 0 (.budget cycles)).landPoint mcc).budget = { c.budget with declared := cycles, counter := cycles, spent := false, reloaded := true } ∧
      ((c.fly 1 0 (.cause 0x13 (code.zeroExtend 64))).landPoint mcc).flow.causes = c.flow.causes ++
        [{ code := 0x13, reason := 0, slot := 0, off := c.flow.pc, tinfo := code.zeroExtend 64, va := 0, kind := 4,
           seq := c.flow.bclk.toNat }])

/-! ### The machine -/

/-- R44, R61, R63, R83, R98, R112, R116, R119, R121, R124, R138, R152, R166, R169, R174 to R177, R192, R213, R214, R219, R245: a result that is due has its effect and no other. A
register write changes its register alone, in the lanes it names, leaves every other class and every full/empty mark as it was but for the
mark of a k register that is owed nothing, which becomes full; k0, a0, p0 and m0 keep their values and are never empty. Checkpoints, the
standing store, buffers, loop levels, system registers, scratchpad bytes and tile entries take the values their operations gave. That a contractor
reads QCTL[0] when its result lands is the model's choice (entry 155). -/
def Obligations.RegisterLanding : Prop :=
  ∀ (c : Context) (mcc : W64) (f : Flight),
    let t := c.land mcc f
    let g := c.regs
    let u := t.regs
    let sysOnly : Prop := t = { c with sys := t.sys }
    let swageOnly : Prop := t = { c with swage := t.swage }
    let w := c.swage
    (∀ r x, f.eff = .k r x → t = { c with regs := { g with k := u.k, ke := u.ke } } ∧ u.readK r = (if r = 0 then domSingle 0 else x) ∧
      (∀ q, q ≠ r → u.readK q = g.readK q) ∧
      ∀ q, u.isEmpty (kRef q) = (g.isEmpty (kRef q) && (q ≠ r || c.mem.owesK r.toNat))) ∧
    (∀ r x, f.eff = .a r x → t = { c with regs := { g with a := u.a } } ∧ u.readA r = (if r = 0 then 0 else x) ∧
      ∀ q, q ≠ r → u.readA q = g.readA q) ∧
    (∀ r x, f.eff = .p r x → t = { c with regs := { g with p := u.p } } ∧
      u.readP r = (if r = 0 then predT else if x = 3 then predU else x) ∧ ∀ q, q ≠ r → u.readP q = g.readP q) ∧
    (∀ r ls x, f.eff = .m r ls x → t = { c with regs := { g with m := u.m } } ∧
      u.readM r = (if r = 0 then BitVec.allOnes 64 else (g.readM r &&& ~~~ls) ||| (x &&& ls)) ∧ ∀ q, q ≠ r → u.readM q = g.readM q) ∧
    (∀ r ls x, f.eff = .v r ls x → t = { c with regs := { g with v := u.v } } ∧ u.readV r = mergeV ls (g.readV r) x ∧
      ∀ q, q ≠ r → u.readV q = g.readV q) ∧
    (∀ r ls x, f.eff = .q r ls x → t = { c with regs := { g with q := u.q } } ∧ u.readQ r = mergeQ ls (g.readQ r) x ∧
      ∀ q, q ≠ r → u.readQ q = g.readQ q) ∧
    (∀ b, g.mark (kRef 0) b = g ∧ g.mark (aRef 0) b = g ∧ g.isEmpty (kRef 0) = false ∧ g.isEmpty (aRef 0) = false) ∧
    (∀ ws, f.eff = .narrow ws → (∀ v, c.narrow ws = .ok v → t = v) ∧
      ∀ r, c.narrow ws = .error r → t = c.blame (causeAt f.bclk 0x05 f.slot f.off (regInfo .k r.toNat))) ∧
    (∀ r, f.eff = .kFail r ∨ f.eff = .narrowFail r → t = c.blame (causeAt f.bclk 0x01 f.slot f.off (failInfo 0xFFFF r))) ∧
    (∀ rel, f.eff = .post rel → swageOnly ∧ t.swage = { w with store := w.store ++ [rel], queue := w.queue ++ [w.store.length] }) ∧
    (f.eff = .ckpt → swageOnly ∧ t.swage = { w with ckpts := (w.store.length, w.trail.length) :: w.ckpts }) ∧
    (f.eff = .commit → swageOnly ∧ ∀ top rest, w.ckpts = top :: rest →
      t.swage = { w with ckpts := rest, trail := if rest = [] then [] else w.trail }) ∧
    (f.eff = .roll → ∀ h n rest, w.ckpts = (h, n) :: rest →
      let undone := w.trail.take (w.trail.length - n)
      t = { c with regs := { g with k := u.k, ke := u.ke }, swage := t.swage } ∧
      (∀ q, u.isEmpty (kRef q) = (g.isEmpty (kRef q) && ((undone.all fun e => e.1 ≠ q) || c.mem.owesK q.toNat))) ∧
      t.swage = { w with trail := w.trail.drop (w.trail.length - n), store := w.store.take h, queue := [] } ∧
      ∀ q, q ≠ 0 → u.readK q = ((undone.reverse.find? fun e => e.1 = q).map (·.2)).getD (g.readK q)) ∧
    (∀ b kind target, f.eff = .prep b kind target → t = { c with flow := { c.flow with bufs := t.flow.bufs } } ∧
      ∀ b' : BitVec 2, Tbl.get TBuf.none t.flow.bufs b'.toNat =
        if b' = b then { st := .prepared, target := target, kind := kind, at_ := mcc } else Tbl.get TBuf.none c.flow.bufs b'.toNat) ∧
    (∀ b taken, f.eff = .arm b taken → t = { c with flow := { c.flow with bufs := t.flow.bufs } } ∧
      ∀ b' : BitVec 2, Tbl.get TBuf.none t.flow.bufs b'.toNat = (let old := Tbl.get TBuf.none c.flow.bufs b'.toNat
        if b' = b then { old with st := if taken then .armedTaken else .armedNot } else old)) ∧
    (∀ lv start last count, f.eff = .loop lv start last count → t = { c with flow := { c.flow with loops := t.flow.loops } } ∧
      ∀ lv' : BitVec 2, Tbl.get Loop.none t.flow.loops lv'.toNat =
        if lv' = lv then { active := true, start := start, last := last, count := count, delta := [] }
        else Tbl.get Loop.none c.flow.loops lv'.toNat) ∧
    (∀ lv r x, f.eff = .ldelta lv r x → t = { c with flow := { c.flow with loops := t.flow.loops } } ∧
      ∀ (lv' : BitVec 2) (r' : BitVec 5), Tbl.get 0 (Tbl.get Loop.none t.flow.loops lv'.toNat).delta r'.toNat =
        if lv' = lv ∧ r' = r then x else Tbl.get 0 (Tbl.get Loop.none c.flow.loops lv'.toNat).delta r'.toNat) ∧
    (∀ n x, f.eff = .sys n x → t = { c with sys := t.sys, trap := t.trap } ∧
      t.trap = { c.trap with tpcMoved := c.trap.tpcMoved || decide (n = 0x00A) } ∧
      (∀ n', sysReads n' = true → n' ≠ n → t.readSys mcc n' = c.readSys mcc n') ∧
      (sysWrites n = true → t.readSys mcc n =
        if n = 0x00B ∨ n = 0x03B then x
        else if n = 0x00A then x &&& 0x0000FFFFFFFFFFFF
        else if n = 0x009 then x &&& 0xFF
        else if n = 0x00C then x &&& 7
        else if n = 0x018 then x &&& 1
        else if n = 0x040 then x &&& 0x3F
        else if 0x020 ≤ n.toNat ∧ n.toNat ≤ 0x02F then x &&& 0x000FFFFF
        else x &&& 0xFFFFFFFF)) ∧
    (∀ off bytes poisoned, f.eff = .scr off bytes poisoned →
      t = { c with mem := { c.mem with scr := t.mem.scr, scrPoison := t.mem.scrPoison } } ∧
      scrBytes t.mem.scr off bytes.length = bytes ∧
      (∀ x, x < off ∨ off + bytes.length ≤ x → scrBytes t.mem.scr x 1 = scrBytes c.mem.scr x 1) ∧
      (poisoned = true → ∀ l ∈ linesOf off bytes.length, l ∈ t.mem.scrPoison)) ∧
    (∀ n x, f.eff = .te n x → t = { c with mem := { c.mem with te := t.mem.te } } ∧
      (∀ n' : BitVec 6, n' ≠ n → Tbl.get 0 t.mem.te n'.toNat = Tbl.get 0 c.mem.te n'.toNat) ∧
      (f.slot ≠ 7 → Tbl.get 0 t.mem.te n.toNat = x) ∧
      (f.slot = 7 → ∀ i, (Tbl.get 0 t.mem.te n.toNat).getLsbD i = if i = 2 ∨ 27 ≤ i then (Tbl.get 0 c.mem.te n.toNat).getLsbD i else x.getLsbD i)) ∧
    (∀ n, f.eff = .vovf n → sysOnly ∧ t.sys = { c.sys with vovf := t.sys.vovf } ∧ t.sys.vovf.toNat = min 0xFFFFFFFF (c.sys.vovf.toNat + n)) ∧
    (∀ n, f.eff = .ovfc n → sysOnly ∧ t.sys = { c.sys with ovfc := t.sys.ovfc } ∧ t.sys.ovfc.toNat = min 0xFFFFFFFF (c.sys.ovfc.toNat + n)) ∧
    (∀ off, f.eff = .epi off → t = { c with mem := { c.mem with scr := t.mem.scr, scrPoison := t.mem.scrPoison } } ∧
      scrBytes t.mem.scr off 4 = leBytes 4 c.sys.ovfc.toNat ∧
      ∀ x, x < off ∨ off + 4 ≤ x → scrBytes t.mem.scr x 1 = scrBytes c.mem.scr x 1) ∧
    (∀ mask, f.eff = .qclear true mask → sysOnly ∧ t.sys = { c.sys with qprog := c.sys.qprog &&& ~~~mask }) ∧
    (∀ mask, f.eff = .qclear false mask → sysOnly ∧ t.sys = { c.sys with qempty := c.sys.qempty &&& ~~~mask }) ∧
    (∀ ws lanes prog emptied first, f.eff = .contract ws lanes prog emptied first →
      t = { c with regs := { g with q := u.q }, sys := t.sys, flow := { c.flow with causes := t.flow.causes } } ∧
      t.sys = { c.sys with qprog := c.sys.qprog ||| prog, qempty := c.sys.qempty ||| emptied } ∧
      (∀ q, q ∉ ws.map (·.1) → u.readQ q = g.readQ q) ∧
      ((ws.map (·.1)).Nodup → ∀ e ∈ ws, u.readQ e.1 = mergeQ lanes (g.readQ e.1) e.2) ∧
      (bitOf c.sys.qctl 0 = true → emptied ≠ 0 → (∀ y ∈ c.flow.causes, y.code ≠ 0x01) →
        t.flow.causes = c.flow.causes ++ [causeAt f.bclk 0x01 4 f.off (contractInfo emptied first)]) ∧
      (bitOf c.sys.qctl 0 = false ∨ emptied = 0 → t.flow.causes = c.flow.causes)) ∧
    (∀ x, f.eff = .myw x → sysOnly ∧ t.sys = { c.sys with myw := x }) ∧
    (∀ x, f.eff = .mywSub x → sysOnly ∧ t.sys = { c.sys with myw := c.sys.myw - x }) ∧
    (∀ x, f.eff = .qdi x → sysOnly ∧ t.sys = { c.sys with qdi := x })

/-- R85, R87, R166: a narrowing by a relation other than MUL and MULI loses no solution. Values that lie in the sets of the registers
that a relation names, and for which it holds, make its application succeed, and they lie in every set that the application writes.
The claim is this model's inference from R85; R86 lets MUL and MULI keep more than their solutions. -/
def Obligations.NarrowingLosesNoSolution : Prop :=
  ∀ (rel : Rel) (read : BitVec 6 → Dom) (sol : BitVec 6 → Int),
    rel.op ≠ .mul → rel.op ≠ .muli → rel.HoldsFor sol → (∀ r, rel.names r = true → (domRuns (read r)).mem (sol r) = true) →
    ∃ ws, rel.apply read = .ok ws ∧ ∀ w ∈ ws, rel.names w.1 = true ∧ (domRuns w.2).mem (sol w.1) = true

/-- R251, R252, R343: a store that drains writes its bytes to the places of its address and leaves every other byte of memory as it
was; where the places do not meet, they then hold its bytes in order. -/
def Obligations.StoreDrains : Prop :=
  ∀ (s t : State) (uid id : Nat) (c : Context) (a : Acc) (bs : List Byte) (ps : List (Nat × Nat)),
    s.ctx? uid = some c → c.acc? id = some a → a.op = .store bs → s.spans c.agent a.cellVa a.cellSize a.op.kind = some ps →
    s.accFault c a ps = none → bitOf c.dbg.dctl 4 = false → exec (.writeDrained uid id) s = .next t →
    (∀ x, (∀ p ∈ ps, x < p.1 ∨ p.1 + p.2 ≤ x) → t.byte x = s.byte x) ∧
    (ps.Pairwise (fun p q => p.1 + p.2 ≤ q.1 ∨ q.1 + q.2 ≤ p.1) → (ps.map (·.2)).sum = bs.length → t.readSpans ps = bs)

/-- R115, R303: an operation of any slot ends in a next state: it had no effect, it performed, it waits, or the bundle traps at the
point of issue. Slots 1 to 4 touch the live context alone; slots 5 to 7 leave memory, its marks, the listed contexts, the gangs, the
fault queue and the error records as they are, for their accesses are events of their own. -/
def Obligations.SlotOperationOutcomes : Prop :=
  ∀ (i : Instr) (s : State) (n : Nat), slotOf i = some n →
    ∃ t, exec i s = .next t ∧
      (1 ≤ n → n ≤ 4 → t = { s with live := t.live, verdict := t.verdict }) ∧
      (5 ≤ n → t.mem = s.mem ∧ t.poison = s.poison ∧ t.ctxs = s.ctxs ∧ t.gangs = s.gangs ∧ t.faults = s.faults ∧ t.errors = s.errors ∧
        t.issue = s.issue) ∧
      ((t.verdict = .idle ∧ n ≠ 0 ∧ t = s.passed) ∨ t.verdict = .performed ∨ (∃ k, t.verdict = .waits k) ∨
        ∃ k x, (k = 2 ∨ k = 4) ∧ t.verdict = .trapped k ∧ t.live = s.issue.takeTrap s.core s.mcc x (.at_ s.issue.flow.pc) ∧
          (n ≠ 0 → t = s.trapped k x))

/-- R22, R108, R110, R250, R303, R304: when the eight words of the next bundle decode to well-formed operations and a context is ready to
issue it, a step is the operations' meanings from one state: each performs, slot 1 first and slot 0 last, and the end of the bundle
follows; the first slot whose operation traps before the wait makes the step that trap. R250 orders MEM before CPY before CTL; the places of the
other slots in that order are the model's choice (entry 57). -/
def Obligations.StepRunsDecoded : Prop :=
  ∀ (s r u : State) (n : Nat) (x : BitVec 256) (i0 : Instr) (is : List Instr),
    s.nextIsCore n r → r.checkout n = some u → u.readyFor n x → bundleHolds x (i0 :: is) →
    let v := u.issuing (i0 :: is)
    (∀ w, v.issue.drainWait = none → (∀ i ∈ i0 :: is, ∃ t, exec i v = .next t ∧ t.verdict.done) → Performs v (is ++ [i0]) w →
      step s = .next (w.endBundle (i0 :: is)).checkin.afterMove) ∧
    ∀ before i after t, i0 :: is = before ++ i :: after →
      (∀ j ∈ before, ∃ q, exec j v = .next q ∧ q.verdict ≠ .trapped 2) → exec i v = .next t → t.verdict = .trapped 2 →
      step s = .next (({ t with live := { t.live with budget := u.live.budget } } : State).checkin.mapCore n Core.afresh).afterMove

/-- R108, R139, R140, R166, R179, R194, R205, R216, R231, R241: words written out from the encoding tables decode to the operations
they stand for, one slot after another. -/
def Obligations.SampleWordsDecode : Prop :=
  decodeSlot 0 0x0050000A = .ok (.prepc 0 0 0 0 2 10) ∧
  decodeSlot 0 0x00780000 = .ok (.prepr 0 0 0 0 3) ∧
  decodeSlot 0 0x00824000 = .ok (.prepi 0 0 0 0 0 9 0) ∧
  decodeSlot 0 0x00A9C00F = .ok (.loop 0 0 0 0 1 7 15) ∧
  decodeSlot 0 0x21000078 = .ok (.mark 0 0 0 0 120) ∧
  decodeSlot 0 0x01449030 = .ok (.spawn 0 0 0 0 9 4 3) ∧
  decodeSlot 0 0x01640800 = .ok (.susp 0 0 0 4 2) ∧
  decodeSlot 0 0x0280002A = .ok (.trap 0 0 0 0 0x2A) ∧
  decodeSlot 0 0x14000000 = .ok (.nopCtl 0 0 1 1) ∧
  decodeSlot 0 0x80000000 = .ok (.nopCtl 1 0 0 0) ∧
  decodeSlot 1 0x4C01C108 = .ok (.lt 0 7 1 2 0 0) ∧
  decodeSlot 1 0x4D000108 = .ok (.ltN 0 1 2 0 0) ∧
  decodeSlot 1 0x4A000108 = .ok (.neP 0 1 2 0 0) ∧
  decodeSlot 1 0x55000304 = .ok (.eqiN 0 3 4) ∧
  decodeSlot 1 0x7C004014 = .ok (.dset 0 1 0 5 0 0) ∧
  decodeSlot 1 0x8822061E = .ok (.div 2 8 6 7 1 0) ∧
  decodeSlot 1 0x05310519 = .ok (.addN 3 4 5 6 0 1) ∧
  decodeSlot 1 0x90000000 = .ok (.ckpt 0) ∧
  decodeSlot 2 0x24867400 = .ok (.sara 2 3 7 8) ∧
  decodeSlot 2 0x28129FF8 = .ok (.addai 0 9 9 0xFF8) ∧
  decodeSlot 2 0x340A1130 = .ok (.cmpa 0 5 1 2 3) ∧
  decodeSlot 2 0x3C5040A0 = .ok (.plogic 10 4 5 0) ∧
  decodeSlot 2 0x45090000 = .ok (.arm 1 4 1) ∧
  decodeSlot 2 0x68022189 = .ok (.sela 0 1 2 3 9) ∧
  decodeSlot 2 0x7800603B = .ok (.movg 0 6 0x03B) ∧
  decodeSlot 3 0x0230420C = .ok (.vaddF 3 1 2 3 0 0) ∧
  decodeSlot 3 0x0320420C = .ok (.vaddF 0x12 1 2 3 0 0) ∧
  decodeSlot 3 0x1E014109 = .ok (.vcmpltF 0 5 1 2 0 1) ∧
  decodeSlot 3 0x6A024444 = .ok (.vext 0 9 4 17 0) ∧
  decodeSlot 4 0x080214C7 = .ok (.qfma 0 4 5 6 7) ∧
  decodeSlot 4 0x40008441 = .ok (.qcmp 0 1 1 2 1) ∧
  decodeSlot 4 0x60000C80 = .ok (.qleC 0 3 4) ∧
  decodeSlot 5 0x04072802 = .ok (.ldsV 0 7 5 2) ∧
  decodeSlot 5 0x40061B02 = .ok (.ldgA 0 6 3 3 2) ∧
  decodeSlot 5 0x600882C0 = .ok (.aadd 0 4 8 5 4) ∧
  decodeSlot 5 0xA0000014 = .ok (.fenceFull 0 4) ∧
  decodeSlot 5 0xCC144800 = .ok (.pop 0 20 9) ∧
  decodeSlot 6 0x04010000 = .ok (.claim 4 0) ∧
  decodeSlot 6 0x17F98000 = .ok (.acc 127 6 0 0) ∧
  decodeSlot 6 0x1FF80004 = .ok (.drain 127 0 0 0 1) ∧
  decodeSlot 7 0x0D044240 = .ok (.cg2s 40 4 8 9) ∧
  decodeSlot 7 0x100A2241 = .ok (.cs2gDc 10 4 9) ∧
  decodeSlot 7 0x55444240 = .ok (.gather 42 4 8 9) ∧
  decodeSlot 7 0x58000000 = .ok (.gend)

/-- R108, R139: decoding what a well-formed operation encodes to gives the operation back, in its slot, with every operand at every
value that the encoding admits. -/
def Obligations.EncodeThenDecode : Prop :=
  ∀ (i : Instr) (n : Nat), slotOf i = some n → WellFormed i = true → decodeSlot n (encode i) = .ok i

/-- R108, R139, R311: a word that a slot's decoder accepts is the word of the operation it gives: no bit of a word is ignored. -/
def Obligations.DecodeThenEncode : Prop :=
  ∀ (w n : Nat) (i : Instr), w < 2 ^ 32 → decodeSlot n w = .ok i → encode i = w ∧ slotOf i = some n

/-- The state after reset (R288): the boot is still to come, and memory is in canonical form. That memory lists nothing, MCC is 0, and no
context, no bound PASID and no port that is up stand there, is the model's choice (entries 9, 11, 12, 13 and 16). -/
def Obligations.ResetState : Prop :=
  MemoryCanonical State.reset ∧ State.reset.mem = [] ∧ State.reset.mcc = 0 ∧ State.reset.ctxs = [] ∧ State.reset.mmu.binds = [] ∧
  State.reset.fabric.ports = [] ∧ State.reset.mail.booted = false ∧ core.reset = State.reset

/-- The canonical form of memory is kept by every step, from every state that has it: an invariant of this model. -/
def Obligations.EveryStepKeepsMemoryCanonical : Prop :=
  ∀ s t : State, MemoryCanonical s → core.step s = .next t → MemoryCanonical t

end
end

