-- ==== Sys2Proof/Laws/Exec.lean ====
section
/-! SUPPORT. One equation per instruction: which meaning exec calls. A proof about one instruction rewrites with its equation and
never unfolds exec. -/

namespace Sys2Proof.Machine

theorem exec_nopCtl x0 x1 x2 x3 (s : State) : exec (.nopCtl x0 x1 x2 x3) s = execNopCtl x0 x1 x2 x3 s := rfl
theorem exec_prep x0 x1 x2 x3 x4 x5 (s : State) : exec (.prep x0 x1 x2 x3 x4 x5) s = execPrep x0 x1 x2 x3 x4 x5 s := rfl
theorem exec_prepc x0 x1 x2 x3 x4 x5 (s : State) : exec (.prepc x0 x1 x2 x3 x4 x5) s = execPrepc x0 x1 x2 x3 x4 x5 s := rfl
theorem exec_prepr x0 x1 x2 x3 x4 (s : State) : exec (.prepr x0 x1 x2 x3 x4) s = execPrepr x0 x1 x2 x3 x4 s := rfl
theorem exec_prepi x0 x1 x2 x3 x4 x5 x6 (s : State) : exec (.prepi x0 x1 x2 x3 x4 x5 x6) s = execPrepi x0 x1 x2 x3 x4 x5 x6 s := rfl
theorem exec_loop x0 x1 x2 x3 x4 x5 x6 (s : State) : exec (.loop x0 x1 x2 x3 x4 x5 x6) s = execLoop x0 x1 x2 x3 x4 x5 x6 s := rfl
theorem exec_loopi x0 x1 x2 x3 x4 x5 x6 (s : State) : exec (.loopi x0 x1 x2 x3 x4 x5 x6) s = execLoopi x0 x1 x2 x3 x4 x5 x6 s := rfl
theorem exec_budget x0 x1 x2 x3 x4 (s : State) : exec (.budget x0 x1 x2 x3 x4) s = execBudget x0 x1 x2 x3 x4 s := rfl
theorem exec_mark x0 x1 x2 x3 x4 (s : State) : exec (.mark x0 x1 x2 x3 x4) s = execMark x0 x1 x2 x3 x4 s := rfl
theorem exec_sync x0 x1 x2 x3 x4 (s : State) : exec (.sync x0 x1 x2 x3 x4) s = execSync x0 x1 x2 x3 x4 s := rfl
theorem exec_spawn x0 x1 x2 x3 x4 x5 x6 (s : State) : exec (.spawn x0 x1 x2 x3 x4 x5 x6) s = execSpawn x0 x1 x2 x3 x4 x5 x6 s := rfl
theorem exec_susp x0 x1 x2 x3 x4 (s : State) : exec (.susp x0 x1 x2 x3 x4) s = execSusp x0 x1 x2 x3 x4 s := rfl
theorem exec_qnew x0 x1 x2 x3 x4 x5 (s : State) : exec (.qnew x0 x1 x2 x3 x4 x5) s = execQnew x0 x1 x2 x3 x4 x5 s := rfl
theorem exec_qwait x0 x1 x2 x3 (s : State) : exec (.qwait x0 x1 x2 x3) s = execQwait x0 x1 x2 x3 s := rfl
theorem exec_qborrow x0 x1 x2 x3 x4 (s : State) : exec (.qborrow x0 x1 x2 x3 x4) s = execQborrow x0 x1 x2 x3 x4 s := rfl
theorem exec_qsplit x0 x1 x2 x3 x4 (s : State) : exec (.qsplit x0 x1 x2 x3 x4) s = execQsplit x0 x1 x2 x3 x4 s := rfl
theorem exec_qjoin x0 x1 x2 x3 x4 (s : State) : exec (.qjoin x0 x1 x2 x3 x4) s = execQjoin x0 x1 x2 x3 x4 s := rfl
theorem exec_qret x0 x1 x2 x3 (s : State) : exec (.qret x0 x1 x2 x3) s = execQret x0 x1 x2 x3 s := rfl
theorem exec_waitte x0 x1 x2 x3 x4 x5 (s : State) : exec (.waitte x0 x1 x2 x3 x4 x5) s = execWaitte x0 x1 x2 x3 x4 x5 s := rfl
theorem exec_drainw x0 x1 x2 x3 (s : State) : exec (.drainw x0 x1 x2 x3) s = execDrainw x0 x1 x2 x3 s := rfl
theorem exec_trap x0 x1 x2 x3 x4 (s : State) : exec (.trap x0 x1 x2 x3 x4) s = execTrap x0 x1 x2 x3 x4 s := rfl
theorem exec_rft x0 x1 (s : State) : exec (.rft x0 x1) s = execRft x0 x1 s := rfl
theorem exec_nopInt  (s : State) : exec (.nopInt) s = execNopInt s := rfl
theorem exec_add x0 x1 x2 x3 x4 x5 (s : State) : exec (.add x0 x1 x2 x3 x4 x5) s = execAdd x0 x1 x2 x3 x4 x5 s := rfl
theorem exec_addN x0 x1 x2 x3 x4 x5 (s : State) : exec (.addN x0 x1 x2 x3 x4 x5) s = execAddN x0 x1 x2 x3 x4 x5 s := rfl
theorem exec_addP x0 x1 x2 x3 x4 x5 (s : State) : exec (.addP x0 x1 x2 x3 x4 x5) s = execAddP x0 x1 x2 x3 x4 x5 s := rfl
theorem exec_sub x0 x1 x2 x3 x4 x5 (s : State) : exec (.sub x0 x1 x2 x3 x4 x5) s = execSub x0 x1 x2 x3 x4 x5 s := rfl
theorem exec_subN x0 x1 x2 x3 x4 x5 (s : State) : exec (.subN x0 x1 x2 x3 x4 x5) s = execSubN x0 x1 x2 x3 x4 x5 s := rfl
theorem exec_subP x0 x1 x2 x3 x4 x5 (s : State) : exec (.subP x0 x1 x2 x3 x4 x5) s = execSubP x0 x1 x2 x3 x4 x5 s := rfl
theorem exec_mul x0 x1 x2 x3 x4 x5 (s : State) : exec (.mul x0 x1 x2 x3 x4 x5) s = execMul x0 x1 x2 x3 x4 x5 s := rfl
theorem exec_mulN x0 x1 x2 x3 x4 x5 (s : State) : exec (.mulN x0 x1 x2 x3 x4 x5) s = execMulN x0 x1 x2 x3 x4 x5 s := rfl
theorem exec_mulP x0 x1 x2 x3 x4 x5 (s : State) : exec (.mulP x0 x1 x2 x3 x4 x5) s = execMulP x0 x1 x2 x3 x4 x5 s := rfl
theorem exec_min x0 x1 x2 x3 x4 x5 (s : State) : exec (.min x0 x1 x2 x3 x4 x5) s = execMin x0 x1 x2 x3 x4 x5 s := rfl
theorem exec_minN x0 x1 x2 x3 x4 x5 (s : State) : exec (.minN x0 x1 x2 x3 x4 x5) s = execMinN x0 x1 x2 x3 x4 x5 s := rfl
theorem exec_minP x0 x1 x2 x3 x4 x5 (s : State) : exec (.minP x0 x1 x2 x3 x4 x5) s = execMinP x0 x1 x2 x3 x4 x5 s := rfl
theorem exec_max x0 x1 x2 x3 x4 x5 (s : State) : exec (.max x0 x1 x2 x3 x4 x5) s = execMax x0 x1 x2 x3 x4 x5 s := rfl
theorem exec_maxN x0 x1 x2 x3 x4 x5 (s : State) : exec (.maxN x0 x1 x2 x3 x4 x5) s = execMaxN x0 x1 x2 x3 x4 x5 s := rfl
theorem exec_maxP x0 x1 x2 x3 x4 x5 (s : State) : exec (.maxP x0 x1 x2 x3 x4 x5) s = execMaxP x0 x1 x2 x3 x4 x5 s := rfl
theorem exec_abs x0 x1 x2 x3 (s : State) : exec (.abs x0 x1 x2 x3) s = execAbs x0 x1 x2 x3 s := rfl
theorem exec_absN x0 x1 x2 x3 (s : State) : exec (.absN x0 x1 x2 x3) s = execAbsN x0 x1 x2 x3 s := rfl
theorem exec_absP x0 x1 x2 x3 (s : State) : exec (.absP x0 x1 x2 x3) s = execAbsP x0 x1 x2 x3 s := rfl
theorem exec_neg x0 x1 x2 x3 (s : State) : exec (.neg x0 x1 x2 x3) s = execNeg x0 x1 x2 x3 s := rfl
theorem exec_negN x0 x1 x2 x3 (s : State) : exec (.negN x0 x1 x2 x3) s = execNegN x0 x1 x2 x3 s := rfl
theorem exec_negP x0 x1 x2 x3 (s : State) : exec (.negP x0 x1 x2 x3) s = execNegP x0 x1 x2 x3 s := rfl
theorem exec_mov x0 x1 x2 x3 (s : State) : exec (.mov x0 x1 x2 x3) s = execMov x0 x1 x2 x3 s := rfl
theorem exec_movN x0 x1 x2 x3 (s : State) : exec (.movN x0 x1 x2 x3) s = execMovN x0 x1 x2 x3 s := rfl
theorem exec_movP x0 x1 x2 x3 (s : State) : exec (.movP x0 x1 x2 x3) s = execMovP x0 x1 x2 x3 s := rfl
theorem exec_addi x0 x1 x2 x3 (s : State) : exec (.addi x0 x1 x2 x3) s = execAddi x0 x1 x2 x3 s := rfl
theorem exec_addiN x0 x1 x2 x3 (s : State) : exec (.addiN x0 x1 x2 x3) s = execAddiN x0 x1 x2 x3 s := rfl
theorem exec_addiP x0 x1 x2 x3 (s : State) : exec (.addiP x0 x1 x2 x3) s = execAddiP x0 x1 x2 x3 s := rfl
theorem exec_muli x0 x1 x2 x3 (s : State) : exec (.muli x0 x1 x2 x3) s = execMuli x0 x1 x2 x3 s := rfl
theorem exec_muliN x0 x1 x2 x3 (s : State) : exec (.muliN x0 x1 x2 x3) s = execMuliN x0 x1 x2 x3 s := rfl
theorem exec_muliP x0 x1 x2 x3 (s : State) : exec (.muliP x0 x1 x2 x3) s = execMuliP x0 x1 x2 x3 s := rfl
theorem exec_and x0 x1 x2 x3 x4 x5 (s : State) : exec (.and x0 x1 x2 x3 x4 x5) s = execAnd x0 x1 x2 x3 x4 x5 s := rfl
theorem exec_or x0 x1 x2 x3 x4 x5 (s : State) : exec (.or x0 x1 x2 x3 x4 x5) s = execOr x0 x1 x2 x3 x4 x5 s := rfl
theorem exec_xor x0 x1 x2 x3 x4 x5 (s : State) : exec (.xor x0 x1 x2 x3 x4 x5) s = execXor x0 x1 x2 x3 x4 x5 s := rfl
theorem exec_shl x0 x1 x2 x3 x4 x5 (s : State) : exec (.shl x0 x1 x2 x3 x4 x5) s = execShl x0 x1 x2 x3 x4 x5 s := rfl
theorem exec_shr x0 x1 x2 x3 x4 x5 (s : State) : exec (.shr x0 x1 x2 x3 x4 x5) s = execShr x0 x1 x2 x3 x4 x5 s := rfl
theorem exec_sar x0 x1 x2 x3 x4 x5 (s : State) : exec (.sar x0 x1 x2 x3 x4 x5) s = execSar x0 x1 x2 x3 x4 x5 s := rfl
theorem exec_eq x0 x1 x2 x3 x4 x5 (s : State) : exec (.eq x0 x1 x2 x3 x4 x5) s = execEq x0 x1 x2 x3 x4 x5 s := rfl
theorem exec_eqN x0 x1 x2 x3 x4 (s : State) : exec (.eqN x0 x1 x2 x3 x4) s = execEqN x0 x1 x2 x3 x4 s := rfl
theorem exec_eqP x0 x1 x2 x3 x4 (s : State) : exec (.eqP x0 x1 x2 x3 x4) s = execEqP x0 x1 x2 x3 x4 s := rfl
theorem exec_ne x0 x1 x2 x3 x4 x5 (s : State) : exec (.ne x0 x1 x2 x3 x4 x5) s = execNe x0 x1 x2 x3 x4 x5 s := rfl
theorem exec_neN x0 x1 x2 x3 x4 (s : State) : exec (.neN x0 x1 x2 x3 x4) s = execNeN x0 x1 x2 x3 x4 s := rfl
theorem exec_neP x0 x1 x2 x3 x4 (s : State) : exec (.neP x0 x1 x2 x3 x4) s = execNeP x0 x1 x2 x3 x4 s := rfl
theorem exec_lt x0 x1 x2 x3 x4 x5 (s : State) : exec (.lt x0 x1 x2 x3 x4 x5) s = execLt x0 x1 x2 x3 x4 x5 s := rfl
theorem exec_ltN x0 x1 x2 x3 x4 (s : State) : exec (.ltN x0 x1 x2 x3 x4) s = execLtN x0 x1 x2 x3 x4 s := rfl
theorem exec_ltP x0 x1 x2 x3 x4 (s : State) : exec (.ltP x0 x1 x2 x3 x4) s = execLtP x0 x1 x2 x3 x4 s := rfl
theorem exec_le x0 x1 x2 x3 x4 x5 (s : State) : exec (.le x0 x1 x2 x3 x4 x5) s = execLe x0 x1 x2 x3 x4 x5 s := rfl
theorem exec_leN x0 x1 x2 x3 x4 (s : State) : exec (.leN x0 x1 x2 x3 x4) s = execLeN x0 x1 x2 x3 x4 s := rfl
theorem exec_leP x0 x1 x2 x3 x4 (s : State) : exec (.leP x0 x1 x2 x3 x4) s = execLeP x0 x1 x2 x3 x4 s := rfl
theorem exec_eqi x0 x1 x2 x3 (s : State) : exec (.eqi x0 x1 x2 x3) s = execEqi x0 x1 x2 x3 s := rfl
theorem exec_eqiN x0 x1 x2 (s : State) : exec (.eqiN x0 x1 x2) s = execEqiN x0 x1 x2 s := rfl
theorem exec_eqiP x0 x1 x2 (s : State) : exec (.eqiP x0 x1 x2) s = execEqiP x0 x1 x2 s := rfl
theorem exec_nei x0 x1 x2 x3 (s : State) : exec (.nei x0 x1 x2 x3) s = execNei x0 x1 x2 x3 s := rfl
theorem exec_neiN x0 x1 x2 (s : State) : exec (.neiN x0 x1 x2) s = execNeiN x0 x1 x2 s := rfl
theorem exec_neiP x0 x1 x2 (s : State) : exec (.neiP x0 x1 x2) s = execNeiP x0 x1 x2 s := rfl
theorem exec_lti x0 x1 x2 x3 (s : State) : exec (.lti x0 x1 x2 x3) s = execLti x0 x1 x2 x3 s := rfl
theorem exec_ltiN x0 x1 x2 (s : State) : exec (.ltiN x0 x1 x2) s = execLtiN x0 x1 x2 s := rfl
theorem exec_ltiP x0 x1 x2 (s : State) : exec (.ltiP x0 x1 x2) s = execLtiP x0 x1 x2 s := rfl
theorem exec_lei x0 x1 x2 x3 (s : State) : exec (.lei x0 x1 x2 x3) s = execLei x0 x1 x2 x3 s := rfl
theorem exec_leiN x0 x1 x2 (s : State) : exec (.leiN x0 x1 x2) s = execLeiN x0 x1 x2 s := rfl
theorem exec_leiP x0 x1 x2 (s : State) : exec (.leiP x0 x1 x2) s = execLeiP x0 x1 x2 s := rfl
theorem exec_gti x0 x1 x2 x3 (s : State) : exec (.gti x0 x1 x2 x3) s = execGti x0 x1 x2 x3 s := rfl
theorem exec_gtiN x0 x1 x2 (s : State) : exec (.gtiN x0 x1 x2) s = execGtiN x0 x1 x2 s := rfl
theorem exec_gtiP x0 x1 x2 (s : State) : exec (.gtiP x0 x1 x2) s = execGtiP x0 x1 x2 s := rfl
theorem exec_gei x0 x1 x2 x3 (s : State) : exec (.gei x0 x1 x2 x3) s = execGei x0 x1 x2 x3 s := rfl
theorem exec_geiN x0 x1 x2 (s : State) : exec (.geiN x0 x1 x2) s = execGeiN x0 x1 x2 s := rfl
theorem exec_geiP x0 x1 x2 (s : State) : exec (.geiP x0 x1 x2) s = execGeiP x0 x1 x2 s := rfl
theorem exec_dlo x0 x1 x2 x3 (s : State) : exec (.dlo x0 x1 x2 x3) s = execDlo x0 x1 x2 x3 s := rfl
theorem exec_dhi x0 x1 x2 x3 (s : State) : exec (.dhi x0 x1 x2 x3) s = execDhi x0 x1 x2 x3 s := rfl
theorem exec_dsize x0 x1 x2 x3 (s : State) : exec (.dsize x0 x1 x2 x3) s = execDsize x0 x1 x2 x3 s := rfl
theorem exec_dmid x0 x1 x2 x3 (s : State) : exec (.dmid x0 x1 x2 x3) s = execDmid x0 x1 x2 x3 s := rfl
theorem exec_dset x0 x1 x2 x3 x4 x5 (s : State) : exec (.dset x0 x1 x2 x3 x4 x5) s = execDset x0 x1 x2 x3 x4 x5 s := rfl
theorem exec_dfull x0 x1 (s : State) : exec (.dfull x0 x1) s = execDfull x0 x1 s := rfl
theorem exec_single x0 x1 x2 x3 (s : State) : exec (.single x0 x1 x2 x3) s = execSingle x0 x1 x2 x3 s := rfl
theorem exec_div x0 x1 x2 x3 x4 x5 (s : State) : exec (.div x0 x1 x2 x3 x4 x5) s = execDiv x0 x1 x2 x3 x4 x5 s := rfl
theorem exec_rem x0 x1 x2 x3 x4 x5 (s : State) : exec (.rem x0 x1 x2 x3 x4 x5) s = execRem x0 x1 x2 x3 x4 x5 s := rfl
theorem exec_ckpt x0 (s : State) : exec (.ckpt x0) s = execCkpt x0 s := rfl
theorem exec_roll x0 (s : State) : exec (.roll x0) s = execRoll x0 s := rfl
theorem exec_commit x0 (s : State) : exec (.commit x0) s = execCommit x0 s := rfl
theorem exec_nopAdr  (s : State) : exec (.nopAdr) s = execNopAdr s := rfl
theorem exec_adda x0 x1 x2 x3 (s : State) : exec (.adda x0 x1 x2 x3) s = execAdda x0 x1 x2 x3 s := rfl
theorem exec_suba x0 x1 x2 x3 (s : State) : exec (.suba x0 x1 x2 x3) s = execSuba x0 x1 x2 x3 s := rfl
theorem exec_mula x0 x1 x2 x3 (s : State) : exec (.mula x0 x1 x2 x3) s = execMula x0 x1 x2 x3 s := rfl
theorem exec_anda x0 x1 x2 x3 (s : State) : exec (.anda x0 x1 x2 x3) s = execAnda x0 x1 x2 x3 s := rfl
theorem exec_ora x0 x1 x2 x3 (s : State) : exec (.ora x0 x1 x2 x3) s = execOra x0 x1 x2 x3 s := rfl
theorem exec_xora x0 x1 x2 x3 (s : State) : exec (.xora x0 x1 x2 x3) s = execXora x0 x1 x2 x3 s := rfl
theorem exec_shla x0 x1 x2 x3 (s : State) : exec (.shla x0 x1 x2 x3) s = execShla x0 x1 x2 x3 s := rfl
theorem exec_shra x0 x1 x2 x3 (s : State) : exec (.shra x0 x1 x2 x3) s = execShra x0 x1 x2 x3 s := rfl
theorem exec_sara x0 x1 x2 x3 (s : State) : exec (.sara x0 x1 x2 x3) s = execSara x0 x1 x2 x3 s := rfl
theorem exec_addai x0 x1 x2 x3 (s : State) : exec (.addai x0 x1 x2 x3) s = execAddai x0 x1 x2 x3 s := rfl
theorem exec_li x0 x1 x2 (s : State) : exec (.li x0 x1 x2) s = execLi x0 x1 x2 s := rfl
theorem exec_shlai x0 x1 x2 x3 (s : State) : exec (.shlai x0 x1 x2 x3) s = execShlai x0 x1 x2 x3 s := rfl
theorem exec_cmpa x0 x1 x2 x3 x4 (s : State) : exec (.cmpa x0 x1 x2 x3 x4) s = execCmpa x0 x1 x2 x3 x4 s := rfl
theorem exec_cmpai x0 x1 x2 x3 x4 (s : State) : exec (.cmpai x0 x1 x2 x3 x4) s = execCmpai x0 x1 x2 x3 x4 s := rfl
theorem exec_plogic x0 x1 x2 x3 (s : State) : exec (.plogic x0 x1 x2 x3) s = execPlogic x0 x1 x2 x3 s := rfl
theorem exec_pset x0 x1 (s : State) : exec (.pset x0 x1) s = execPset x0 x1 s := rfl
theorem exec_arm x0 x1 x2 (s : State) : exec (.arm x0 x1 x2) s = execArm x0 x1 x2 s := rfl
theorem exec_armm x0 x1 (s : State) : exec (.armm x0 x1) s = execArmm x0 x1 s := rfl
theorem exec_mlogic x0 x1 x2 x3 x4 (s : State) : exec (.mlogic x0 x1 x2 x3 x4) s = execMlogic x0 x1 x2 x3 x4 s := rfl
theorem exec_mcnt x0 x1 x2 (s : State) : exec (.mcnt x0 x1 x2) s = execMcnt x0 x1 x2 s := rfl
theorem exec_mfirst x0 x1 x2 (s : State) : exec (.mfirst x0 x1 x2) s = execMfirst x0 x1 x2 s := rfl
theorem exec_mfill x0 x1 x2 (s : State) : exec (.mfill x0 x1 x2) s = execMfill x0 x1 x2 s := rfl
theorem exec_mfromp x0 x1 x2 (s : State) : exec (.mfromp x0 x1 x2) s = execMfromp x0 x1 x2 s := rfl
theorem exec_movka x0 x1 x2 (s : State) : exec (.movka x0 x1 x2) s = execMovka x0 x1 x2 s := rfl
theorem exec_movak x0 x1 x2 (s : State) : exec (.movak x0 x1 x2) s = execMovak x0 x1 x2 s := rfl
theorem exec_sela x0 x1 x2 x3 x4 (s : State) : exec (.sela x0 x1 x2 x3 x4) s = execSela x0 x1 x2 x3 x4 s := rfl
theorem exec_ldelta x0 x1 x2 x3 (s : State) : exec (.ldelta x0 x1 x2 x3) s = execLdelta x0 x1 x2 x3 s := rfl
theorem exec_getlc x0 x1 x2 (s : State) : exec (.getlc x0 x1 x2) s = execGetlc x0 x1 x2 s := rfl
theorem exec_movs x0 x1 x2 (s : State) : exec (.movs x0 x1 x2) s = execMovs x0 x1 x2 s := rfl
theorem exec_movg x0 x1 x2 (s : State) : exec (.movg x0 x1 x2) s = execMovg x0 x1 x2 s := rfl
theorem exec_nopVec  (s : State) : exec (.nopVec) s = execNopVec s := rfl
theorem exec_vaddF x0 x1 x2 x3 x4 x5 (s : State) : exec (.vaddF x0 x1 x2 x3 x4 x5) s = execVaddF x0 x1 x2 x3 x4 x5 s := rfl
theorem exec_vsubF x0 x1 x2 x3 x4 x5 (s : State) : exec (.vsubF x0 x1 x2 x3 x4 x5) s = execVsubF x0 x1 x2 x3 x4 x5 s := rfl
theorem exec_vmulF x0 x1 x2 x3 x4 x5 (s : State) : exec (.vmulF x0 x1 x2 x3 x4 x5) s = execVmulF x0 x1 x2 x3 x4 x5 s := rfl
theorem exec_vfmaF x0 x1 x2 x3 x4 x5 (s : State) : exec (.vfmaF x0 x1 x2 x3 x4 x5) s = execVfmaF x0 x1 x2 x3 x4 x5 s := rfl
theorem exec_vfmsF x0 x1 x2 x3 x4 x5 (s : State) : exec (.vfmsF x0 x1 x2 x3 x4 x5) s = execVfmsF x0 x1 x2 x3 x4 x5 s := rfl
theorem exec_vminF x0 x1 x2 x3 x4 x5 (s : State) : exec (.vminF x0 x1 x2 x3 x4 x5) s = execVminF x0 x1 x2 x3 x4 x5 s := rfl
theorem exec_vmaxF x0 x1 x2 x3 x4 x5 (s : State) : exec (.vmaxF x0 x1 x2 x3 x4 x5) s = execVmaxF x0 x1 x2 x3 x4 x5 s := rfl
theorem exec_vabsF x0 x1 x2 x3 (s : State) : exec (.vabsF x0 x1 x2 x3) s = execVabsF x0 x1 x2 x3 s := rfl
theorem exec_vnegF x0 x1 x2 x3 (s : State) : exec (.vnegF x0 x1 x2 x3) s = execVnegF x0 x1 x2 x3 s := rfl
theorem exec_vrcpF x0 x1 x2 x3 (s : State) : exec (.vrcpF x0 x1 x2 x3) s = execVrcpF x0 x1 x2 x3 s := rfl
theorem exec_vrsqF x0 x1 x2 x3 (s : State) : exec (.vrsqF x0 x1 x2 x3) s = execVrsqF x0 x1 x2 x3 s := rfl
theorem exec_vexp2F x0 x1 x2 x3 (s : State) : exec (.vexp2F x0 x1 x2 x3) s = execVexp2F x0 x1 x2 x3 s := rfl
theorem exec_vlog2F x0 x1 x2 x3 (s : State) : exec (.vlog2F x0 x1 x2 x3) s = execVlog2F x0 x1 x2 x3 s := rfl
theorem exec_vcmpeqF x0 x1 x2 x3 x4 x5 (s : State) : exec (.vcmpeqF x0 x1 x2 x3 x4 x5) s = execVcmpeqF x0 x1 x2 x3 x4 x5 s := rfl
theorem exec_vcmpltF x0 x1 x2 x3 x4 x5 (s : State) : exec (.vcmpltF x0 x1 x2 x3 x4 x5) s = execVcmpltF x0 x1 x2 x3 x4 x5 s := rfl
theorem exec_vcmpleF x0 x1 x2 x3 x4 x5 (s : State) : exec (.vcmpleF x0 x1 x2 x3 x4 x5) s = execVcmpleF x0 x1 x2 x3 x4 x5 s := rfl
theorem exec_vaddI x0 x1 x2 x3 x4 x5 (s : State) : exec (.vaddI x0 x1 x2 x3 x4 x5) s = execVaddI x0 x1 x2 x3 x4 x5 s := rfl
theorem exec_vsubI x0 x1 x2 x3 x4 x5 (s : State) : exec (.vsubI x0 x1 x2 x3 x4 x5) s = execVsubI x0 x1 x2 x3 x4 x5 s := rfl
theorem exec_vmulI x0 x1 x2 x3 x4 x5 (s : State) : exec (.vmulI x0 x1 x2 x3 x4 x5) s = execVmulI x0 x1 x2 x3 x4 x5 s := rfl
theorem exec_vminI x0 x1 x2 x3 x4 x5 (s : State) : exec (.vminI x0 x1 x2 x3 x4 x5) s = execVminI x0 x1 x2 x3 x4 x5 s := rfl
theorem exec_vmaxI x0 x1 x2 x3 x4 x5 (s : State) : exec (.vmaxI x0 x1 x2 x3 x4 x5) s = execVmaxI x0 x1 x2 x3 x4 x5 s := rfl
theorem exec_vand x0 x1 x2 x3 x4 x5 (s : State) : exec (.vand x0 x1 x2 x3 x4 x5) s = execVand x0 x1 x2 x3 x4 x5 s := rfl
theorem exec_vor x0 x1 x2 x3 x4 x5 (s : State) : exec (.vor x0 x1 x2 x3 x4 x5) s = execVor x0 x1 x2 x3 x4 x5 s := rfl
theorem exec_vxor x0 x1 x2 x3 x4 x5 (s : State) : exec (.vxor x0 x1 x2 x3 x4 x5) s = execVxor x0 x1 x2 x3 x4 x5 s := rfl
theorem exec_vshl x0 x1 x2 x3 x4 x5 (s : State) : exec (.vshl x0 x1 x2 x3 x4 x5) s = execVshl x0 x1 x2 x3 x4 x5 s := rfl
theorem exec_vshr x0 x1 x2 x3 x4 x5 (s : State) : exec (.vshr x0 x1 x2 x3 x4 x5) s = execVshr x0 x1 x2 x3 x4 x5 s := rfl
theorem exec_vsar x0 x1 x2 x3 x4 x5 (s : State) : exec (.vsar x0 x1 x2 x3 x4 x5) s = execVsar x0 x1 x2 x3 x4 x5 s := rfl
theorem exec_vcmpeqI x0 x1 x2 x3 x4 x5 (s : State) : exec (.vcmpeqI x0 x1 x2 x3 x4 x5) s = execVcmpeqI x0 x1 x2 x3 x4 x5 s := rfl
theorem exec_vcmpltI x0 x1 x2 x3 x4 x5 (s : State) : exec (.vcmpltI x0 x1 x2 x3 x4 x5) s = execVcmpltI x0 x1 x2 x3 x4 x5 s := rfl
theorem exec_vcvtFi x0 x1 x2 x3 (s : State) : exec (.vcvtFi x0 x1 x2 x3) s = execVcvtFi x0 x1 x2 x3 s := rfl
theorem exec_vcvtIf x0 x1 x2 x3 (s : State) : exec (.vcvtIf x0 x1 x2 x3) s = execVcvtIf x0 x1 x2 x3 s := rfl
theorem exec_vpkbf x0 x1 x2 x3 x4 x5 (s : State) : exec (.vpkbf x0 x1 x2 x3 x4 x5) s = execVpkbf x0 x1 x2 x3 x4 x5 s := rfl
theorem exec_vunbf x0 x1 x2 x3 x4 (s : State) : exec (.vunbf x0 x1 x2 x3 x4) s = execVunbf x0 x1 x2 x3 x4 s := rfl
theorem exec_vcvtn x0 x1 x2 x3 x4 (s : State) : exec (.vcvtn x0 x1 x2 x3 x4) s = execVcvtn x0 x1 x2 x3 x4 s := rfl
theorem exec_vcvtw x0 x1 x2 x3 x4 (s : State) : exec (.vcvtw x0 x1 x2 x3 x4) s = execVcvtw x0 x1 x2 x3 x4 s := rfl
theorem exec_vmov x0 x1 x2 x3 (s : State) : exec (.vmov x0 x1 x2 x3) s = execVmov x0 x1 x2 x3 s := rfl
theorem exec_vsel x0 x1 x2 x3 x4 x5 (s : State) : exec (.vsel x0 x1 x2 x3 x4 x5) s = execVsel x0 x1 x2 x3 x4 x5 s := rfl
theorem exec_vbca x0 x1 x2 x3 (s : State) : exec (.vbca x0 x1 x2 x3) s = execVbca x0 x1 x2 x3 s := rfl
theorem exec_vbck x0 x1 x2 x3 (s : State) : exec (.vbck x0 x1 x2 x3) s = execVbck x0 x1 x2 x3 s := rfl
theorem exec_vperm x0 x1 x2 x3 x4 x5 (s : State) : exec (.vperm x0 x1 x2 x3 x4 x5) s = execVperm x0 x1 x2 x3 x4 x5 s := rfl
theorem exec_vext x0 x1 x2 x3 x4 (s : State) : exec (.vext x0 x1 x2 x3 x4) s = execVext x0 x1 x2 x3 x4 s := rfl
theorem exec_vins x0 x1 x2 x3 x4 (s : State) : exec (.vins x0 x1 x2 x3 x4) s = execVins x0 x1 x2 x3 x4 s := rfl
theorem exec_viota x0 x1 (s : State) : exec (.viota x0 x1) s = execViota x0 x1 s := rfl
theorem exec_vsumx x0 x1 x2 x3 (s : State) : exec (.vsumx x0 x1 x2 x3) s = execVsumx x0 x1 x2 x3 s := rfl
theorem exec_vmaxr x0 x1 x2 x3 (s : State) : exec (.vmaxr x0 x1 x2 x3) s = execVmaxr x0 x1 x2 x3 s := rfl
theorem exec_vminr x0 x1 x2 x3 (s : State) : exec (.vminr x0 x1 x2 x3) s = execVminr x0 x1 x2 x3 s := rfl
theorem exec_vsumi x0 x1 x2 x3 (s : State) : exec (.vsumi x0 x1 x2 x3) s = execVsumi x0 x1 x2 x3 s := rfl
theorem exec_nopIvl  (s : State) : exec (.nopIvl) s = execNopIvl s := rfl
theorem exec_qadd x0 x1 x2 x3 (s : State) : exec (.qadd x0 x1 x2 x3) s = execQadd x0 x1 x2 x3 s := rfl
theorem exec_qsub x0 x1 x2 x3 (s : State) : exec (.qsub x0 x1 x2 x3) s = execQsub x0 x1 x2 x3 s := rfl
theorem exec_qmul x0 x1 x2 x3 (s : State) : exec (.qmul x0 x1 x2 x3) s = execQmul x0 x1 x2 x3 s := rfl
theorem exec_qfma x0 x1 x2 x3 x4 (s : State) : exec (.qfma x0 x1 x2 x3 x4) s = execQfma x0 x1 x2 x3 x4 s := rfl
theorem exec_qdiv x0 x1 x2 x3 (s : State) : exec (.qdiv x0 x1 x2 x3) s = execQdiv x0 x1 x2 x3 s := rfl
theorem exec_qsqr x0 x1 x2 (s : State) : exec (.qsqr x0 x1 x2) s = execQsqr x0 x1 x2 s := rfl
theorem exec_qsqrt x0 x1 x2 (s : State) : exec (.qsqrt x0 x1 x2) s = execQsqrt x0 x1 x2 s := rfl
theorem exec_qrelu x0 x1 x2 (s : State) : exec (.qrelu x0 x1 x2) s = execQrelu x0 x1 x2 s := rfl
theorem exec_qmax x0 x1 x2 x3 (s : State) : exec (.qmax x0 x1 x2 x3) s = execQmax x0 x1 x2 x3 s := rfl
theorem exec_qmin x0 x1 x2 x3 (s : State) : exec (.qmin x0 x1 x2 x3) s = execQmin x0 x1 x2 x3 s := rfl
theorem exec_qneg x0 x1 x2 (s : State) : exec (.qneg x0 x1 x2) s = execQneg x0 x1 x2 s := rfl
theorem exec_qabs x0 x1 x2 (s : State) : exec (.qabs x0 x1 x2) s = execQabs x0 x1 x2 s := rfl
theorem exec_qexp x0 x1 x2 (s : State) : exec (.qexp x0 x1 x2) s = execQexp x0 x1 x2 s := rfl
theorem exec_qmeet x0 x1 x2 x3 (s : State) : exec (.qmeet x0 x1 x2 x3) s = execQmeet x0 x1 x2 x3 s := rfl
theorem exec_qhull x0 x1 x2 x3 (s : State) : exec (.qhull x0 x1 x2 x3) s = execQhull x0 x1 x2 x3 s := rfl
theorem exec_qmid x0 x1 x2 (s : State) : exec (.qmid x0 x1 x2) s = execQmid x0 x1 x2 s := rfl
theorem exec_qwid x0 x1 x2 (s : State) : exec (.qwid x0 x1 x2) s = execQwid x0 x1 x2 s := rfl
theorem exec_qbis x0 x1 x2 (s : State) : exec (.qbis x0 x1 x2) s = execQbis x0 x1 x2 s := rfl
theorem exec_qmake x0 x1 x2 x3 x4 (s : State) : exec (.qmake x0 x1 x2 x3 x4) s = execQmake x0 x1 x2 x3 x4 s := rfl
theorem exec_qpoint x0 x1 x2 x3 (s : State) : exec (.qpoint x0 x1 x2 x3) s = execQpoint x0 x1 x2 x3 s := rfl
theorem exec_qlo x0 x1 x2 x3 (s : State) : exec (.qlo x0 x1 x2 x3) s = execQlo x0 x1 x2 x3 s := rfl
theorem exec_qhi x0 x1 x2 x3 (s : State) : exec (.qhi x0 x1 x2 x3) s = execQhi x0 x1 x2 x3 s := rfl
theorem exec_qent x0 x1 (s : State) : exec (.qent x0 x1) s = execQent x0 x1 s := rfl
theorem exec_qemp x0 x1 (s : State) : exec (.qemp x0 x1) s = execQemp x0 x1 s := rfl
theorem exec_qbca x0 x1 x2 (s : State) : exec (.qbca x0 x1 x2) s = execQbca x0 x1 x2 s := rfl
theorem exec_qcmp x0 x1 x2 x3 x4 (s : State) : exec (.qcmp x0 x1 x2 x3 x4) s = execQcmp x0 x1 x2 x3 x4 s := rfl
theorem exec_qtest x0 x1 x2 x3 x4 (s : State) : exec (.qtest x0 x1 x2 x3 x4) s = execQtest x0 x1 x2 x3 x4 s := rfl
theorem exec_qaddC x0 x1 x2 x3 (s : State) : exec (.qaddC x0 x1 x2 x3) s = execQaddC x0 x1 x2 x3 s := rfl
theorem exec_qsubC x0 x1 x2 x3 (s : State) : exec (.qsubC x0 x1 x2 x3) s = execQsubC x0 x1 x2 x3 s := rfl
theorem exec_qmulC x0 x1 x2 x3 (s : State) : exec (.qmulC x0 x1 x2 x3) s = execQmulC x0 x1 x2 x3 s := rfl
theorem exec_qfmaC x0 x1 x2 x3 x4 (s : State) : exec (.qfmaC x0 x1 x2 x3 x4) s = execQfmaC x0 x1 x2 x3 x4 s := rfl
theorem exec_qsqrC x0 x1 x2 (s : State) : exec (.qsqrC x0 x1 x2) s = execQsqrC x0 x1 x2 s := rfl
theorem exec_qreluC x0 x1 x2 (s : State) : exec (.qreluC x0 x1 x2) s = execQreluC x0 x1 x2 s := rfl
theorem exec_qmaxC x0 x1 x2 x3 (s : State) : exec (.qmaxC x0 x1 x2 x3) s = execQmaxC x0 x1 x2 x3 s := rfl
theorem exec_qexpC x0 x1 x2 (s : State) : exec (.qexpC x0 x1 x2) s = execQexpC x0 x1 x2 s := rfl
theorem exec_qleC x0 x1 x2 (s : State) : exec (.qleC x0 x1 x2) s = execQleC x0 x1 x2 s := rfl
theorem exec_qstat x0 x1 x2 (s : State) : exec (.qstat x0 x1 x2) s = execQstat x0 x1 x2 s := rfl
theorem exec_nopMem  (s : State) : exec (.nopMem) s = execNopMem s := rfl
theorem exec_ldsV x0 x1 x2 x3 (s : State) : exec (.ldsV x0 x1 x2 x3) s = execLdsV x0 x1 x2 x3 s := rfl
theorem exec_stsV x0 x1 x2 x3 (s : State) : exec (.stsV x0 x1 x2 x3) s = execStsV x0 x1 x2 x3 s := rfl
theorem exec_ldsQ x0 x1 x2 x3 (s : State) : exec (.ldsQ x0 x1 x2 x3) s = execLdsQ x0 x1 x2 x3 s := rfl
theorem exec_stsQ x0 x1 x2 x3 (s : State) : exec (.stsQ x0 x1 x2 x3) s = execStsQ x0 x1 x2 x3 s := rfl
theorem exec_ldsK x0 x1 x2 x3 (s : State) : exec (.ldsK x0 x1 x2 x3) s = execLdsK x0 x1 x2 x3 s := rfl
theorem exec_stsK x0 x1 x2 x3 (s : State) : exec (.stsK x0 x1 x2 x3) s = execStsK x0 x1 x2 x3 s := rfl
theorem exec_ldsA x0 x1 x2 x3 (s : State) : exec (.ldsA x0 x1 x2 x3) s = execLdsA x0 x1 x2 x3 s := rfl
theorem exec_stsA x0 x1 x2 x3 (s : State) : exec (.stsA x0 x1 x2 x3) s = execStsA x0 x1 x2 x3 s := rfl
theorem exec_ldsVx x0 x1 x2 x3 (s : State) : exec (.ldsVx x0 x1 x2 x3) s = execLdsVx x0 x1 x2 x3 s := rfl
theorem exec_stsVx x0 x1 x2 x3 (s : State) : exec (.stsVx x0 x1 x2 x3) s = execStsVx x0 x1 x2 x3 s := rfl
theorem exec_ldgA x0 x1 x2 x3 x4 (s : State) : exec (.ldgA x0 x1 x2 x3 x4) s = execLdgA x0 x1 x2 x3 x4 s := rfl
theorem exec_stgA x0 x1 x2 x3 x4 (s : State) : exec (.stgA x0 x1 x2 x3 x4) s = execStgA x0 x1 x2 x3 x4 s := rfl
theorem exec_ldgV x0 x1 x2 x3 x4 (s : State) : exec (.ldgV x0 x1 x2 x3 x4) s = execLdgV x0 x1 x2 x3 x4 s := rfl
theorem exec_stgV x0 x1 x2 x3 x4 (s : State) : exec (.stgV x0 x1 x2 x3 x4) s = execStgV x0 x1 x2 x3 x4 s := rfl
theorem exec_ldgK x0 x1 x2 x3 x4 (s : State) : exec (.ldgK x0 x1 x2 x3 x4) s = execLdgK x0 x1 x2 x3 x4 s := rfl
theorem exec_ldgKN x0 x1 x2 x3 x4 (s : State) : exec (.ldgKN x0 x1 x2 x3 x4) s = execLdgKN x0 x1 x2 x3 x4 s := rfl
theorem exec_aadd x0 x1 x2 x3 x4 (s : State) : exec (.aadd x0 x1 x2 x3 x4) s = execAadd x0 x1 x2 x3 x4 s := rfl
theorem exec_amax x0 x1 x2 x3 x4 (s : State) : exec (.amax x0 x1 x2 x3 x4) s = execAmax x0 x1 x2 x3 x4 s := rfl
theorem exec_amin x0 x1 x2 x3 x4 (s : State) : exec (.amin x0 x1 x2 x3 x4) s = execAmin x0 x1 x2 x3 x4 s := rfl
theorem exec_axch x0 x1 x2 x3 x4 (s : State) : exec (.axch x0 x1 x2 x3 x4) s = execAxch x0 x1 x2 x3 x4 s := rfl
theorem exec_acas x0 x1 x2 x3 x4 (s : State) : exec (.acas x0 x1 x2 x3 x4) s = execAcas x0 x1 x2 x3 x4 s := rfl
theorem exec_amaxf x0 x1 x2 x3 x4 (s : State) : exec (.amaxf x0 x1 x2 x3 x4) s = execAmaxf x0 x1 x2 x3 x4 s := rfl
theorem exec_amaxrst x0 x1 x2 x3 (s : State) : exec (.amaxrst x0 x1 x2 x3) s = execAmaxrst x0 x1 x2 x3 s := rfl
theorem exec_xadd x0 x1 x2 (s : State) : exec (.xadd x0 x1 x2) s = execXadd x0 x1 x2 s := rfl
theorem exec_xaddv x0 x1 x2 (s : State) : exec (.xaddv x0 x1 x2) s = execXaddv x0 x1 x2 s := rfl
theorem exec_xrd x0 x1 x2 x3 (s : State) : exec (.xrd x0 x1 x2 x3) s = execXrd x0 x1 x2 x3 s := rfl
theorem exec_xrdv x0 x1 x2 x3 (s : State) : exec (.xrdv x0 x1 x2 x3) s = execXrdv x0 x1 x2 x3 s := rfl
theorem exec_xclr x0 x1 x2 (s : State) : exec (.xclr x0 x1 x2) s = execXclr x0 x1 x2 s := rfl
theorem exec_fenceAcq x0 x1 (s : State) : exec (.fenceAcq x0 x1) s = execFenceAcq x0 x1 s := rfl
theorem exec_fenceRel x0 x1 (s : State) : exec (.fenceRel x0 x1) s = execFenceRel x0 x1 s := rfl
theorem exec_fenceFull x0 x1 (s : State) : exec (.fenceFull x0 x1) s = execFenceFull x0 x1 s := rfl
theorem exec_push x0 x1 x2 (s : State) : exec (.push x0 x1 x2) s = execPush x0 x1 x2 s := rfl
theorem exec_pusht x0 x1 x2 x3 (s : State) : exec (.pusht x0 x1 x2 x3) s = execPusht x0 x1 x2 x3 s := rfl
theorem exec_pushqw x0 x1 x2 x3 (s : State) : exec (.pushqw x0 x1 x2 x3) s = execPushqw x0 x1 x2 x3 s := rfl
theorem exec_pop x0 x1 x2 (s : State) : exec (.pop x0 x1 x2) s = execPop x0 x1 x2 s := rfl
theorem exec_pushr x0 x1 x2 (s : State) : exec (.pushr x0 x1 x2) s = execPushr x0 x1 x2 s := rfl
theorem exec_popr x0 x1 x2 (s : State) : exec (.popr x0 x1 x2) s = execPopr x0 x1 x2 s := rfl
theorem exec_cbinv x0 x1 (s : State) : exec (.cbinv x0 x1) s = execCbinv x0 x1 s := rfl
theorem exec_nopMtx  (s : State) : exec (.nopMtx) s = execNopMtx s := rfl
theorem exec_claim x0 x1 (s : State) : exec (.claim x0 x1) s = execClaim x0 x1 s := rfl
theorem exec_release x0 (s : State) : exec (.release x0) s = execRelease x0 s := rfl
theorem exec_ldw x0 x1 x2 (s : State) : exec (.ldw x0 x1 x2) s = execLdw x0 x1 x2 s := rfl
theorem exec_swpw  (s : State) : exec (.swpw) s = execSwpw s := rfl
theorem exec_acc x0 x1 x2 x3 (s : State) : exec (.acc x0 x1 x2 x3) s = execAcc x0 x1 x2 x3 s := rfl
theorem exec_accz x0 x1 x2 x3 (s : State) : exec (.accz x0 x1 x2 x3) s = execAccz x0 x1 x2 x3 s := rfl
theorem exec_drain x0 x1 x2 x3 x4 (s : State) : exec (.drain x0 x1 x2 x3 x4) s = execDrain x0 x1 x2 x3 x4 s := rfl
theorem exec_drainF32 x0 x1 x2 (s : State) : exec (.drainF32 x0 x1 x2) s = execDrainF32 x0 x1 x2 s := rfl
theorem exec_nopCpy  (s : State) : exec (.nopCpy) s = execNopCpy s := rfl
theorem exec_cg2s x0 x1 x2 x3 (s : State) : exec (.cg2s x0 x1 x2 x3) s = execCg2s x0 x1 x2 x3 s := rfl
theorem exec_cg2sDc x0 x1 x2 (s : State) : exec (.cg2sDc x0 x1 x2) s = execCg2sDc x0 x1 x2 s := rfl
theorem exec_cs2g x0 x1 x2 x3 (s : State) : exec (.cs2g x0 x1 x2 x3) s = execCs2g x0 x1 x2 x3 s := rfl
theorem exec_cs2gDc x0 x1 x2 (s : State) : exec (.cs2gDc x0 x1 x2) s = execCs2gDc x0 x1 x2 s := rfl
theorem exec_cg2o x0 x1 x2 x3 (s : State) : exec (.cg2o x0 x1 x2 x3) s = execCg2o x0 x1 x2 x3 s := rfl
theorem exec_cs2o x0 x1 x2 x3 (s : State) : exec (.cs2o x0 x1 x2 x3) s = execCs2o x0 x1 x2 x3 s := rfl
theorem exec_cg2g x0 x1 x2 x3 (s : State) : exec (.cg2g x0 x1 x2 x3) s = execCg2g x0 x1 x2 x3 s := rfl
theorem exec_cg2gDc x0 x1 x2 (s : State) : exec (.cg2gDc x0 x1 x2) s = execCg2gDc x0 x1 x2 s := rfl
theorem exec_cxred x0 x1 x2 x3 (s : State) : exec (.cxred x0 x1 x2 x3) s = execCxred x0 x1 x2 x3 s := rfl
theorem exec_cxredDc x0 x1 x2 (s : State) : exec (.cxredDc x0 x1 x2) s = execCxredDc x0 x1 x2 s := rfl
theorem exec_tset x0 x1 (s : State) : exec (.tset x0 x1) s = execTset x0 x1 s := rfl
theorem exec_tdrain x0 x1 (s : State) : exec (.tdrain x0 x1) s = execTdrain x0 x1 s := rfl
theorem exec_gidx x0 (s : State) : exec (.gidx x0) s = execGidx x0 s := rfl
theorem exec_gather x0 x1 x2 x3 (s : State) : exec (.gather x0 x1 x2 x3) s = execGather x0 x1 x2 x3 s := rfl
theorem exec_gend  (s : State) : exec (.gend) s = execGend s := rfl
theorem exec_loadLanding x0 x1 (s : State) : exec (.loadLanding x0 x1) s = execLoadLanding x0 x1 s := rfl
theorem exec_writeDrained x0 x1 (s : State) : exec (.writeDrained x0 x1) s = execWriteDrained x0 x1 s := rfl
theorem exec_divRemWrite x0 x1 (s : State) : exec (.divRemWrite x0 x1) s = execDivRemWrite x0 x1 s := rfl
theorem exec_scatterGatherDone x0 x1 (s : State) : exec (.scatterGatherDone x0 x1) s = execScatterGatherDone x0 x1 s := rfl
theorem exec_copySectorLands x0 x1 x2 (s : State) : exec (.copySectorLands x0 x1 x2) s = execCopySectorLands x0 x1 x2 s := rfl
theorem exec_gatherRowLands x0 x1 (s : State) : exec (.gatherRowLands x0 x1) s = execGatherRowLands x0 x1 s := rfl
theorem exec_pageWalk x0 x1 x2 (s : State) : exec (.pageWalk x0 x1 x2) s = execPageWalk x0 x1 x2 s := rfl
theorem exec_pageResponse x0 x1 x2 x3 (s : State) : exec (.pageResponse x0 x1 x2 x3) s = execPageResponse x0 x1 x2 x3 s := rfl
theorem exec_overlayLoaded x0 (s : State) : exec (.overlayLoaded x0) s = execOverlayLoaded x0 s := rfl
theorem exec_overlayPrefetch x0 x1 (s : State) : exec (.overlayPrefetch x0 x1) s = execOverlayPrefetch x0 x1 s := rfl
theorem exec_park x0 (s : State) : exec (.park x0) s = execPark x0 s := rfl
theorem exec_budgetovr x0 (s : State) : exec (.budgetovr x0) s = execBudgetovr x0 s := rfl
theorem exec_barrierRestart x0 (s : State) : exec (.barrierRestart x0) s = execBarrierRestart x0 s := rfl
theorem exec_enginesEmpty x0 (s : State) : exec (.enginesEmpty x0) s = execEnginesEmpty x0 s := rfl
theorem exec_dispatch x0 (s : State) : exec (.dispatch x0) s = execDispatch x0 s := rfl
theorem exec_gangDispatch x0 x1 (s : State) : exec (.gangDispatch x0 x1) s = execGangDispatch x0 x1 s := rfl
theorem exec_spawnAcceptance x0 (s : State) : exec (.spawnAcceptance x0) s = execSpawnAcceptance x0 s := rfl
theorem exec_queueDelivery x0 x1 (s : State) : exec (.queueDelivery x0 x1) s = execQueueDelivery x0 x1 s := rfl
theorem exec_entryReturn x0 x1 (s : State) : exec (.entryReturn x0 x1) s = execEntryReturn x0 x1 s := rfl
theorem exec_hearthQnew x0 (s : State) : exec (.hearthQnew x0) s = execHearthQnew x0 s := rfl
theorem exec_hearthBorrow x0 (s : State) : exec (.hearthBorrow x0) s = execHearthBorrow x0 s := rfl
theorem exec_hearthReturn x0 (s : State) : exec (.hearthReturn x0) s = execHearthReturn x0 s := rfl
theorem exec_hearthQwait x0 (s : State) : exec (.hearthQwait x0) s = execHearthQwait x0 s := rfl
theorem exec_queueWindowWrite x0 x1 x2 (s : State) : exec (.queueWindowWrite x0 x1 x2) s = execQueueWindowWrite x0 x1 x2 s := rfl
theorem exec_bindpasid x0 (s : State) : exec (.bindpasid x0) s = execBindpasid x0 s := rfl
theorem exec_preempt x0 (s : State) : exec (.preempt x0) s = execPreempt x0 s := rfl
theorem exec_preemptHalt x0 (s : State) : exec (.preemptHalt x0) s = execPreemptHalt x0 s := rfl
theorem exec_preemptCompletion  (s : State) : exec (.preemptCompletion) s = execPreemptCompletion s := rfl
theorem exec_inval x0 (s : State) : exec (.inval x0) s = execInval x0 s := rfl
theorem exec_qmode x0 (s : State) : exec (.qmode x0) s = execQmode x0 s := rfl
theorem exec_descinv x0 (s : State) : exec (.descinv x0) s = execDescinv x0 s := rfl
theorem exec_temper x0 (s : State) : exec (.temper x0) s = execTemper x0 s := rfl
theorem exec_route x0 (s : State) : exec (.route x0) s = execRoute x0 s := rfl
theorem exec_attest x0 (s : State) : exec (.attest x0) s = execAttest x0 s := rfl
theorem exec_fring x0 (s : State) : exec (.fring x0) s = execFring x0 s := rfl
theorem exec_kill x0 (s : State) : exec (.kill x0) s = execKill x0 s := rfl
theorem exec_reset x0 (s : State) : exec (.reset x0) s = execReset x0 s := rfl
theorem exec_elog x0 (s : State) : exec (.elog x0) s = execElog x0 s := rfl
theorem exec_badcmd x0 (s : State) : exec (.badcmd x0) s = execBadcmd x0 s := rfl
theorem exec_frp x0 (s : State) : exec (.frp x0) s = execFrp x0 s := rfl
theorem exec_erp x0 (s : State) : exec (.erp x0) s = execErp x0 s := rfl
theorem exec_registerWrite x0 x1 (s : State) : exec (.registerWrite x0 x1) s = execRegisterWrite x0 x1 s := rfl
theorem exec_dstat x0 x1 (s : State) : exec (.dstat x0 x1) s = execDstat x0 x1 s := rfl
theorem exec_debugStopRequest x0 (s : State) : exec (.debugStopRequest x0) s = execDebugStopRequest x0 s := rfl
theorem exec_debugResume x0 (s : State) : exec (.debugResume x0) s = execDebugResume x0 s := rfl
theorem exec_debuggerRegisterWrite x0 x1 x2 (s : State) : exec (.debuggerRegisterWrite x0 x1 x2) s = execDebuggerRegisterWrite x0 x1 x2 s := rfl
theorem exec_debugMemoryAccess x0 x1 (s : State) : exec (.debugMemoryAccess x0 x1) s = execDebugMemoryAccess x0 x1 s := rfl
theorem exec_sampleRecord x0 (s : State) : exec (.sampleRecord x0) s = execSampleRecord x0 s := rfl
theorem exec_spdmRequest x0 (s : State) : exec (.spdmRequest x0) s = execSpdmRequest x0 s := rfl
theorem exec_hostMemoryAccess x0 x1 (s : State) : exec (.hostMemoryAccess x0 x1) s = execHostMemoryAccess x0 x1 s := rfl
theorem exec_peerRequest x0 x1 (s : State) : exec (.peerRequest x0 x1) s = execPeerRequest x0 x1 s := rfl
theorem exec_boot  (s : State) : exec (.boot) s = execBoot s := rfl
theorem exec_functionLevelReset  (s : State) : exec (.functionLevelReset) s = execFunctionLevelReset s := rfl
theorem exec_temperTick  (s : State) : exec (.temperTick) s = execTemperTick s := rfl
theorem exec_boostStep x0 (s : State) : exec (.boostStep x0) s = execBoostStep x0 s := rfl
theorem exec_patrolScrub x0 x1 (s : State) : exec (.patrolScrub x0 x1) s = execPatrolScrub x0 x1 s := rfl
theorem exec_flitCrcRetry x0 (s : State) : exec (.flitCrcRetry x0) s = execFlitCrcRetry x0 s := rfl
theorem exec_linkRetrain x0 (s : State) : exec (.linkRetrain x0) s = execLinkRetrain x0 s := rfl
theorem exec_portDown x0 (s : State) : exec (.portDown x0) s = execPortDown x0 s := rfl
theorem exec_portUp x0 (s : State) : exec (.portUp x0) s = execPortUp x0 s := rfl
theorem exec_registerStateLost x0 (s : State) : exec (.registerStateLost x0) s = execRegisterStateLost x0 s := rfl
theorem exec_coreLogicError x0 (s : State) : exec (.coreLogicError x0) s = execCoreLogicError x0 s := rfl
theorem exec_fabricError x0 (s : State) : exec (.fabricError x0) s = execFabricError x0 s := rfl
theorem exec_unassignedEncoding x0 x1 x2 (s : State) : exec (.unassignedEncoding x0 x1 x2) s = execUnassignedEncoding x0 x1 x2 s := rfl
theorem exec_evictionCompletes x0 (s : State) : exec (.evictionCompletes x0) s = execEvictionCompletes x0 s := rfl
theorem exec_imageRestored x0 (s : State) : exec (.imageRestored x0) s = execImageRestored x0 s := rfl

end Sys2Proof.Machine
end

