-- ==== Sys2Proof/Laws/State.lean ====
section
/-! SUPPORT. One lemma per field for each update of the state and of a context that the operations are made of. -/

namespace Sys2Proof.Machine

/-! A change of the live context. -/
@[simp] theorem State.mapLive_live (s : State) (f : Context → Context) : (s.mapLive f).live = f s.live := rfl
@[simp] theorem State.mapLive_issue (s : State) (f : Context → Context) : (s.mapLive f).issue = s.issue := rfl
@[simp] theorem State.mapLive_uid (s : State) (f : Context → Context) : (s.mapLive f).uid = s.uid := rfl
@[simp] theorem State.mapLive_core (s : State) (f : Context → Context) : (s.mapLive f).core = s.core := rfl
@[simp] theorem State.mapLive_verdict (s : State) (f : Context → Context) : (s.mapLive f).verdict = s.verdict := rfl
@[simp] theorem State.mapLive_mcc (s : State) (f : Context → Context) : (s.mapLive f).mcc = s.mcc := rfl
@[simp] theorem State.mapLive_tick (s : State) (f : Context → Context) : (s.mapLive f).tick = s.tick := rfl
@[simp] theorem State.mapLive_beside (s : State) (f : Context → Context) : (s.mapLive f).beside = s.beside := rfl
@[simp] theorem State.mapLive_micros (s : State) (f : Context → Context) : (s.mapLive f).micros = s.micros := rfl
@[simp] theorem State.mapLive_script (s : State) (f : Context → Context) : (s.mapLive f).script = s.script := rfl
@[simp] theorem State.mapLive_inputs (s : State) (f : Context → Context) : (s.mapLive f).inputs = s.inputs := rfl
@[simp] theorem State.mapLive_ctxs (s : State) (f : Context → Context) : (s.mapLive f).ctxs = s.ctxs := rfl
@[simp] theorem State.mapLive_images (s : State) (f : Context → Context) : (s.mapLive f).images = s.images := rfl
@[simp] theorem State.mapLive_nextUid (s : State) (f : Context → Context) : (s.mapLive f).nextUid = s.nextUid := rfl
@[simp] theorem State.mapLive_cores (s : State) (f : Context → Context) : (s.mapLive f).cores = s.cores := rfl
@[simp] theorem State.mapLive_clusters (s : State) (f : Context → Context) : (s.mapLive f).clusters = s.clusters := rfl
@[simp] theorem State.mapLive_gangs (s : State) (f : Context → Context) : (s.mapLive f).gangs = s.gangs := rfl
@[simp] theorem State.mapLive_mem (s : State) (f : Context → Context) : (s.mapLive f).mem = s.mem := rfl
@[simp] theorem State.mapLive_poison (s : State) (f : Context → Context) : (s.mapLive f).poison = s.poison := rfl
@[simp] theorem State.mapLive_mmu (s : State) (f : Context → Context) : (s.mapLive f).mmu = s.mmu := rfl
@[simp] theorem State.mapLive_mail (s : State) (f : Context → Context) : (s.mapLive f).mail = s.mail := rfl
@[simp] theorem State.mapLive_faults (s : State) (f : Context → Context) : (s.mapLive f).faults = s.faults := rfl
@[simp] theorem State.mapLive_errors (s : State) (f : Context → Context) : (s.mapLive f).errors = s.errors := rfl
@[simp] theorem State.mapLive_traces (s : State) (f : Context → Context) : (s.mapLive f).traces = s.traces := rfl
@[simp] theorem State.mapLive_templates (s : State) (f : Context → Context) : (s.mapLive f).templates = s.templates := rfl
@[simp] theorem State.mapLive_fabric (s : State) (f : Context → Context) : (s.mapLive f).fabric = s.fabric := rfl
@[simp] theorem State.mapLive_answers (s : State) (f : Context → Context) : (s.mapLive f).answers = s.answers := rfl

/-! A verdict. -/
@[simp] theorem State.judge_live (s : State) (v : Verdict) : (s.judge v).live = s.live := rfl
@[simp] theorem State.judge_issue (s : State) (v : Verdict) : (s.judge v).issue = s.issue := rfl
@[simp] theorem State.judge_uid (s : State) (v : Verdict) : (s.judge v).uid = s.uid := rfl
@[simp] theorem State.judge_core (s : State) (v : Verdict) : (s.judge v).core = s.core := rfl
@[simp] theorem State.judge_verdict (s : State) (v : Verdict) : (s.judge v).verdict = v := rfl
@[simp] theorem State.judge_mcc (s : State) (v : Verdict) : (s.judge v).mcc = s.mcc := rfl
@[simp] theorem State.judge_tick (s : State) (v : Verdict) : (s.judge v).tick = s.tick := rfl
@[simp] theorem State.judge_beside (s : State) (v : Verdict) : (s.judge v).beside = s.beside := rfl
@[simp] theorem State.judge_micros (s : State) (v : Verdict) : (s.judge v).micros = s.micros := rfl
@[simp] theorem State.judge_script (s : State) (v : Verdict) : (s.judge v).script = s.script := rfl
@[simp] theorem State.judge_inputs (s : State) (v : Verdict) : (s.judge v).inputs = s.inputs := rfl
@[simp] theorem State.judge_ctxs (s : State) (v : Verdict) : (s.judge v).ctxs = s.ctxs := rfl
@[simp] theorem State.judge_images (s : State) (v : Verdict) : (s.judge v).images = s.images := rfl
@[simp] theorem State.judge_nextUid (s : State) (v : Verdict) : (s.judge v).nextUid = s.nextUid := rfl
@[simp] theorem State.judge_cores (s : State) (v : Verdict) : (s.judge v).cores = s.cores := rfl
@[simp] theorem State.judge_clusters (s : State) (v : Verdict) : (s.judge v).clusters = s.clusters := rfl
@[simp] theorem State.judge_gangs (s : State) (v : Verdict) : (s.judge v).gangs = s.gangs := rfl
@[simp] theorem State.judge_mem (s : State) (v : Verdict) : (s.judge v).mem = s.mem := rfl
@[simp] theorem State.judge_poison (s : State) (v : Verdict) : (s.judge v).poison = s.poison := rfl
@[simp] theorem State.judge_mmu (s : State) (v : Verdict) : (s.judge v).mmu = s.mmu := rfl
@[simp] theorem State.judge_mail (s : State) (v : Verdict) : (s.judge v).mail = s.mail := rfl
@[simp] theorem State.judge_faults (s : State) (v : Verdict) : (s.judge v).faults = s.faults := rfl
@[simp] theorem State.judge_errors (s : State) (v : Verdict) : (s.judge v).errors = s.errors := rfl
@[simp] theorem State.judge_traces (s : State) (v : Verdict) : (s.judge v).traces = s.traces := rfl
@[simp] theorem State.judge_templates (s : State) (v : Verdict) : (s.judge v).templates = s.templates := rfl
@[simp] theorem State.judge_fabric (s : State) (v : Verdict) : (s.judge v).fabric = s.fabric := rfl
@[simp] theorem State.judge_answers (s : State) (v : Verdict) : (s.judge v).answers = s.answers := rfl

/-! A result in flight. -/
@[simp] theorem State.fly_live (s : State) (dist slot : Nat) (e : Eff) : (s.fly dist slot e).live = s.live.fly dist slot e := rfl
@[simp] theorem State.fly_issue (s : State) (dist slot : Nat) (e : Eff) : (s.fly dist slot e).issue = s.issue := rfl
@[simp] theorem State.fly_uid (s : State) (dist slot : Nat) (e : Eff) : (s.fly dist slot e).uid = s.uid := rfl
@[simp] theorem State.fly_core (s : State) (dist slot : Nat) (e : Eff) : (s.fly dist slot e).core = s.core := rfl
@[simp] theorem State.fly_verdict (s : State) (dist slot : Nat) (e : Eff) : (s.fly dist slot e).verdict = s.verdict := rfl
@[simp] theorem State.fly_mcc (s : State) (dist slot : Nat) (e : Eff) : (s.fly dist slot e).mcc = s.mcc := rfl
@[simp] theorem State.fly_tick (s : State) (dist slot : Nat) (e : Eff) : (s.fly dist slot e).tick = s.tick := rfl
@[simp] theorem State.fly_beside (s : State) (dist slot : Nat) (e : Eff) : (s.fly dist slot e).beside = s.beside := rfl
@[simp] theorem State.fly_micros (s : State) (dist slot : Nat) (e : Eff) : (s.fly dist slot e).micros = s.micros := rfl
@[simp] theorem State.fly_script (s : State) (dist slot : Nat) (e : Eff) : (s.fly dist slot e).script = s.script := rfl
@[simp] theorem State.fly_inputs (s : State) (dist slot : Nat) (e : Eff) : (s.fly dist slot e).inputs = s.inputs := rfl
@[simp] theorem State.fly_ctxs (s : State) (dist slot : Nat) (e : Eff) : (s.fly dist slot e).ctxs = s.ctxs := rfl
@[simp] theorem State.fly_images (s : State) (dist slot : Nat) (e : Eff) : (s.fly dist slot e).images = s.images := rfl
@[simp] theorem State.fly_nextUid (s : State) (dist slot : Nat) (e : Eff) : (s.fly dist slot e).nextUid = s.nextUid := rfl
@[simp] theorem State.fly_cores (s : State) (dist slot : Nat) (e : Eff) : (s.fly dist slot e).cores = s.cores := rfl
@[simp] theorem State.fly_clusters (s : State) (dist slot : Nat) (e : Eff) : (s.fly dist slot e).clusters = s.clusters := rfl
@[simp] theorem State.fly_gangs (s : State) (dist slot : Nat) (e : Eff) : (s.fly dist slot e).gangs = s.gangs := rfl
@[simp] theorem State.fly_mem (s : State) (dist slot : Nat) (e : Eff) : (s.fly dist slot e).mem = s.mem := rfl
@[simp] theorem State.fly_poison (s : State) (dist slot : Nat) (e : Eff) : (s.fly dist slot e).poison = s.poison := rfl
@[simp] theorem State.fly_mmu (s : State) (dist slot : Nat) (e : Eff) : (s.fly dist slot e).mmu = s.mmu := rfl
@[simp] theorem State.fly_mail (s : State) (dist slot : Nat) (e : Eff) : (s.fly dist slot e).mail = s.mail := rfl
@[simp] theorem State.fly_faults (s : State) (dist slot : Nat) (e : Eff) : (s.fly dist slot e).faults = s.faults := rfl
@[simp] theorem State.fly_errors (s : State) (dist slot : Nat) (e : Eff) : (s.fly dist slot e).errors = s.errors := rfl
@[simp] theorem State.fly_traces (s : State) (dist slot : Nat) (e : Eff) : (s.fly dist slot e).traces = s.traces := rfl
@[simp] theorem State.fly_templates (s : State) (dist slot : Nat) (e : Eff) : (s.fly dist slot e).templates = s.templates := rfl
@[simp] theorem State.fly_fabric (s : State) (dist slot : Nat) (e : Eff) : (s.fly dist slot e).fabric = s.fabric := rfl
@[simp] theorem State.fly_answers (s : State) (dist slot : Nat) (e : Eff) : (s.fly dist slot e).answers = s.answers := rfl

/-! An operation that has performed. -/
@[simp] theorem State.performed_live (s : State) (f : Context → Context) : (s.performed f).live = f s.live := rfl
@[simp] theorem State.performed_issue (s : State) (f : Context → Context) : (s.performed f).issue = s.issue := rfl
@[simp] theorem State.performed_uid (s : State) (f : Context → Context) : (s.performed f).uid = s.uid := rfl
@[simp] theorem State.performed_core (s : State) (f : Context → Context) : (s.performed f).core = s.core := rfl
@[simp] theorem State.performed_verdict (s : State) (f : Context → Context) : (s.performed f).verdict = .performed := rfl
@[simp] theorem State.performed_mcc (s : State) (f : Context → Context) : (s.performed f).mcc = s.mcc := rfl
@[simp] theorem State.performed_tick (s : State) (f : Context → Context) : (s.performed f).tick = s.tick := rfl
@[simp] theorem State.performed_beside (s : State) (f : Context → Context) : (s.performed f).beside = s.beside := rfl
@[simp] theorem State.performed_micros (s : State) (f : Context → Context) : (s.performed f).micros = s.micros := rfl
@[simp] theorem State.performed_script (s : State) (f : Context → Context) : (s.performed f).script = s.script := rfl
@[simp] theorem State.performed_inputs (s : State) (f : Context → Context) : (s.performed f).inputs = s.inputs := rfl
@[simp] theorem State.performed_ctxs (s : State) (f : Context → Context) : (s.performed f).ctxs = s.ctxs := rfl
@[simp] theorem State.performed_images (s : State) (f : Context → Context) : (s.performed f).images = s.images := rfl
@[simp] theorem State.performed_nextUid (s : State) (f : Context → Context) : (s.performed f).nextUid = s.nextUid := rfl
@[simp] theorem State.performed_cores (s : State) (f : Context → Context) : (s.performed f).cores = s.cores := rfl
@[simp] theorem State.performed_clusters (s : State) (f : Context → Context) : (s.performed f).clusters = s.clusters := rfl
@[simp] theorem State.performed_gangs (s : State) (f : Context → Context) : (s.performed f).gangs = s.gangs := rfl
@[simp] theorem State.performed_mem (s : State) (f : Context → Context) : (s.performed f).mem = s.mem := rfl
@[simp] theorem State.performed_poison (s : State) (f : Context → Context) : (s.performed f).poison = s.poison := rfl
@[simp] theorem State.performed_mmu (s : State) (f : Context → Context) : (s.performed f).mmu = s.mmu := rfl
@[simp] theorem State.performed_mail (s : State) (f : Context → Context) : (s.performed f).mail = s.mail := rfl
@[simp] theorem State.performed_faults (s : State) (f : Context → Context) : (s.performed f).faults = s.faults := rfl
@[simp] theorem State.performed_errors (s : State) (f : Context → Context) : (s.performed f).errors = s.errors := rfl
@[simp] theorem State.performed_traces (s : State) (f : Context → Context) : (s.performed f).traces = s.traces := rfl
@[simp] theorem State.performed_templates (s : State) (f : Context → Context) : (s.performed f).templates = s.templates := rfl
@[simp] theorem State.performed_fabric (s : State) (f : Context → Context) : (s.performed f).fabric = s.fabric := rfl
@[simp] theorem State.performed_answers (s : State) (f : Context → Context) : (s.performed f).answers = s.answers := rfl

/-! An operation that has no effect. -/
@[simp] theorem State.passed_live (s : State) : (s.passed).live = s.live := rfl
@[simp] theorem State.passed_issue (s : State) : (s.passed).issue = s.issue := rfl
@[simp] theorem State.passed_uid (s : State) : (s.passed).uid = s.uid := rfl
@[simp] theorem State.passed_core (s : State) : (s.passed).core = s.core := rfl
@[simp] theorem State.passed_verdict (s : State) : (s.passed).verdict = .idle := rfl
@[simp] theorem State.passed_mcc (s : State) : (s.passed).mcc = s.mcc := rfl
@[simp] theorem State.passed_tick (s : State) : (s.passed).tick = s.tick := rfl
@[simp] theorem State.passed_beside (s : State) : (s.passed).beside = s.beside := rfl
@[simp] theorem State.passed_micros (s : State) : (s.passed).micros = s.micros := rfl
@[simp] theorem State.passed_script (s : State) : (s.passed).script = s.script := rfl
@[simp] theorem State.passed_inputs (s : State) : (s.passed).inputs = s.inputs := rfl
@[simp] theorem State.passed_ctxs (s : State) : (s.passed).ctxs = s.ctxs := rfl
@[simp] theorem State.passed_images (s : State) : (s.passed).images = s.images := rfl
@[simp] theorem State.passed_nextUid (s : State) : (s.passed).nextUid = s.nextUid := rfl
@[simp] theorem State.passed_cores (s : State) : (s.passed).cores = s.cores := rfl
@[simp] theorem State.passed_clusters (s : State) : (s.passed).clusters = s.clusters := rfl
@[simp] theorem State.passed_gangs (s : State) : (s.passed).gangs = s.gangs := rfl
@[simp] theorem State.passed_mem (s : State) : (s.passed).mem = s.mem := rfl
@[simp] theorem State.passed_poison (s : State) : (s.passed).poison = s.poison := rfl
@[simp] theorem State.passed_mmu (s : State) : (s.passed).mmu = s.mmu := rfl
@[simp] theorem State.passed_mail (s : State) : (s.passed).mail = s.mail := rfl
@[simp] theorem State.passed_faults (s : State) : (s.passed).faults = s.faults := rfl
@[simp] theorem State.passed_errors (s : State) : (s.passed).errors = s.errors := rfl
@[simp] theorem State.passed_traces (s : State) : (s.passed).traces = s.traces := rfl
@[simp] theorem State.passed_templates (s : State) : (s.passed).templates = s.templates := rfl
@[simp] theorem State.passed_fabric (s : State) : (s.passed).fabric = s.fabric := rfl
@[simp] theorem State.passed_answers (s : State) : (s.passed).answers = s.answers := rfl

/-! A trap at issue. -/
@[simp] theorem State.trapped_live (s : State) (stage : Nat) (x : Cause) : (s.trapped stage x).live = s.issue.takeTrap s.core s.mcc x (.at_ s.issue.flow.pc) := rfl
@[simp] theorem State.trapped_issue (s : State) (stage : Nat) (x : Cause) : (s.trapped stage x).issue = s.issue := rfl
@[simp] theorem State.trapped_uid (s : State) (stage : Nat) (x : Cause) : (s.trapped stage x).uid = s.uid := rfl
@[simp] theorem State.trapped_core (s : State) (stage : Nat) (x : Cause) : (s.trapped stage x).core = s.core := rfl
@[simp] theorem State.trapped_verdict (s : State) (stage : Nat) (x : Cause) : (s.trapped stage x).verdict = .trapped stage := rfl
@[simp] theorem State.trapped_mcc (s : State) (stage : Nat) (x : Cause) : (s.trapped stage x).mcc = s.mcc := rfl
@[simp] theorem State.trapped_tick (s : State) (stage : Nat) (x : Cause) : (s.trapped stage x).tick = s.tick := rfl
@[simp] theorem State.trapped_beside (s : State) (stage : Nat) (x : Cause) : (s.trapped stage x).beside = s.beside := rfl
@[simp] theorem State.trapped_micros (s : State) (stage : Nat) (x : Cause) : (s.trapped stage x).micros = s.micros := rfl
@[simp] theorem State.trapped_script (s : State) (stage : Nat) (x : Cause) : (s.trapped stage x).script = s.script := rfl
@[simp] theorem State.trapped_inputs (s : State) (stage : Nat) (x : Cause) : (s.trapped stage x).inputs = s.inputs := rfl
@[simp] theorem State.trapped_ctxs (s : State) (stage : Nat) (x : Cause) : (s.trapped stage x).ctxs = s.ctxs := rfl
@[simp] theorem State.trapped_images (s : State) (stage : Nat) (x : Cause) : (s.trapped stage x).images = s.images := rfl
@[simp] theorem State.trapped_nextUid (s : State) (stage : Nat) (x : Cause) : (s.trapped stage x).nextUid = s.nextUid := rfl
@[simp] theorem State.trapped_cores (s : State) (stage : Nat) (x : Cause) : (s.trapped stage x).cores = s.cores := rfl
@[simp] theorem State.trapped_clusters (s : State) (stage : Nat) (x : Cause) : (s.trapped stage x).clusters = s.clusters := rfl
@[simp] theorem State.trapped_gangs (s : State) (stage : Nat) (x : Cause) : (s.trapped stage x).gangs = s.gangs := rfl
@[simp] theorem State.trapped_mem (s : State) (stage : Nat) (x : Cause) : (s.trapped stage x).mem = s.mem := rfl
@[simp] theorem State.trapped_poison (s : State) (stage : Nat) (x : Cause) : (s.trapped stage x).poison = s.poison := rfl
@[simp] theorem State.trapped_mmu (s : State) (stage : Nat) (x : Cause) : (s.trapped stage x).mmu = s.mmu := rfl
@[simp] theorem State.trapped_mail (s : State) (stage : Nat) (x : Cause) : (s.trapped stage x).mail = s.mail := rfl
@[simp] theorem State.trapped_faults (s : State) (stage : Nat) (x : Cause) : (s.trapped stage x).faults = s.faults := rfl
@[simp] theorem State.trapped_errors (s : State) (stage : Nat) (x : Cause) : (s.trapped stage x).errors = s.errors := rfl
@[simp] theorem State.trapped_traces (s : State) (stage : Nat) (x : Cause) : (s.trapped stage x).traces = s.traces := rfl
@[simp] theorem State.trapped_templates (s : State) (stage : Nat) (x : Cause) : (s.trapped stage x).templates = s.templates := rfl
@[simp] theorem State.trapped_fabric (s : State) (stage : Nat) (x : Cause) : (s.trapped stage x).fabric = s.fabric := rfl
@[simp] theorem State.trapped_answers (s : State) (stage : Nat) (x : Cause) : (s.trapped stage x).answers = s.answers := rfl

/-! A change of a core. -/
@[simp] theorem State.mapCore_live (s : State) (n : Nat) (f : Core → Core) : (s.mapCore n f).live = s.live := rfl
@[simp] theorem State.mapCore_issue (s : State) (n : Nat) (f : Core → Core) : (s.mapCore n f).issue = s.issue := rfl
@[simp] theorem State.mapCore_uid (s : State) (n : Nat) (f : Core → Core) : (s.mapCore n f).uid = s.uid := rfl
@[simp] theorem State.mapCore_core (s : State) (n : Nat) (f : Core → Core) : (s.mapCore n f).core = s.core := rfl
@[simp] theorem State.mapCore_verdict (s : State) (n : Nat) (f : Core → Core) : (s.mapCore n f).verdict = s.verdict := rfl
@[simp] theorem State.mapCore_mcc (s : State) (n : Nat) (f : Core → Core) : (s.mapCore n f).mcc = s.mcc := rfl
@[simp] theorem State.mapCore_tick (s : State) (n : Nat) (f : Core → Core) : (s.mapCore n f).tick = s.tick := rfl
@[simp] theorem State.mapCore_beside (s : State) (n : Nat) (f : Core → Core) : (s.mapCore n f).beside = s.beside := rfl
@[simp] theorem State.mapCore_micros (s : State) (n : Nat) (f : Core → Core) : (s.mapCore n f).micros = s.micros := rfl
@[simp] theorem State.mapCore_script (s : State) (n : Nat) (f : Core → Core) : (s.mapCore n f).script = s.script := rfl
@[simp] theorem State.mapCore_inputs (s : State) (n : Nat) (f : Core → Core) : (s.mapCore n f).inputs = s.inputs := rfl
@[simp] theorem State.mapCore_ctxs (s : State) (n : Nat) (f : Core → Core) : (s.mapCore n f).ctxs = s.ctxs := rfl
@[simp] theorem State.mapCore_images (s : State) (n : Nat) (f : Core → Core) : (s.mapCore n f).images = s.images := rfl
@[simp] theorem State.mapCore_nextUid (s : State) (n : Nat) (f : Core → Core) : (s.mapCore n f).nextUid = s.nextUid := rfl
@[simp] theorem State.mapCore_cores (s : State) (n : Nat) (f : Core → Core) : (s.mapCore n f).cores = Tbl.put s.cores n (f (s.coreOf n)) := rfl
@[simp] theorem State.mapCore_clusters (s : State) (n : Nat) (f : Core → Core) : (s.mapCore n f).clusters = s.clusters := rfl
@[simp] theorem State.mapCore_gangs (s : State) (n : Nat) (f : Core → Core) : (s.mapCore n f).gangs = s.gangs := rfl
@[simp] theorem State.mapCore_mem (s : State) (n : Nat) (f : Core → Core) : (s.mapCore n f).mem = s.mem := rfl
@[simp] theorem State.mapCore_poison (s : State) (n : Nat) (f : Core → Core) : (s.mapCore n f).poison = s.poison := rfl
@[simp] theorem State.mapCore_mmu (s : State) (n : Nat) (f : Core → Core) : (s.mapCore n f).mmu = s.mmu := rfl
@[simp] theorem State.mapCore_mail (s : State) (n : Nat) (f : Core → Core) : (s.mapCore n f).mail = s.mail := rfl
@[simp] theorem State.mapCore_faults (s : State) (n : Nat) (f : Core → Core) : (s.mapCore n f).faults = s.faults := rfl
@[simp] theorem State.mapCore_errors (s : State) (n : Nat) (f : Core → Core) : (s.mapCore n f).errors = s.errors := rfl
@[simp] theorem State.mapCore_traces (s : State) (n : Nat) (f : Core → Core) : (s.mapCore n f).traces = s.traces := rfl
@[simp] theorem State.mapCore_templates (s : State) (n : Nat) (f : Core → Core) : (s.mapCore n f).templates = s.templates := rfl
@[simp] theorem State.mapCore_fabric (s : State) (n : Nat) (f : Core → Core) : (s.mapCore n f).fabric = s.fabric := rfl
@[simp] theorem State.mapCore_answers (s : State) (n : Nat) (f : Core → Core) : (s.mapCore n f).answers = s.answers := rfl

/-! A change of a listed context. -/
@[simp] theorem State.mapCtx_live (s : State) (n : Nat) (f : Context → Context) : (s.mapCtx n f).live = s.live := rfl
@[simp] theorem State.mapCtx_issue (s : State) (n : Nat) (f : Context → Context) : (s.mapCtx n f).issue = s.issue := rfl
@[simp] theorem State.mapCtx_uid (s : State) (n : Nat) (f : Context → Context) : (s.mapCtx n f).uid = s.uid := rfl
@[simp] theorem State.mapCtx_core (s : State) (n : Nat) (f : Context → Context) : (s.mapCtx n f).core = s.core := rfl
@[simp] theorem State.mapCtx_verdict (s : State) (n : Nat) (f : Context → Context) : (s.mapCtx n f).verdict = s.verdict := rfl
@[simp] theorem State.mapCtx_mcc (s : State) (n : Nat) (f : Context → Context) : (s.mapCtx n f).mcc = s.mcc := rfl
@[simp] theorem State.mapCtx_tick (s : State) (n : Nat) (f : Context → Context) : (s.mapCtx n f).tick = s.tick := rfl
@[simp] theorem State.mapCtx_beside (s : State) (n : Nat) (f : Context → Context) : (s.mapCtx n f).beside = s.beside := rfl
@[simp] theorem State.mapCtx_micros (s : State) (n : Nat) (f : Context → Context) : (s.mapCtx n f).micros = s.micros := rfl
@[simp] theorem State.mapCtx_script (s : State) (n : Nat) (f : Context → Context) : (s.mapCtx n f).script = s.script := rfl
@[simp] theorem State.mapCtx_inputs (s : State) (n : Nat) (f : Context → Context) : (s.mapCtx n f).inputs = s.inputs := rfl
@[simp] theorem State.mapCtx_ctxs (s : State) (n : Nat) (f : Context → Context) : (s.mapCtx n f).ctxs = Tbl.update f s.ctxs n := rfl
@[simp] theorem State.mapCtx_images (s : State) (n : Nat) (f : Context → Context) : (s.mapCtx n f).images = s.images := rfl
@[simp] theorem State.mapCtx_nextUid (s : State) (n : Nat) (f : Context → Context) : (s.mapCtx n f).nextUid = s.nextUid := rfl
@[simp] theorem State.mapCtx_cores (s : State) (n : Nat) (f : Context → Context) : (s.mapCtx n f).cores = s.cores := rfl
@[simp] theorem State.mapCtx_clusters (s : State) (n : Nat) (f : Context → Context) : (s.mapCtx n f).clusters = s.clusters := rfl
@[simp] theorem State.mapCtx_gangs (s : State) (n : Nat) (f : Context → Context) : (s.mapCtx n f).gangs = s.gangs := rfl
@[simp] theorem State.mapCtx_mem (s : State) (n : Nat) (f : Context → Context) : (s.mapCtx n f).mem = s.mem := rfl
@[simp] theorem State.mapCtx_poison (s : State) (n : Nat) (f : Context → Context) : (s.mapCtx n f).poison = s.poison := rfl
@[simp] theorem State.mapCtx_mmu (s : State) (n : Nat) (f : Context → Context) : (s.mapCtx n f).mmu = s.mmu := rfl
@[simp] theorem State.mapCtx_mail (s : State) (n : Nat) (f : Context → Context) : (s.mapCtx n f).mail = s.mail := rfl
@[simp] theorem State.mapCtx_faults (s : State) (n : Nat) (f : Context → Context) : (s.mapCtx n f).faults = s.faults := rfl
@[simp] theorem State.mapCtx_errors (s : State) (n : Nat) (f : Context → Context) : (s.mapCtx n f).errors = s.errors := rfl
@[simp] theorem State.mapCtx_traces (s : State) (n : Nat) (f : Context → Context) : (s.mapCtx n f).traces = s.traces := rfl
@[simp] theorem State.mapCtx_templates (s : State) (n : Nat) (f : Context → Context) : (s.mapCtx n f).templates = s.templates := rfl
@[simp] theorem State.mapCtx_fabric (s : State) (n : Nat) (f : Context → Context) : (s.mapCtx n f).fabric = s.fabric := rfl
@[simp] theorem State.mapCtx_answers (s : State) (n : Nat) (f : Context → Context) : (s.mapCtx n f).answers = s.answers := rfl

/-! A change of a cluster. -/
@[simp] theorem State.mapCluster_live (s : State) (n : Nat) (f : Cluster → Cluster) : (s.mapCluster n f).live = s.live := rfl
@[simp] theorem State.mapCluster_issue (s : State) (n : Nat) (f : Cluster → Cluster) : (s.mapCluster n f).issue = s.issue := rfl
@[simp] theorem State.mapCluster_uid (s : State) (n : Nat) (f : Cluster → Cluster) : (s.mapCluster n f).uid = s.uid := rfl
@[simp] theorem State.mapCluster_core (s : State) (n : Nat) (f : Cluster → Cluster) : (s.mapCluster n f).core = s.core := rfl
@[simp] theorem State.mapCluster_verdict (s : State) (n : Nat) (f : Cluster → Cluster) : (s.mapCluster n f).verdict = s.verdict := rfl
@[simp] theorem State.mapCluster_mcc (s : State) (n : Nat) (f : Cluster → Cluster) : (s.mapCluster n f).mcc = s.mcc := rfl
@[simp] theorem State.mapCluster_tick (s : State) (n : Nat) (f : Cluster → Cluster) : (s.mapCluster n f).tick = s.tick := rfl
@[simp] theorem State.mapCluster_beside (s : State) (n : Nat) (f : Cluster → Cluster) : (s.mapCluster n f).beside = s.beside := rfl
@[simp] theorem State.mapCluster_micros (s : State) (n : Nat) (f : Cluster → Cluster) : (s.mapCluster n f).micros = s.micros := rfl
@[simp] theorem State.mapCluster_script (s : State) (n : Nat) (f : Cluster → Cluster) : (s.mapCluster n f).script = s.script := rfl
@[simp] theorem State.mapCluster_inputs (s : State) (n : Nat) (f : Cluster → Cluster) : (s.mapCluster n f).inputs = s.inputs := rfl
@[simp] theorem State.mapCluster_ctxs (s : State) (n : Nat) (f : Cluster → Cluster) : (s.mapCluster n f).ctxs = s.ctxs := rfl
@[simp] theorem State.mapCluster_images (s : State) (n : Nat) (f : Cluster → Cluster) : (s.mapCluster n f).images = s.images := rfl
@[simp] theorem State.mapCluster_nextUid (s : State) (n : Nat) (f : Cluster → Cluster) : (s.mapCluster n f).nextUid = s.nextUid := rfl
@[simp] theorem State.mapCluster_cores (s : State) (n : Nat) (f : Cluster → Cluster) : (s.mapCluster n f).cores = s.cores := rfl
@[simp] theorem State.mapCluster_clusters (s : State) (n : Nat) (f : Cluster → Cluster) : (s.mapCluster n f).clusters = Tbl.put s.clusters n (f (s.clusterOf n)) := rfl
@[simp] theorem State.mapCluster_gangs (s : State) (n : Nat) (f : Cluster → Cluster) : (s.mapCluster n f).gangs = s.gangs := rfl
@[simp] theorem State.mapCluster_mem (s : State) (n : Nat) (f : Cluster → Cluster) : (s.mapCluster n f).mem = s.mem := rfl
@[simp] theorem State.mapCluster_poison (s : State) (n : Nat) (f : Cluster → Cluster) : (s.mapCluster n f).poison = s.poison := rfl
@[simp] theorem State.mapCluster_mmu (s : State) (n : Nat) (f : Cluster → Cluster) : (s.mapCluster n f).mmu = s.mmu := rfl
@[simp] theorem State.mapCluster_mail (s : State) (n : Nat) (f : Cluster → Cluster) : (s.mapCluster n f).mail = s.mail := rfl
@[simp] theorem State.mapCluster_faults (s : State) (n : Nat) (f : Cluster → Cluster) : (s.mapCluster n f).faults = s.faults := rfl
@[simp] theorem State.mapCluster_errors (s : State) (n : Nat) (f : Cluster → Cluster) : (s.mapCluster n f).errors = s.errors := rfl
@[simp] theorem State.mapCluster_traces (s : State) (n : Nat) (f : Cluster → Cluster) : (s.mapCluster n f).traces = s.traces := rfl
@[simp] theorem State.mapCluster_templates (s : State) (n : Nat) (f : Cluster → Cluster) : (s.mapCluster n f).templates = s.templates := rfl
@[simp] theorem State.mapCluster_fabric (s : State) (n : Nat) (f : Cluster → Cluster) : (s.mapCluster n f).fabric = s.fabric := rfl
@[simp] theorem State.mapCluster_answers (s : State) (n : Nat) (f : Cluster → Cluster) : (s.mapCluster n f).answers = s.answers := rfl

/-! A store. -/
@[simp] theorem State.store_live (s : State) (key : Nat) (bs : List Byte) : (s.store key bs).live = s.live := rfl
@[simp] theorem State.store_issue (s : State) (key : Nat) (bs : List Byte) : (s.store key bs).issue = s.issue := rfl
@[simp] theorem State.store_uid (s : State) (key : Nat) (bs : List Byte) : (s.store key bs).uid = s.uid := rfl
@[simp] theorem State.store_core (s : State) (key : Nat) (bs : List Byte) : (s.store key bs).core = s.core := rfl
@[simp] theorem State.store_verdict (s : State) (key : Nat) (bs : List Byte) : (s.store key bs).verdict = s.verdict := rfl
@[simp] theorem State.store_mcc (s : State) (key : Nat) (bs : List Byte) : (s.store key bs).mcc = s.mcc := rfl
@[simp] theorem State.store_tick (s : State) (key : Nat) (bs : List Byte) : (s.store key bs).tick = s.tick := rfl
@[simp] theorem State.store_beside (s : State) (key : Nat) (bs : List Byte) : (s.store key bs).beside = s.beside := rfl
@[simp] theorem State.store_micros (s : State) (key : Nat) (bs : List Byte) : (s.store key bs).micros = s.micros := rfl
@[simp] theorem State.store_script (s : State) (key : Nat) (bs : List Byte) : (s.store key bs).script = s.script := rfl
@[simp] theorem State.store_inputs (s : State) (key : Nat) (bs : List Byte) : (s.store key bs).inputs = s.inputs := rfl
@[simp] theorem State.store_ctxs (s : State) (key : Nat) (bs : List Byte) : (s.store key bs).ctxs = s.ctxs := rfl
@[simp] theorem State.store_images (s : State) (key : Nat) (bs : List Byte) : (s.store key bs).images = s.images := rfl
@[simp] theorem State.store_nextUid (s : State) (key : Nat) (bs : List Byte) : (s.store key bs).nextUid = s.nextUid := rfl
@[simp] theorem State.store_cores (s : State) (key : Nat) (bs : List Byte) : (s.store key bs).cores = s.cores := rfl
@[simp] theorem State.store_clusters (s : State) (key : Nat) (bs : List Byte) : (s.store key bs).clusters = s.clusters := rfl
@[simp] theorem State.store_gangs (s : State) (key : Nat) (bs : List Byte) : (s.store key bs).gangs = s.gangs := rfl
@[simp] theorem State.store_mem (s : State) (key : Nat) (bs : List Byte) : (s.store key bs).mem = putBytes s.mem key bs := rfl
@[simp] theorem State.store_poison (s : State) (key : Nat) (bs : List Byte) : (s.store key bs).poison = (wholeLines key bs.length).foldl (fun p l => removeNat l p) s.poison := rfl
@[simp] theorem State.store_mmu (s : State) (key : Nat) (bs : List Byte) : (s.store key bs).mmu = s.mmu := rfl
@[simp] theorem State.store_mail (s : State) (key : Nat) (bs : List Byte) : (s.store key bs).mail = s.mail := rfl
@[simp] theorem State.store_faults (s : State) (key : Nat) (bs : List Byte) : (s.store key bs).faults = s.faults := rfl
@[simp] theorem State.store_errors (s : State) (key : Nat) (bs : List Byte) : (s.store key bs).errors = s.errors := rfl
@[simp] theorem State.store_traces (s : State) (key : Nat) (bs : List Byte) : (s.store key bs).traces = s.traces := rfl
@[simp] theorem State.store_templates (s : State) (key : Nat) (bs : List Byte) : (s.store key bs).templates = s.templates := rfl
@[simp] theorem State.store_fabric (s : State) (key : Nat) (bs : List Byte) : (s.store key bs).fabric = s.fabric := rfl
@[simp] theorem State.store_answers (s : State) (key : Nat) (bs : List Byte) : (s.store key bs).answers = s.answers := rfl

/-! A write that gathers see, and a change of the POPs that wait. -/
theorem State.reveal_frame (s : State) (but : Option Nat) (ps : List (Nat × Nat)) :
    s.reveal but ps = { s with ctxs := (s.reveal but ps).ctxs } := rfl
theorem State.mapWaiters_frame (s : State) (f : Waiter → Waiter) :
    s.mapWaiters f = { s with clusters := (s.mapWaiters f).clusters } := rfl

/-! Poison marks. -/
@[simp] theorem State.poisonLines_live (s : State) (key n : Nat) : (s.poisonLines key n).live = s.live := rfl
@[simp] theorem State.poisonLines_issue (s : State) (key n : Nat) : (s.poisonLines key n).issue = s.issue := rfl
@[simp] theorem State.poisonLines_uid (s : State) (key n : Nat) : (s.poisonLines key n).uid = s.uid := rfl
@[simp] theorem State.poisonLines_core (s : State) (key n : Nat) : (s.poisonLines key n).core = s.core := rfl
@[simp] theorem State.poisonLines_verdict (s : State) (key n : Nat) : (s.poisonLines key n).verdict = s.verdict := rfl
@[simp] theorem State.poisonLines_mcc (s : State) (key n : Nat) : (s.poisonLines key n).mcc = s.mcc := rfl
@[simp] theorem State.poisonLines_tick (s : State) (key n : Nat) : (s.poisonLines key n).tick = s.tick := rfl
@[simp] theorem State.poisonLines_beside (s : State) (key n : Nat) : (s.poisonLines key n).beside = s.beside := rfl
@[simp] theorem State.poisonLines_micros (s : State) (key n : Nat) : (s.poisonLines key n).micros = s.micros := rfl
@[simp] theorem State.poisonLines_script (s : State) (key n : Nat) : (s.poisonLines key n).script = s.script := rfl
@[simp] theorem State.poisonLines_inputs (s : State) (key n : Nat) : (s.poisonLines key n).inputs = s.inputs := rfl
@[simp] theorem State.poisonLines_ctxs (s : State) (key n : Nat) : (s.poisonLines key n).ctxs = s.ctxs := rfl
@[simp] theorem State.poisonLines_images (s : State) (key n : Nat) : (s.poisonLines key n).images = s.images := rfl
@[simp] theorem State.poisonLines_nextUid (s : State) (key n : Nat) : (s.poisonLines key n).nextUid = s.nextUid := rfl
@[simp] theorem State.poisonLines_cores (s : State) (key n : Nat) : (s.poisonLines key n).cores = s.cores := rfl
@[simp] theorem State.poisonLines_clusters (s : State) (key n : Nat) : (s.poisonLines key n).clusters = s.clusters := rfl
@[simp] theorem State.poisonLines_gangs (s : State) (key n : Nat) : (s.poisonLines key n).gangs = s.gangs := rfl
@[simp] theorem State.poisonLines_mem (s : State) (key n : Nat) : (s.poisonLines key n).mem = s.mem := rfl
@[simp] theorem State.poisonLines_poison (s : State) (key n : Nat) : (s.poisonLines key n).poison = (linesOf key n).foldl (fun p l => insertNat l p) s.poison := rfl
@[simp] theorem State.poisonLines_mmu (s : State) (key n : Nat) : (s.poisonLines key n).mmu = s.mmu := rfl
@[simp] theorem State.poisonLines_mail (s : State) (key n : Nat) : (s.poisonLines key n).mail = s.mail := rfl
@[simp] theorem State.poisonLines_faults (s : State) (key n : Nat) : (s.poisonLines key n).faults = s.faults := rfl
@[simp] theorem State.poisonLines_errors (s : State) (key n : Nat) : (s.poisonLines key n).errors = s.errors := rfl
@[simp] theorem State.poisonLines_traces (s : State) (key n : Nat) : (s.poisonLines key n).traces = s.traces := rfl
@[simp] theorem State.poisonLines_templates (s : State) (key n : Nat) : (s.poisonLines key n).templates = s.templates := rfl
@[simp] theorem State.poisonLines_fabric (s : State) (key n : Nat) : (s.poisonLines key n).fabric = s.fabric := rfl
@[simp] theorem State.poisonLines_answers (s : State) (key n : Nat) : (s.poisonLines key n).answers = s.answers := rfl

/-! An interrupt. -/
@[simp] theorem State.msix_live (s : State) (v : Nat) : (s.msix v).live = s.live := rfl
@[simp] theorem State.msix_issue (s : State) (v : Nat) : (s.msix v).issue = s.issue := rfl
@[simp] theorem State.msix_uid (s : State) (v : Nat) : (s.msix v).uid = s.uid := rfl
@[simp] theorem State.msix_core (s : State) (v : Nat) : (s.msix v).core = s.core := rfl
@[simp] theorem State.msix_verdict (s : State) (v : Nat) : (s.msix v).verdict = s.verdict := rfl
@[simp] theorem State.msix_mcc (s : State) (v : Nat) : (s.msix v).mcc = s.mcc := rfl
@[simp] theorem State.msix_tick (s : State) (v : Nat) : (s.msix v).tick = s.tick := rfl
@[simp] theorem State.msix_beside (s : State) (v : Nat) : (s.msix v).beside = s.beside := rfl
@[simp] theorem State.msix_micros (s : State) (v : Nat) : (s.msix v).micros = s.micros := rfl
@[simp] theorem State.msix_script (s : State) (v : Nat) : (s.msix v).script = s.script := rfl
@[simp] theorem State.msix_inputs (s : State) (v : Nat) : (s.msix v).inputs = s.inputs := rfl
@[simp] theorem State.msix_ctxs (s : State) (v : Nat) : (s.msix v).ctxs = s.ctxs := rfl
@[simp] theorem State.msix_images (s : State) (v : Nat) : (s.msix v).images = s.images := rfl
@[simp] theorem State.msix_nextUid (s : State) (v : Nat) : (s.msix v).nextUid = s.nextUid := rfl
@[simp] theorem State.msix_cores (s : State) (v : Nat) : (s.msix v).cores = s.cores := rfl
@[simp] theorem State.msix_clusters (s : State) (v : Nat) : (s.msix v).clusters = s.clusters := rfl
@[simp] theorem State.msix_gangs (s : State) (v : Nat) : (s.msix v).gangs = s.gangs := rfl
@[simp] theorem State.msix_mem (s : State) (v : Nat) : (s.msix v).mem = s.mem := rfl
@[simp] theorem State.msix_poison (s : State) (v : Nat) : (s.msix v).poison = s.poison := rfl
@[simp] theorem State.msix_mmu (s : State) (v : Nat) : (s.msix v).mmu = s.mmu := rfl
@[simp] theorem State.msix_mail (s : State) (v : Nat) : (s.msix v).mail = { s.mail with msix := Tbl.put s.mail.msix v (Tbl.get 0 s.mail.msix v + 1) } := rfl
@[simp] theorem State.msix_faults (s : State) (v : Nat) : (s.msix v).faults = s.faults := rfl
@[simp] theorem State.msix_errors (s : State) (v : Nat) : (s.msix v).errors = s.errors := rfl
@[simp] theorem State.msix_traces (s : State) (v : Nat) : (s.msix v).traces = s.traces := rfl
@[simp] theorem State.msix_templates (s : State) (v : Nat) : (s.msix v).templates = s.templates := rfl
@[simp] theorem State.msix_fabric (s : State) (v : Nat) : (s.msix v).fabric = s.fabric := rfl
@[simp] theorem State.msix_answers (s : State) (v : Nat) : (s.msix v).answers = s.answers := rfl

/-! A result in flight. -/
@[simp] theorem Context.fly_id (c : Context) (dist slot : Nat) (e : Eff) : (c.fly dist slot e).id = c.id := rfl
@[simp] theorem Context.fly_regs (c : Context) (dist slot : Nat) (e : Eff) : (c.fly dist slot e).regs = c.regs := rfl
@[simp] theorem Context.fly_sys (c : Context) (dist slot : Nat) (e : Eff) : (c.fly dist slot e).sys = c.sys := rfl
@[simp] theorem Context.fly_flow (c : Context) (dist slot : Nat) (e : Eff) : (c.fly dist slot e).flow = { c.flow with flights := c.flow.flights ++
    [{ dist := dist, slot := slot, bclk := c.flow.bclk, off := c.flow.pc, snap := false, eff := e }] } := rfl
@[simp] theorem Context.fly_swage (c : Context) (dist slot : Nat) (e : Eff) : (c.fly dist slot e).swage = c.swage := rfl
@[simp] theorem Context.fly_trap (c : Context) (dist slot : Nat) (e : Eff) : (c.fly dist slot e).trap = c.trap := rfl
@[simp] theorem Context.fly_mem (c : Context) (dist slot : Nat) (e : Eff) : (c.fly dist slot e).mem = c.mem := rfl
@[simp] theorem Context.fly_anvil (c : Context) (dist slot : Nat) (e : Eff) : (c.fly dist slot e).anvil = c.anvil := rfl
@[simp] theorem Context.fly_budget (c : Context) (dist slot : Nat) (e : Eff) : (c.fly dist slot e).budget = c.budget := rfl
@[simp] theorem Context.fly_run (c : Context) (dist slot : Nat) (e : Eff) : (c.fly dist slot e).run = c.run := rfl
@[simp] theorem Context.fly_dbg (c : Context) (dist slot : Nat) (e : Eff) : (c.fly dist slot e).dbg = c.dbg := rfl

/-! A cause. -/
@[simp] theorem Context.blame_id (c : Context) (x : Cause) : (c.blame x).id = c.id := rfl
@[simp] theorem Context.blame_regs (c : Context) (x : Cause) : (c.blame x).regs = c.regs := rfl
@[simp] theorem Context.blame_sys (c : Context) (x : Cause) : (c.blame x).sys = c.sys := rfl
@[simp] theorem Context.blame_flow (c : Context) (x : Cause) : (c.blame x).flow = { c.flow with causes := c.flow.causes ++ [x] } := rfl
@[simp] theorem Context.blame_swage (c : Context) (x : Cause) : (c.blame x).swage = c.swage := rfl
@[simp] theorem Context.blame_trap (c : Context) (x : Cause) : (c.blame x).trap = c.trap := rfl
@[simp] theorem Context.blame_mem (c : Context) (x : Cause) : (c.blame x).mem = c.mem := rfl
@[simp] theorem Context.blame_anvil (c : Context) (x : Cause) : (c.blame x).anvil = c.anvil := rfl
@[simp] theorem Context.blame_budget (c : Context) (x : Cause) : (c.blame x).budget = c.budget := rfl
@[simp] theorem Context.blame_run (c : Context) (x : Cause) : (c.blame x).run = c.run := rfl
@[simp] theorem Context.blame_dbg (c : Context) (x : Cause) : (c.blame x).dbg = c.dbg := rfl

/-! The weight account. -/
@[simp] theorem Context.account_id (c : Context) (x : W64) : (c.account x).id = c.id := rfl
@[simp] theorem Context.account_regs (c : Context) (x : W64) : (c.account x).regs = c.regs := rfl
@[simp] theorem Context.account_sys (c : Context) (x : W64) : (c.account x).sys = c.sys := rfl
@[simp] theorem Context.account_flow (c : Context) (x : W64) : (c.account x).flow = c.flow := rfl
@[simp] theorem Context.account_swage (c : Context) (x : W64) : (c.account x).swage = c.swage := rfl
@[simp] theorem Context.account_trap (c : Context) (x : W64) : (c.account x).trap = c.trap := rfl
@[simp] theorem Context.account_mem (c : Context) (x : W64) : (c.account x).mem = c.mem := rfl
@[simp] theorem Context.account_anvil (c : Context) (x : W64) : (c.account x).anvil = c.anvil := rfl
@[simp] theorem Context.account_budget (c : Context) (x : W64) : (c.account x).budget = c.budget := rfl
@[simp] theorem Context.account_run (c : Context) (x : W64) : (c.account x).run = { c.run with account := c.run.account + x } := rfl
@[simp] theorem Context.account_dbg (c : Context) (x : W64) : (c.account x).dbg = c.dbg := rfl

/-! A Hearth operation. -/
@[simp] theorem Context.send_id (c : Context) (op : HOp) : (c.send op).id = c.id := rfl
@[simp] theorem Context.send_regs (c : Context) (op : HOp) : (c.send op).regs = c.regs := rfl
@[simp] theorem Context.send_sys (c : Context) (op : HOp) : (c.send op).sys = c.sys := rfl
@[simp] theorem Context.send_flow (c : Context) (op : HOp) : (c.send op).flow = c.flow := rfl
@[simp] theorem Context.send_swage (c : Context) (op : HOp) : (c.send op).swage = c.swage := rfl
@[simp] theorem Context.send_trap (c : Context) (op : HOp) : (c.send op).trap = c.trap := rfl
@[simp] theorem Context.send_mem (c : Context) (op : HOp) : (c.send op).mem = { c.mem with hearth := c.mem.hearth ++ [{ id := c.mem.nextId, op := op }] } := rfl
@[simp] theorem Context.send_anvil (c : Context) (op : HOp) : (c.send op).anvil = c.anvil := rfl
@[simp] theorem Context.send_budget (c : Context) (op : HOp) : (c.send op).budget = c.budget := rfl
@[simp] theorem Context.send_run (c : Context) (op : HOp) : (c.send op).run = c.run := rfl
@[simp] theorem Context.send_dbg (c : Context) (op : HOp) : (c.send op).dbg = c.dbg := rfl

/-! A tile entry. -/
@[simp] theorem Context.setTe_id (c : Context) (n : Nat) (x : W32) : (c.setTe n x).id = c.id := rfl
@[simp] theorem Context.setTe_regs (c : Context) (n : Nat) (x : W32) : (c.setTe n x).regs = c.regs := rfl
@[simp] theorem Context.setTe_sys (c : Context) (n : Nat) (x : W32) : (c.setTe n x).sys = c.sys := rfl
@[simp] theorem Context.setTe_flow (c : Context) (n : Nat) (x : W32) : (c.setTe n x).flow = c.flow := rfl
@[simp] theorem Context.setTe_swage (c : Context) (n : Nat) (x : W32) : (c.setTe n x).swage = c.swage := rfl
@[simp] theorem Context.setTe_trap (c : Context) (n : Nat) (x : W32) : (c.setTe n x).trap = c.trap := rfl
@[simp] theorem Context.setTe_mem (c : Context) (n : Nat) (x : W32) : (c.setTe n x).mem = { c.mem with te := Tbl.set 0 c.mem.te n x } := rfl
@[simp] theorem Context.setTe_anvil (c : Context) (n : Nat) (x : W32) : (c.setTe n x).anvil = c.anvil := rfl
@[simp] theorem Context.setTe_budget (c : Context) (n : Nat) (x : W32) : (c.setTe n x).budget = c.budget := rfl
@[simp] theorem Context.setTe_run (c : Context) (n : Nat) (x : W32) : (c.setTe n x).run = c.run := rfl
@[simp] theorem Context.setTe_dbg (c : Context) (n : Nat) (x : W32) : (c.setTe n x).dbg = c.dbg := rfl

/-- What making a trace record can change: the cores' queues and the trace registers (R293). -/
theorem State.traceOf_frame (s : State) (core : Nat) (c : Context) (x : BitVec 512) :
    ∃ cores traces, s.traceOf core c x = { s with cores := cores, traces := traces } := by
  unfold State.traceOf State.record
  simp only []
  repeat' split
  all_goals exact ⟨_, _, rfl⟩

end Sys2Proof.Machine
end

