-- ==== Sys2Proof/Laws/Host.lean ====
section
/-! SUPPORT. What the mailbox does with one command (R281): a command posted to an empty mailbox is performed at once. -/

namespace Sys2Proof.Machine

theorem State.complete_queue (s : State) (code status : Byte) (results : Nat) : (s.complete code status results).mail.queue = s.mail.queue := rfl

/-- Nothing is performed from an empty mailbox. -/
theorem State.runMail_empty (n : Nat) {s : State} (h : s.mail.queue = []) : State.runMail n s = s := by
  cases n with
  | zero => rfl
  | succ n => rw [State.runMail]; simp only [h]

/-- One command at the head of the mailbox, and nothing behind it. -/
theorem State.runMail_one (n : Nat) {s u : State} {c : Cmd} {d : Done} (hq : s.mail.queue = [c]) (hp : s.mail.preempt = none)
    (h : s.perform c = (u, d)) :
    State.runMail (n + 1) s = match d with
      | .waits => u
      | .done status results => ((({ u with mail := { u.mail with queue := [] } } : State).forget .command).complete c.code status results) := by
  rw [State.runMail]
  simp only [hq, hp, h, Option.isSome_none, Bool.false_eq_true, if_false]
  cases d with
  | waits => rfl
  | done status results => exact State.runMail_empty _ rfl

/-- The state in which a command has been posted to an empty mailbox. -/
def State.posted (s : State) (code : Byte) (o : CmdOps) : State :=
  { s with mail := { s.mail with queue := [{ code := code, ops := o }], accepted := s.mail.accepted + 1 } }

theorem State.command_waits {s u : State} {code : Byte} {o : CmdOps} (h1 : s.takesHost = true) (h2 : s.mail.queue = [])
    (h3 : s.mail.preempt = none) (h : (s.posted code o).perform { code := code, ops := o } = (u, .waits)) : s.command code o = u := by
  rw [State.command]
  simp only [h1, h2, List.length_nil, List.nil_append, Bool.not_true, Bool.false_eq_true, if_false, Nat.reduceLeDiff]
  exact State.runMail_one 63 (s := s.posted code o) (c := { code := code, ops := o }) (u := u) (d := .waits) rfl h3 h

theorem State.command_done {s u : State} {code status : Byte} {o : CmdOps} {results : Nat} (h1 : s.takesHost = true)
    (h2 : s.mail.queue = []) (h3 : s.mail.preempt = none)
    (h : (s.posted code o).perform { code := code, ops := o } = (u, .done status results)) :
    s.command code o = (({ u with mail := { u.mail with queue := [] } } : State).forget .command).complete code status results := by
  rw [State.command]
  simp only [h1, h2, List.length_nil, List.nil_append, Bool.not_true, Bool.false_eq_true, if_false, Nat.reduceLeDiff]
  exact State.runMail_one 63 (s := s.posted code o) (c := { code := code, ops := o }) (u := u) (d := .done status results) rfl h3 h

end Sys2Proof.Machine
end

