-- ==== Sys2Proof/Laws/Issue.lean ====
section
/-! SUPPORT. What an operation under its guard and its checks can do, said once for every slot. -/

namespace Sys2Proof.Machine

variable {α : Type}

@[simp] theorem firstOf_nil : firstOf ([] : List (Option α)) = none := rfl
@[simp] theorem firstOf_none (t : List (Option α)) : firstOf (none :: t) = firstOf t := rfl
@[simp] theorem firstOf_some (x : α) (t : List (Option α)) : firstOf (some x :: t) = some x := rfl

theorem firstOf_eq_none {xs : List (Option α)} : firstOf xs = none ↔ ∀ x ∈ xs, x = none := by
  induction xs with
  | nil => simp
  | cons x t ih => cases x <;> simp [ih]

@[simp] theorem firstOf_append (xs ys : List (Option α)) : firstOf (xs ++ ys) = (firstOf xs).or (firstOf ys) := by
  induction xs with
  | nil => simp
  | cons x t ih => cases x <;> simp [ih]

/-- Everything an operation can come to: no effect, a trap in stage 2 or 4, a wait, its own effect. -/
theorem State.issueOp_cases {s : State} {runs : Bool} {early late : List (Option Cause)} {waits : List (Option Nat)} {act : State → State}
    {o : Out} (h : s.issueOp runs early waits late act = o) :
    (runs = false ∧ o = .next (s.judge .idle)) ∨
    (runs = true ∧ ∃ x, firstOf early = some x ∧ o = .next (s.issueTrap 2 x)) ∨
    (runs = true ∧ firstOf early = none ∧ ∃ n, firstOf waits = some n ∧ o = .next (s.judge (.waits n))) ∨
    (runs = true ∧ firstOf early = none ∧ firstOf waits = none ∧ ∃ x, firstOf late = some x ∧ o = .next (s.issueTrap 4 x)) ∨
    (runs = true ∧ firstOf early = none ∧ firstOf waits = none ∧ firstOf late = none ∧ o = .next ((act s).judge .performed)) := by
  subst h
  unfold State.issueOp
  cases runs <;> simp
  cases firstOf early <;> simp
  cases firstOf waits <;> simp
  cases firstOf late <;> simp

/-- An operation never faults and is never refused. -/
theorem State.issueOp_next (s : State) (runs : Bool) (early late : List (Option Cause)) (waits : List (Option Nat)) (act : State → State) :
    ∃ t, s.issueOp runs early waits late act = .next t := by
  rcases State.issueOp_cases (rfl : s.issueOp runs early waits late act = _) with h | ⟨_, _, _, h⟩ | ⟨_, _, _, _, h⟩ | ⟨_, _, _, _, _, h⟩ | h
  · exact ⟨_, h.2⟩
  · exact ⟨_, h⟩
  · exact ⟨_, h⟩
  · exact ⟨_, h⟩
  · exact ⟨_, h.2.2.2.2⟩

theorem State.issueOp_performs {s : State} {runs : Bool} {early late : List (Option Cause)} {waits : List (Option Nat)} {act : State → State}
    (hr : runs = true) (he : firstOf early = none) (hw : firstOf waits = none) (hl : firstOf late = none) :
    s.issueOp runs early waits late act = .next ((act s).judge .performed) := by
  simp [State.issueOp, hr, he, hw, hl]

theorem State.issueOp_waits {s : State} {runs : Bool} {early late : List (Option Cause)} {waits : List (Option Nat)} {act : State → State} {k : Nat}
    (hr : runs = true) (he : firstOf early = none) (hw : firstOf waits = some k) :
    s.issueOp runs early waits late act = .next (s.judge (.waits k)) := by
  simp [State.issueOp, hr, he, hw]

theorem State.issueOp_idle {s : State} {runs : Bool} {early late : List (Option Cause)} {waits : List (Option Nat)} {act : State → State}
    (hr : runs = false) : s.issueOp runs early waits late act = .next (s.judge .idle) := by
  simp [State.issueOp, hr]

/-- Nothing waits on registers that are full. -/
theorem State.waitRegs_full {s : State} {rs : List RegRef} : s.waitRegs rs = none ↔ s.full rs = true := by
  unfold State.waitRegs State.full
  constructor
  · intro h
    split at h
    · cases h
    · rename_i hn
      simp only [List.any_eq_true, not_exists, not_and, Bool.not_eq_true] at hn
      simp only [List.all_eq_true, Bool.not_eq_true']
      exact fun r hr => hn r hr
  · intro h
    simp only [List.all_eq_true, Bool.not_eq_true'] at h
    rw [if_neg]
    simp only [List.any_eq_true, not_exists, not_and, Bool.not_eq_true]
    exact fun r hr => h r hr

@[simp] theorem State.full_nil (s : State) : s.full [] = true := rfl
@[simp] theorem State.full_cons (s : State) (r : RegRef) (rs : List RegRef) :
    s.full (r :: rs) = (!s.rd.isEmpty r && s.full rs) := rfl
@[simp] theorem State.full_append (s : State) (xs ys : List RegRef) : s.full (xs ++ ys) = (s.full xs && s.full ys) := by
  simp [State.full, List.all_append]

/-- No EMPTYREAD on a full register. -/
theorem State.emptyRead_full {s : State} {slot : Nat} {flag : BitVec 1} {r : RegRef} (h : s.rd.isEmpty r = false) :
    s.emptyRead slot flag r = none := by
  simp [State.emptyRead, State.check, h]

/-- No EMPTYREAD without a trap bit. -/
@[simp] theorem State.emptyRead_zero (s : State) (slot : Nat) (r : RegRef) : s.emptyRead slot 0 r = none := by
  simp [State.emptyRead, State.check]

/-- A check that does not hold raises nothing. -/
@[simp] theorem State.check_false (s : State) (slot : Nat) (code : Byte) (x : W64) : s.check slot false code x = none := rfl

theorem State.check_none {s : State} {slot : Nat} {bad : Bool} {code : Byte} {x : W64} : s.check slot bad code x = none ↔ bad = false := by
  cases bad <;> simp [State.check]

@[simp] theorem State.context7_false (s : State) (slot word : Nat) : s.context7 slot false word = none := rfl

theorem State.context7_none {s : State} {slot word : Nat} {bad : Bool} : s.context7 slot bad word = none ↔ bad = false := by
  simp [State.context7, State.check_none]

@[simp] theorem State.alignCheck_false (s : State) (slot : Nat) (x : W64) : s.alignCheck slot false x = none := rfl

/-- The trap of an issue, as statements name it. -/
theorem State.issueTrap_eq (s : State) (stage : Nat) (x : Cause) : s.issueTrap stage x = s.trapped stage x := rfl

/-- A trap at issue touches the live context alone. -/
theorem State.issueTrap_frame (s : State) (stage : Nat) (x : Cause) :
    ∃ (f : Context → Context) (v : Verdict), s.issueTrap stage x = { s with live := f s.live, verdict := v } := ⟨fun _ => _, _, rfl⟩

/-- A change of the live context, then the verdict. -/
@[simp] theorem State.mapLive_judge_performed (s : State) (f : Context → Context) : (s.mapLive f).judge .performed = s.performed f := rfl
@[simp] theorem State.fly_judge_performed (s : State) (dist slot : Nat) (e : Eff) :
    (s.fly dist slot e).judge .performed = s.performed fun c => c.fly dist slot e := rfl
@[simp] theorem State.judge_idle (s : State) : s.judge .idle = s.passed := rfl

/-- An operation without effect beyond its operands' reading. -/
theorem acts_of_issueOp {i : Instr} {s t : State} {runs : Bool} {names : List RegRef} {ok : Prop} {early late : List (Option Cause)}
    {waits : List (Option Nat)} {act : State → State} (he : exec i s = s.issueOp runs early waits late act)
    (ht : t = (act s).judge .performed)
    (hc : runs = true → s.full names = true → ok → firstOf early = none ∧ firstOf waits = none ∧ firstOf late = none) :
    Acts i s runs names ok t := by
  subst ht
  refine ⟨fun hr hf hk => ?_, fun hr => ?_⟩
  · obtain ⟨h1, h2, h3⟩ := hc hr hf hk
    rw [he, State.issueOp_performs hr h1 h2 h3]
  · rw [he, State.issueOp_idle hr]; rfl

end Sys2Proof.Machine
end

