-- ==== Sys2Proof/Laws/Table.lean ====
section
/-! SUPPORT. Finite tables: reads after writes, and the canonical form that every write keeps. -/

namespace Sys2Proof.Machine

variable {α : Type}

/-- Every key lies above lo. -/
def Tbl.above (lo : Nat) (t : Tbl α) : Prop := ∀ e ∈ t, lo < e.1

@[simp] theorem Tbl.get_nil (d : α) (n : Nat) : Tbl.get d [] n = d := rfl

theorem Tbl.get_cons_self (d : α) (k : Nat) (x : α) (t : Tbl α) : Tbl.get d ((k, x) :: t) k = x := by simp [Tbl.get]

theorem Tbl.get_cons_ne (d : α) {k n : Nat} (x : α) (t : Tbl α) (h : n ≠ k) : Tbl.get d ((k, x) :: t) n = Tbl.get d t n := by
  simp [Tbl.get, h]

/-- A key that no entry has reads as the default. -/
theorem Tbl.get_above (d : α) {lo n : Nat} {t : Tbl α} (h : Tbl.above lo t) (hn : n ≤ lo) : Tbl.get d t n = d := by
  induction t with
  | nil => rfl
  | cons e t ih =>
    have h1 := h e (by simp)
    have hne : n ≠ e.1 := by omega
    rw [show (e :: t) = ((e.1, e.2) :: t) from rfl, Tbl.get_cons_ne d e.2 t hne]
    exact ih fun e' he' => h e' (by simp [he'])

/-- Rising keys, said once as a chain. -/
theorem Tbl.sortedFrom_some {lo : Nat} {t : Tbl α} :
    Tbl.sortedFrom (some lo) t = true ↔ Tbl.above lo t ∧ Tbl.sortedFrom none t = true := by
  induction t generalizing lo with
  | nil => simp [Tbl.sortedFrom, Tbl.above]
  | cons e t ih =>
    obtain ⟨k, x⟩ := e
    simp only [Tbl.sortedFrom, Bool.and_eq_true, decide_eq_true_eq, ih]
    constructor
    · rintro ⟨h1, h2, h3⟩
      refine ⟨?_, h2, h3⟩
      intro e he
      rcases List.mem_cons.1 he with rfl | he
      · exact h1
      · exact lt_trans h1 (h2 e he)
    · rintro ⟨h1, h2, h3⟩
      exact ⟨h1 (k, x) (by simp), h2, h3⟩

theorem Tbl.sortedFrom_cons {k : Nat} {x : α} {t : Tbl α} :
    Tbl.sortedFrom none ((k, x) :: t) = true ↔ Tbl.above k t ∧ Tbl.sortedFrom none t = true := by
  simp only [Tbl.sortedFrom]; exact Tbl.sortedFrom_some

/-- A write through put reads back. -/
theorem Tbl.get_put_self (d : α) (t : Tbl α) (n : Nat) (x : α) : Tbl.get d (Tbl.put t n x) n = x := by
  induction t with
  | nil => simp [Tbl.put, Tbl.get]
  | cons e t ih =>
    obtain ⟨k, y⟩ := e
    simp only [Tbl.put]
    split
    · simp [Tbl.get]
    · split
      · simp [Tbl.get]
      · rename_i h1 h2
        simp [Tbl.get, h2, ih]

/-- A write through put leaves every other key alone. -/
theorem Tbl.get_put_ne (d : α) (t : Tbl α) {n m : Nat} (x : α) (h : m ≠ n) : Tbl.get d (Tbl.put t n x) m = Tbl.get d t m := by
  induction t with
  | nil => simp [Tbl.put, Tbl.get, h]
  | cons e t ih =>
    obtain ⟨k, y⟩ := e
    simp only [Tbl.put]
    split
    · simp [Tbl.get, h]
    · split
      · rename_i h1 h2; subst h2; simp [Tbl.get, h]
      · simp only [Tbl.get]; split <;> simp_all

/-- The same for find. -/
theorem Tbl.find_put_self (t : Tbl α) (n : Nat) (x : α) : Tbl.find (Tbl.put t n x) n = some x := by
  induction t with
  | nil => simp [Tbl.put, Tbl.find]
  | cons e t ih =>
    obtain ⟨k, y⟩ := e
    simp only [Tbl.put]
    split
    · simp [Tbl.find]
    · split
      · simp [Tbl.find]
      · rename_i h1 h2
        simp [Tbl.find, h2, ih]

theorem Tbl.find_put_ne (t : Tbl α) {n m : Nat} (x : α) (h : m ≠ n) : Tbl.find (Tbl.put t n x) m = Tbl.find t m := by
  induction t with
  | nil => simp [Tbl.put, Tbl.find, h]
  | cons e t ih =>
    obtain ⟨k, y⟩ := e
    simp only [Tbl.put]
    split
    · simp [Tbl.find, h]
    · split
      · rename_i h1 h2; subst h2; simp [Tbl.find, h]
      · simp only [Tbl.find]; split <;> simp_all

theorem Tbl.above_put {lo : Nat} {t : Tbl α} {n : Nat} (x : α) (h : Tbl.above lo t) (hn : lo < n) :
    Tbl.above lo (Tbl.put t n x) := by
  induction t with
  | nil => intro e he; simp [Tbl.put] at he; subst he; exact hn
  | cons e t ih =>
    obtain ⟨k, y⟩ := e
    have hk := h (k, y) (by simp)
    have ht : Tbl.above lo t := fun e he => h e (by simp [he])
    simp only [Tbl.put]
    split
    · intro e he
      rcases List.mem_cons.1 he with rfl | he
      · exact hn
      · exact h e he
    · split
      · intro e he
        rcases List.mem_cons.1 he with rfl | he
        · exact hn
        · exact ht e he
      · intro e he
        rcases List.mem_cons.1 he with rfl | he
        · exact hk
        · exact ih ht e he

theorem Tbl.sortedFrom_put {t : Tbl α} (n : Nat) (x : α) (h : Tbl.sortedFrom none t = true) :
    Tbl.sortedFrom none (Tbl.put t n x) = true := by
  induction t with
  | nil => simp [Tbl.put, Tbl.sortedFrom]
  | cons e t ih =>
    obtain ⟨k, y⟩ := e
    obtain ⟨ha, hs⟩ := Tbl.sortedFrom_cons.1 h
    simp only [Tbl.put]
    split
    · rename_i hnk
      refine Tbl.sortedFrom_cons.2 ⟨?_, h⟩
      intro e he
      rcases List.mem_cons.1 he with rfl | he
      · exact hnk
      · exact lt_trans hnk (ha e he)
    · split
      · rename_i _ hnk; subst hnk
        exact Tbl.sortedFrom_cons.2 ⟨ha, hs⟩
      · exact Tbl.sortedFrom_cons.2 ⟨Tbl.above_put x ha (by omega), ih hs⟩

theorem Tbl.above_erase {lo : Nat} {t : Tbl α} (n : Nat) (h : Tbl.above lo t) : Tbl.above lo (Tbl.erase t n) := by
  induction t with
  | nil => exact h
  | cons e t ih =>
    obtain ⟨k, y⟩ := e
    have ht : Tbl.above lo t := fun e he => h e (by simp [he])
    simp only [Tbl.erase]
    split
    · exact ih ht
    · intro e he
      rcases List.mem_cons.1 he with rfl | he
      · exact h _ (by simp)
      · exact ih ht e he

theorem Tbl.sortedFrom_erase {t : Tbl α} (n : Nat) (h : Tbl.sortedFrom none t = true) :
    Tbl.sortedFrom none (Tbl.erase t n) = true := by
  induction t with
  | nil => exact h
  | cons e t ih =>
    obtain ⟨k, y⟩ := e
    obtain ⟨ha, hs⟩ := Tbl.sortedFrom_cons.1 h
    simp only [Tbl.erase]
    split
    · exact ih hs
    · exact Tbl.sortedFrom_cons.2 ⟨Tbl.above_erase n ha, ih hs⟩

theorem Tbl.get_erase_ne (d : α) (t : Tbl α) {n m : Nat} (h : m ≠ n) : Tbl.get d (Tbl.erase t n) m = Tbl.get d t m := by
  induction t with
  | nil => rfl
  | cons e t ih =>
    obtain ⟨k, y⟩ := e
    simp only [Tbl.erase]
    split
    · rename_i hk; subst hk; simp [Tbl.get, h, ih]
    · simp only [Tbl.get]; split <;> simp_all

/-- An erased key reads as the default. -/
theorem Tbl.get_erase_self (d : α) (t : Tbl α) (n : Nat) : Tbl.get d (Tbl.erase t n) n = d := by
  induction t with
  | nil => rfl
  | cons e t ih =>
    obtain ⟨k, y⟩ := e
    simp only [Tbl.erase]
    split
    · exact ih
    · rename_i hk; simp only [Tbl.get, hk, if_false]; exact ih

theorem Tbl.mem_put {t : Tbl α} {n : Nat} {x : α} {e : Nat × α} (h : e ∈ Tbl.put t n x) : e = (n, x) ∨ e ∈ t := by
  induction t with
  | nil => simp [Tbl.put] at h; exact .inl h
  | cons f t ih =>
    obtain ⟨k, y⟩ := f
    simp only [Tbl.put] at h
    split at h
    · rcases List.mem_cons.1 h with h | h
      · exact .inl h
      · exact .inr h
    · split at h
      · rcases List.mem_cons.1 h with h | h
        · exact .inl h
        · exact .inr (by simp [h])
      · rcases List.mem_cons.1 h with h | h
        · exact .inr (by simp [h])
        · rcases ih h with h | h
          · exact .inl h
          · exact .inr (by simp [h])

theorem Tbl.mem_erase {t : Tbl α} {n : Nat} {e : Nat × α} (h : e ∈ Tbl.erase t n) : e ∈ t := by
  induction t with
  | nil => exact h
  | cons f t ih =>
    obtain ⟨k, y⟩ := f
    simp only [Tbl.erase] at h
    split at h
    · simp [ih h]
    · rcases List.mem_cons.1 h with h | h
      · simp [h]
      · simp [ih h]

section
variable [DecidableEq α]

theorem Tbl.wf_iff {d : α} {t : Tbl α} : Tbl.wf d t = true ↔ Tbl.sortedFrom none t = true ∧ ∀ e ∈ t, e.2 ≠ d := by
  simp [Tbl.wf, List.all_eq_true]

@[simp] theorem Tbl.wf_nil (d : α) : Tbl.wf d ([] : Tbl α) = true := rfl

/-- Every write keeps the canonical form. -/
theorem Tbl.wf_set {d : α} {t : Tbl α} (n : Nat) (x : α) (h : Tbl.wf d t = true) : Tbl.wf d (Tbl.set d t n x) = true := by
  obtain ⟨hs, hd⟩ := Tbl.wf_iff.1 h
  unfold Tbl.set
  split
  · exact Tbl.wf_iff.2 ⟨Tbl.sortedFrom_erase n hs, fun e he => hd e (Tbl.mem_erase he)⟩
  · rename_i hx
    refine Tbl.wf_iff.2 ⟨Tbl.sortedFrom_put n x hs, fun e he => ?_⟩
    rcases Tbl.mem_put he with rfl | he
    · exact hx
    · exact hd e he

/-- A write reads back. -/
theorem Tbl.get_set_self (d : α) (t : Tbl α) (n : Nat) (x : α) : Tbl.get d (Tbl.set d t n x) n = x := by
  unfold Tbl.set
  split
  · rename_i hx; subst hx; exact Tbl.get_erase_self _ t n
  · exact Tbl.get_put_self d t n x

/-- A write leaves every other key alone. -/
theorem Tbl.get_set_ne (d : α) (t : Tbl α) {n m : Nat} (x : α) (h : m ≠ n) : Tbl.get d (Tbl.set d t n x) m = Tbl.get d t m := by
  unfold Tbl.set
  split
  · exact Tbl.get_erase_ne d t h
  · exact Tbl.get_put_ne d t x h

end

end Sys2Proof.Machine
end

