-- ==== Sys2Proof/Laws/Memory.lean ====
section
/-! SUPPORT. Memory: the canonical form that every write keeps, reads after writes. -/

namespace Sys2Proof.Machine

/-- Writing bytes keeps the canonical form. -/
theorem putBytes_wf {m : List Host.Cell} (key : Nat) (bs : List Byte) (h : Memory.wf m = true) : Memory.wf (putBytes m key bs) = true := by
  induction bs generalizing m key with
  | nil => exact h
  | cons b t ih => exact ih (key + 1) (Tbl.wf_set key b h)

/-- Writing bytes leaves every other byte alone. -/
theorem putBytes_outside (m : List Host.Cell) (key : Nat) (bs : List Byte) {a : Nat} (h : a < key ∨ key + bs.length ≤ a) :
    Tbl.get memDefault (putBytes m key bs) a = Tbl.get memDefault m a := by
  induction bs generalizing m key with
  | nil => rfl
  | cons b t ih =>
    simp only [List.length_cons] at h
    rw [putBytes, ih, Tbl.get_set_ne]
    · omega
    · omega

/-- A byte written reads back. -/
theorem putBytes_inside (m : List Host.Cell) (key : Nat) (bs : List Byte) {i : Nat} (hi : i < bs.length) :
    Tbl.get memDefault (putBytes m key bs) (key + i) = bs[i] := by
  induction bs generalizing m key i with
  | nil => simp at hi
  | cons b t ih =>
    rw [putBytes]
    cases i with
    | zero =>
      rw [putBytes_outside _ _ _ (by omega)]
      simpa using Tbl.get_set_self memDefault m key b
    | succ j =>
      have := ih (m := Tbl.set memDefault m key b) (key + 1) (i := j) (by simpa using hi)
      rw [show key + (j + 1) = key + 1 + j by omega, this]; simp

/-- A store keeps the canonical form. -/
theorem State.store_wf (s : State) (key : Nat) (bs : List Byte) (h : Memory.wf s.mem = true) : Memory.wf (s.store key bs).mem = true :=
  putBytes_wf key bs h

/-- A store leaves every byte outside it alone. -/
theorem State.store_outside (s : State) (key : Nat) (bs : List Byte) {a : Nat} (h : a < key ∨ key + bs.length ≤ a) :
    (s.store key bs).byte a = s.byte a := putBytes_outside s.mem key bs h

/-- A stored byte reads back. -/
theorem State.store_inside (s : State) (key : Nat) (bs : List Byte) {i : Nat} (hi : i < bs.length) :
    (s.store key bs).byte (key + i) = bs[i] := putBytes_inside s.mem key bs hi

/-- Bytes depend only on the bytes they read. -/
theorem State.bytes_congr {s t : State} {key n : Nat} (h : ∀ i < n, s.byte (key + i) = t.byte (key + i)) :
    s.bytes key n = t.bytes key n := by
  induction n generalizing key with
  | zero => rfl
  | succ n ih =>
    simp only [State.bytes]
    rw [show s.byte key = t.byte key by simpa using h 0 (by omega),
      ih fun i hi => by simpa [Nat.add_assoc, Nat.add_comm 1 i] using h (i + 1) (by omega)]

@[simp] theorem State.bytes_length (s : State) (key n : Nat) : (s.bytes key n).length = n := by
  induction n generalizing key with
  | zero => rfl
  | succ n ih => simp [State.bytes, ih]

/-- A run of stored bytes reads back whole. -/
theorem State.bytes_store (s : State) (key : Nat) (bs : List Byte) :
    (s.store key bs).bytes key bs.length = bs := by
  apply List.ext_getElem (by simp)
  intro i h1 h2
  have get : ∀ (t : State) (k n i : Nat) (hi : i < n), (t.bytes k n)[i]'(by simpa using hi) = t.byte (k + i) := by
    intro t k n
    induction n generalizing k with
    | zero => intro i hi; omega
    | succ n ih =>
      intro i hi
      cases i with
      | zero => simp [State.bytes]
      | succ j => simp only [State.bytes, List.getElem_cons_succ]; rw [ih (k + 1) j (by omega)]; congr 1; omega
  rw [get _ _ _ _ h2, State.store_inside s key bs h2]

/-- Bytes that a store does not touch read as before. -/
theorem State.bytes_store_outside (s : State) (key : Nat) (bs : List Byte) {a n : Nat} (h : a + n ≤ key ∨ key + bs.length ≤ a) :
    (s.store key bs).bytes a n = s.bytes a n :=
  State.bytes_congr fun i hi => State.store_outside s key bs (by omega)

theorem reset_memory_wf : Memory.wf State.reset.mem = true := rfl

end Sys2Proof.Machine
end

