-- ==== Sys2Proof/Laws/PerInstr.lean ====
section
/-! SUPPORT. One lemma per constructor of Instr: it is an operation of one of the eight slots, or an event, which has no word and no
field that could break a rule. -/

namespace Sys2Proof.Laws.Slot

/-- A word of one of the eight slots of a bundle, or an event (R108). -/
def Statement (i : Instr) : Prop :=
  (∀ n, slotOf i = some n → n < 8) ∧ (slotOf i = none → encode i = 0 ∧ WellFormed i = true)

theorem nopCtl x0 x1 x2 x3 : Statement (.nopCtl x0 x1 x2 x3) := ⟨fun _ h => Option.some.inj h ▸ (by decide), fun h => nomatch h⟩
theorem prep x0 x1 x2 x3 x4 x5 : Statement (.prep x0 x1 x2 x3 x4 x5) := ⟨fun _ h => Option.some.inj h ▸ (by decide), fun h => nomatch h⟩
theorem prepc x0 x1 x2 x3 x4 x5 : Statement (.prepc x0 x1 x2 x3 x4 x5) := ⟨fun _ h => Option.some.inj h ▸ (by decide), fun h => nomatch h⟩
theorem prepr x0 x1 x2 x3 x4 : Statement (.prepr x0 x1 x2 x3 x4) := ⟨fun _ h => Option.some.inj h ▸ (by decide), fun h => nomatch h⟩
theorem prepi x0 x1 x2 x3 x4 x5 x6 : Statement (.prepi x0 x1 x2 x3 x4 x5 x6) := ⟨fun _ h => Option.some.inj h ▸ (by decide), fun h => nomatch h⟩
theorem loop x0 x1 x2 x3 x4 x5 x6 : Statement (.loop x0 x1 x2 x3 x4 x5 x6) := ⟨fun _ h => Option.some.inj h ▸ (by decide), fun h => nomatch h⟩
theorem loopi x0 x1 x2 x3 x4 x5 x6 : Statement (.loopi x0 x1 x2 x3 x4 x5 x6) := ⟨fun _ h => Option.some.inj h ▸ (by decide), fun h => nomatch h⟩
theorem budget x0 x1 x2 x3 x4 : Statement (.budget x0 x1 x2 x3 x4) := ⟨fun _ h => Option.some.inj h ▸ (by decide), fun h => nomatch h⟩
theorem mark x0 x1 x2 x3 x4 : Statement (.mark x0 x1 x2 x3 x4) := ⟨fun _ h => Option.some.inj h ▸ (by decide), fun h => nomatch h⟩
theorem sync x0 x1 x2 x3 x4 : Statement (.sync x0 x1 x2 x3 x4) := ⟨fun _ h => Option.some.inj h ▸ (by decide), fun h => nomatch h⟩
theorem spawn x0 x1 x2 x3 x4 x5 x6 : Statement (.spawn x0 x1 x2 x3 x4 x5 x6) := ⟨fun _ h => Option.some.inj h ▸ (by decide), fun h => nomatch h⟩
theorem susp x0 x1 x2 x3 x4 : Statement (.susp x0 x1 x2 x3 x4) := ⟨fun _ h => Option.some.inj h ▸ (by decide), fun h => nomatch h⟩
theorem qnew x0 x1 x2 x3 x4 x5 : Statement (.qnew x0 x1 x2 x3 x4 x5) := ⟨fun _ h => Option.some.inj h ▸ (by decide), fun h => nomatch h⟩
theorem qwait x0 x1 x2 x3 : Statement (.qwait x0 x1 x2 x3) := ⟨fun _ h => Option.some.inj h ▸ (by decide), fun h => nomatch h⟩
theorem qborrow x0 x1 x2 x3 x4 : Statement (.qborrow x0 x1 x2 x3 x4) := ⟨fun _ h => Option.some.inj h ▸ (by decide), fun h => nomatch h⟩
theorem qsplit x0 x1 x2 x3 x4 : Statement (.qsplit x0 x1 x2 x3 x4) := ⟨fun _ h => Option.some.inj h ▸ (by decide), fun h => nomatch h⟩
theorem qjoin x0 x1 x2 x3 x4 : Statement (.qjoin x0 x1 x2 x3 x4) := ⟨fun _ h => Option.some.inj h ▸ (by decide), fun h => nomatch h⟩
theorem qret x0 x1 x2 x3 : Statement (.qret x0 x1 x2 x3) := ⟨fun _ h => Option.some.inj h ▸ (by decide), fun h => nomatch h⟩
theorem waitte x0 x1 x2 x3 x4 x5 : Statement (.waitte x0 x1 x2 x3 x4 x5) := ⟨fun _ h => Option.some.inj h ▸ (by decide), fun h => nomatch h⟩
theorem drainw x0 x1 x2 x3 : Statement (.drainw x0 x1 x2 x3) := ⟨fun _ h => Option.some.inj h ▸ (by decide), fun h => nomatch h⟩
theorem trap x0 x1 x2 x3 x4 : Statement (.trap x0 x1 x2 x3 x4) := ⟨fun _ h => Option.some.inj h ▸ (by decide), fun h => nomatch h⟩
theorem rft x0 x1 : Statement (.rft x0 x1) := ⟨fun _ h => Option.some.inj h ▸ (by decide), fun h => nomatch h⟩
theorem nopInt : Statement .nopInt := ⟨fun _ h => Option.some.inj h ▸ (by decide), fun h => nomatch h⟩
theorem add x0 x1 x2 x3 x4 x5 : Statement (.add x0 x1 x2 x3 x4 x5) := ⟨fun _ h => Option.some.inj h ▸ (by decide), fun h => nomatch h⟩
theorem addN x0 x1 x2 x3 x4 x5 : Statement (.addN x0 x1 x2 x3 x4 x5) := ⟨fun _ h => Option.some.inj h ▸ (by decide), fun h => nomatch h⟩
theorem addP x0 x1 x2 x3 x4 x5 : Statement (.addP x0 x1 x2 x3 x4 x5) := ⟨fun _ h => Option.some.inj h ▸ (by decide), fun h => nomatch h⟩
theorem sub x0 x1 x2 x3 x4 x5 : Statement (.sub x0 x1 x2 x3 x4 x5) := ⟨fun _ h => Option.some.inj h ▸ (by decide), fun h => nomatch h⟩
theorem subN x0 x1 x2 x3 x4 x5 : Statement (.subN x0 x1 x2 x3 x4 x5) := ⟨fun _ h => Option.some.inj h ▸ (by decide), fun h => nomatch h⟩
theorem subP x0 x1 x2 x3 x4 x5 : Statement (.subP x0 x1 x2 x3 x4 x5) := ⟨fun _ h => Option.some.inj h ▸ (by decide), fun h => nomatch h⟩
theorem mul x0 x1 x2 x3 x4 x5 : Statement (.mul x0 x1 x2 x3 x4 x5) := ⟨fun _ h => Option.some.inj h ▸ (by decide), fun h => nomatch h⟩
theorem mulN x0 x1 x2 x3 x4 x5 : Statement (.mulN x0 x1 x2 x3 x4 x5) := ⟨fun _ h => Option.some.inj h ▸ (by decide), fun h => nomatch h⟩
theorem mulP x0 x1 x2 x3 x4 x5 : Statement (.mulP x0 x1 x2 x3 x4 x5) := ⟨fun _ h => Option.some.inj h ▸ (by decide), fun h => nomatch h⟩
theorem min x0 x1 x2 x3 x4 x5 : Statement (.min x0 x1 x2 x3 x4 x5) := ⟨fun _ h => Option.some.inj h ▸ (by decide), fun h => nomatch h⟩
theorem minN x0 x1 x2 x3 x4 x5 : Statement (.minN x0 x1 x2 x3 x4 x5) := ⟨fun _ h => Option.some.inj h ▸ (by decide), fun h => nomatch h⟩
theorem minP x0 x1 x2 x3 x4 x5 : Statement (.minP x0 x1 x2 x3 x4 x5) := ⟨fun _ h => Option.some.inj h ▸ (by decide), fun h => nomatch h⟩
theorem max x0 x1 x2 x3 x4 x5 : Statement (.max x0 x1 x2 x3 x4 x5) := ⟨fun _ h => Option.some.inj h ▸ (by decide), fun h => nomatch h⟩
theorem maxN x0 x1 x2 x3 x4 x5 : Statement (.maxN x0 x1 x2 x3 x4 x5) := ⟨fun _ h => Option.some.inj h ▸ (by decide), fun h => nomatch h⟩
theorem maxP x0 x1 x2 x3 x4 x5 : Statement (.maxP x0 x1 x2 x3 x4 x5) := ⟨fun _ h => Option.some.inj h ▸ (by decide), fun h => nomatch h⟩
theorem abs x0 x1 x2 x3 : Statement (.abs x0 x1 x2 x3) := ⟨fun _ h => Option.some.inj h ▸ (by decide), fun h => nomatch h⟩
theorem absN x0 x1 x2 x3 : Statement (.absN x0 x1 x2 x3) := ⟨fun _ h => Option.some.inj h ▸ (by decide), fun h => nomatch h⟩
theorem absP x0 x1 x2 x3 : Statement (.absP x0 x1 x2 x3) := ⟨fun _ h => Option.some.inj h ▸ (by decide), fun h => nomatch h⟩
theorem neg x0 x1 x2 x3 : Statement (.neg x0 x1 x2 x3) := ⟨fun _ h => Option.some.inj h ▸ (by decide), fun h => nomatch h⟩
theorem negN x0 x1 x2 x3 : Statement (.negN x0 x1 x2 x3) := ⟨fun _ h => Option.some.inj h ▸ (by decide), fun h => nomatch h⟩
theorem negP x0 x1 x2 x3 : Statement (.negP x0 x1 x2 x3) := ⟨fun _ h => Option.some.inj h ▸ (by decide), fun h => nomatch h⟩
theorem mov x0 x1 x2 x3 : Statement (.mov x0 x1 x2 x3) := ⟨fun _ h => Option.some.inj h ▸ (by decide), fun h => nomatch h⟩
theorem movN x0 x1 x2 x3 : Statement (.movN x0 x1 x2 x3) := ⟨fun _ h => Option.some.inj h ▸ (by decide), fun h => nomatch h⟩
theorem movP x0 x1 x2 x3 : Statement (.movP x0 x1 x2 x3) := ⟨fun _ h => Option.some.inj h ▸ (by decide), fun h => nomatch h⟩
theorem addi x0 x1 x2 x3 : Statement (.addi x0 x1 x2 x3) := ⟨fun _ h => Option.some.inj h ▸ (by decide), fun h => nomatch h⟩
theorem addiN x0 x1 x2 x3 : Statement (.addiN x0 x1 x2 x3) := ⟨fun _ h => Option.some.inj h ▸ (by decide), fun h => nomatch h⟩
theorem addiP x0 x1 x2 x3 : Statement (.addiP x0 x1 x2 x3) := ⟨fun _ h => Option.some.inj h ▸ (by decide), fun h => nomatch h⟩
theorem muli x0 x1 x2 x3 : Statement (.muli x0 x1 x2 x3) := ⟨fun _ h => Option.some.inj h ▸ (by decide), fun h => nomatch h⟩
theorem muliN x0 x1 x2 x3 : Statement (.muliN x0 x1 x2 x3) := ⟨fun _ h => Option.some.inj h ▸ (by decide), fun h => nomatch h⟩
theorem muliP x0 x1 x2 x3 : Statement (.muliP x0 x1 x2 x3) := ⟨fun _ h => Option.some.inj h ▸ (by decide), fun h => nomatch h⟩
theorem and x0 x1 x2 x3 x4 x5 : Statement (.and x0 x1 x2 x3 x4 x5) := ⟨fun _ h => Option.some.inj h ▸ (by decide), fun h => nomatch h⟩
theorem or x0 x1 x2 x3 x4 x5 : Statement (.or x0 x1 x2 x3 x4 x5) := ⟨fun _ h => Option.some.inj h ▸ (by decide), fun h => nomatch h⟩
theorem xor x0 x1 x2 x3 x4 x5 : Statement (.xor x0 x1 x2 x3 x4 x5) := ⟨fun _ h => Option.some.inj h ▸ (by decide), fun h => nomatch h⟩
theorem shl x0 x1 x2 x3 x4 x5 : Statement (.shl x0 x1 x2 x3 x4 x5) := ⟨fun _ h => Option.some.inj h ▸ (by decide), fun h => nomatch h⟩
theorem shr x0 x1 x2 x3 x4 x5 : Statement (.shr x0 x1 x2 x3 x4 x5) := ⟨fun _ h => Option.some.inj h ▸ (by decide), fun h => nomatch h⟩
theorem sar x0 x1 x2 x3 x4 x5 : Statement (.sar x0 x1 x2 x3 x4 x5) := ⟨fun _ h => Option.some.inj h ▸ (by decide), fun h => nomatch h⟩
theorem eq x0 x1 x2 x3 x4 x5 : Statement (.eq x0 x1 x2 x3 x4 x5) := ⟨fun _ h => Option.some.inj h ▸ (by decide), fun h => nomatch h⟩
theorem eqN x0 x1 x2 x3 x4 : Statement (.eqN x0 x1 x2 x3 x4) := ⟨fun _ h => Option.some.inj h ▸ (by decide), fun h => nomatch h⟩
theorem eqP x0 x1 x2 x3 x4 : Statement (.eqP x0 x1 x2 x3 x4) := ⟨fun _ h => Option.some.inj h ▸ (by decide), fun h => nomatch h⟩
theorem ne x0 x1 x2 x3 x4 x5 : Statement (.ne x0 x1 x2 x3 x4 x5) := ⟨fun _ h => Option.some.inj h ▸ (by decide), fun h => nomatch h⟩
theorem neN x0 x1 x2 x3 x4 : Statement (.neN x0 x1 x2 x3 x4) := ⟨fun _ h => Option.some.inj h ▸ (by decide), fun h => nomatch h⟩
theorem neP x0 x1 x2 x3 x4 : Statement (.neP x0 x1 x2 x3 x4) := ⟨fun _ h => Option.some.inj h ▸ (by decide), fun h => nomatch h⟩
theorem lt x0 x1 x2 x3 x4 x5 : Statement (.lt x0 x1 x2 x3 x4 x5) := ⟨fun _ h => Option.some.inj h ▸ (by decide), fun h => nomatch h⟩
theorem ltN x0 x1 x2 x3 x4 : Statement (.ltN x0 x1 x2 x3 x4) := ⟨fun _ h => Option.some.inj h ▸ (by decide), fun h => nomatch h⟩
theorem ltP x0 x1 x2 x3 x4 : Statement (.ltP x0 x1 x2 x3 x4) := ⟨fun _ h => Option.some.inj h ▸ (by decide), fun h => nomatch h⟩
theorem le x0 x1 x2 x3 x4 x5 : Statement (.le x0 x1 x2 x3 x4 x5) := ⟨fun _ h => Option.some.inj h ▸ (by decide), fun h => nomatch h⟩
theorem leN x0 x1 x2 x3 x4 : Statement (.leN x0 x1 x2 x3 x4) := ⟨fun _ h => Option.some.inj h ▸ (by decide), fun h => nomatch h⟩
theorem leP x0 x1 x2 x3 x4 : Statement (.leP x0 x1 x2 x3 x4) := ⟨fun _ h => Option.some.inj h ▸ (by decide), fun h => nomatch h⟩
theorem eqi x0 x1 x2 x3 : Statement (.eqi x0 x1 x2 x3) := ⟨fun _ h => Option.some.inj h ▸ (by decide), fun h => nomatch h⟩
theorem eqiN x0 x1 x2 : Statement (.eqiN x0 x1 x2) := ⟨fun _ h => Option.some.inj h ▸ (by decide), fun h => nomatch h⟩
theorem eqiP x0 x1 x2 : Statement (.eqiP x0 x1 x2) := ⟨fun _ h => Option.some.inj h ▸ (by decide), fun h => nomatch h⟩
theorem nei x0 x1 x2 x3 : Statement (.nei x0 x1 x2 x3) := ⟨fun _ h => Option.some.inj h ▸ (by decide), fun h => nomatch h⟩
theorem neiN x0 x1 x2 : Statement (.neiN x0 x1 x2) := ⟨fun _ h => Option.some.inj h ▸ (by decide), fun h => nomatch h⟩
theorem neiP x0 x1 x2 : Statement (.neiP x0 x1 x2) := ⟨fun _ h => Option.some.inj h ▸ (by decide), fun h => nomatch h⟩
theorem lti x0 x1 x2 x3 : Statement (.lti x0 x1 x2 x3) := ⟨fun _ h => Option.some.inj h ▸ (by decide), fun h => nomatch h⟩
theorem ltiN x0 x1 x2 : Statement (.ltiN x0 x1 x2) := ⟨fun _ h => Option.some.inj h ▸ (by decide), fun h => nomatch h⟩
theorem ltiP x0 x1 x2 : Statement (.ltiP x0 x1 x2) := ⟨fun _ h => Option.some.inj h ▸ (by decide), fun h => nomatch h⟩
theorem lei x0 x1 x2 x3 : Statement (.lei x0 x1 x2 x3) := ⟨fun _ h => Option.some.inj h ▸ (by decide), fun h => nomatch h⟩
theorem leiN x0 x1 x2 : Statement (.leiN x0 x1 x2) := ⟨fun _ h => Option.some.inj h ▸ (by decide), fun h => nomatch h⟩
theorem leiP x0 x1 x2 : Statement (.leiP x0 x1 x2) := ⟨fun _ h => Option.some.inj h ▸ (by decide), fun h => nomatch h⟩
theorem gti x0 x1 x2 x3 : Statement (.gti x0 x1 x2 x3) := ⟨fun _ h => Option.some.inj h ▸ (by decide), fun h => nomatch h⟩
theorem gtiN x0 x1 x2 : Statement (.gtiN x0 x1 x2) := ⟨fun _ h => Option.some.inj h ▸ (by decide), fun h => nomatch h⟩
theorem gtiP x0 x1 x2 : Statement (.gtiP x0 x1 x2) := ⟨fun _ h => Option.some.inj h ▸ (by decide), fun h => nomatch h⟩
theorem gei x0 x1 x2 x3 : Statement (.gei x0 x1 x2 x3) := ⟨fun _ h => Option.some.inj h ▸ (by decide), fun h => nomatch h⟩
theorem geiN x0 x1 x2 : Statement (.geiN x0 x1 x2) := ⟨fun _ h => Option.some.inj h ▸ (by decide), fun h => nomatch h⟩
theorem geiP x0 x1 x2 : Statement (.geiP x0 x1 x2) := ⟨fun _ h => Option.some.inj h ▸ (by decide), fun h => nomatch h⟩
theorem dlo x0 x1 x2 x3 : Statement (.dlo x0 x1 x2 x3) := ⟨fun _ h => Option.some.inj h ▸ (by decide), fun h => nomatch h⟩
theorem dhi x0 x1 x2 x3 : Statement (.dhi x0 x1 x2 x3) := ⟨fun _ h => Option.some.inj h ▸ (by decide), fun h => nomatch h⟩
theorem dsize x0 x1 x2 x3 : Statement (.dsize x0 x1 x2 x3) := ⟨fun _ h => Option.some.inj h ▸ (by decide), fun h => nomatch h⟩
theorem dmid x0 x1 x2 x3 : Statement (.dmid x0 x1 x2 x3) := ⟨fun _ h => Option.some.inj h ▸ (by decide), fun h => nomatch h⟩
theorem dset x0 x1 x2 x3 x4 x5 : Statement (.dset x0 x1 x2 x3 x4 x5) := ⟨fun _ h => Option.some.inj h ▸ (by decide), fun h => nomatch h⟩
theorem dfull x0 x1 : Statement (.dfull x0 x1) := ⟨fun _ h => Option.some.inj h ▸ (by decide), fun h => nomatch h⟩
theorem single x0 x1 x2 x3 : Statement (.single x0 x1 x2 x3) := ⟨fun _ h => Option.some.inj h ▸ (by decide), fun h => nomatch h⟩
theorem div x0 x1 x2 x3 x4 x5 : Statement (.div x0 x1 x2 x3 x4 x5) := ⟨fun _ h => Option.some.inj h ▸ (by decide), fun h => nomatch h⟩
theorem rem x0 x1 x2 x3 x4 x5 : Statement (.rem x0 x1 x2 x3 x4 x5) := ⟨fun _ h => Option.some.inj h ▸ (by decide), fun h => nomatch h⟩
theorem ckpt x0 : Statement (.ckpt x0) := ⟨fun _ h => Option.some.inj h ▸ (by decide), fun h => nomatch h⟩
theorem roll x0 : Statement (.roll x0) := ⟨fun _ h => Option.some.inj h ▸ (by decide), fun h => nomatch h⟩
theorem commit x0 : Statement (.commit x0) := ⟨fun _ h => Option.some.inj h ▸ (by decide), fun h => nomatch h⟩
theorem nopAdr : Statement .nopAdr := ⟨fun _ h => Option.some.inj h ▸ (by decide), fun h => nomatch h⟩
theorem adda x0 x1 x2 x3 : Statement (.adda x0 x1 x2 x3) := ⟨fun _ h => Option.some.inj h ▸ (by decide), fun h => nomatch h⟩
theorem suba x0 x1 x2 x3 : Statement (.suba x0 x1 x2 x3) := ⟨fun _ h => Option.some.inj h ▸ (by decide), fun h => nomatch h⟩
theorem mula x0 x1 x2 x3 : Statement (.mula x0 x1 x2 x3) := ⟨fun _ h => Option.some.inj h ▸ (by decide), fun h => nomatch h⟩
theorem anda x0 x1 x2 x3 : Statement (.anda x0 x1 x2 x3) := ⟨fun _ h => Option.some.inj h ▸ (by decide), fun h => nomatch h⟩
theorem ora x0 x1 x2 x3 : Statement (.ora x0 x1 x2 x3) := ⟨fun _ h => Option.some.inj h ▸ (by decide), fun h => nomatch h⟩
theorem xora x0 x1 x2 x3 : Statement (.xora x0 x1 x2 x3) := ⟨fun _ h => Option.some.inj h ▸ (by decide), fun h => nomatch h⟩
theorem shla x0 x1 x2 x3 : Statement (.shla x0 x1 x2 x3) := ⟨fun _ h => Option.some.inj h ▸ (by decide), fun h => nomatch h⟩
theorem shra x0 x1 x2 x3 : Statement (.shra x0 x1 x2 x3) := ⟨fun _ h => Option.some.inj h ▸ (by decide), fun h => nomatch h⟩
theorem sara x0 x1 x2 x3 : Statement (.sara x0 x1 x2 x3) := ⟨fun _ h => Option.some.inj h ▸ (by decide), fun h => nomatch h⟩
theorem addai x0 x1 x2 x3 : Statement (.addai x0 x1 x2 x3) := ⟨fun _ h => Option.some.inj h ▸ (by decide), fun h => nomatch h⟩
theorem li x0 x1 x2 : Statement (.li x0 x1 x2) := ⟨fun _ h => Option.some.inj h ▸ (by decide), fun h => nomatch h⟩
theorem shlai x0 x1 x2 x3 : Statement (.shlai x0 x1 x2 x3) := ⟨fun _ h => Option.some.inj h ▸ (by decide), fun h => nomatch h⟩
theorem cmpa x0 x1 x2 x3 x4 : Statement (.cmpa x0 x1 x2 x3 x4) := ⟨fun _ h => Option.some.inj h ▸ (by decide), fun h => nomatch h⟩
theorem cmpai x0 x1 x2 x3 x4 : Statement (.cmpai x0 x1 x2 x3 x4) := ⟨fun _ h => Option.some.inj h ▸ (by decide), fun h => nomatch h⟩
theorem plogic x0 x1 x2 x3 : Statement (.plogic x0 x1 x2 x3) := ⟨fun _ h => Option.some.inj h ▸ (by decide), fun h => nomatch h⟩
theorem pset x0 x1 : Statement (.pset x0 x1) := ⟨fun _ h => Option.some.inj h ▸ (by decide), fun h => nomatch h⟩
theorem arm x0 x1 x2 : Statement (.arm x0 x1 x2) := ⟨fun _ h => Option.some.inj h ▸ (by decide), fun h => nomatch h⟩
theorem armm x0 x1 : Statement (.armm x0 x1) := ⟨fun _ h => Option.some.inj h ▸ (by decide), fun h => nomatch h⟩
theorem mlogic x0 x1 x2 x3 x4 : Statement (.mlogic x0 x1 x2 x3 x4) := ⟨fun _ h => Option.some.inj h ▸ (by decide), fun h => nomatch h⟩
theorem mcnt x0 x1 x2 : Statement (.mcnt x0 x1 x2) := ⟨fun _ h => Option.some.inj h ▸ (by decide), fun h => nomatch h⟩
theorem mfirst x0 x1 x2 : Statement (.mfirst x0 x1 x2) := ⟨fun _ h => Option.some.inj h ▸ (by decide), fun h => nomatch h⟩
theorem mfill x0 x1 x2 : Statement (.mfill x0 x1 x2) := ⟨fun _ h => Option.some.inj h ▸ (by decide), fun h => nomatch h⟩
theorem mfromp x0 x1 x2 : Statement (.mfromp x0 x1 x2) := ⟨fun _ h => Option.some.inj h ▸ (by decide), fun h => nomatch h⟩
theorem movka x0 x1 x2 : Statement (.movka x0 x1 x2) := ⟨fun _ h => Option.some.inj h ▸ (by decide), fun h => nomatch h⟩
theorem movak x0 x1 x2 : Statement (.movak x0 x1 x2) := ⟨fun _ h => Option.some.inj h ▸ (by decide), fun h => nomatch h⟩
theorem sela x0 x1 x2 x3 x4 : Statement (.sela x0 x1 x2 x3 x4) := ⟨fun _ h => Option.some.inj h ▸ (by decide), fun h => nomatch h⟩
theorem ldelta x0 x1 x2 x3 : Statement (.ldelta x0 x1 x2 x3) := ⟨fun _ h => Option.some.inj h ▸ (by decide), fun h => nomatch h⟩
theorem getlc x0 x1 x2 : Statement (.getlc x0 x1 x2) := ⟨fun _ h => Option.some.inj h ▸ (by decide), fun h => nomatch h⟩
theorem movs x0 x1 x2 : Statement (.movs x0 x1 x2) := ⟨fun _ h => Option.some.inj h ▸ (by decide), fun h => nomatch h⟩
theorem movg x0 x1 x2 : Statement (.movg x0 x1 x2) := ⟨fun _ h => Option.some.inj h ▸ (by decide), fun h => nomatch h⟩
theorem nopVec : Statement .nopVec := ⟨fun _ h => Option.some.inj h ▸ (by decide), fun h => nomatch h⟩
theorem vaddF x0 x1 x2 x3 x4 x5 : Statement (.vaddF x0 x1 x2 x3 x4 x5) := ⟨fun _ h => Option.some.inj h ▸ (by decide), fun h => nomatch h⟩
theorem vsubF x0 x1 x2 x3 x4 x5 : Statement (.vsubF x0 x1 x2 x3 x4 x5) := ⟨fun _ h => Option.some.inj h ▸ (by decide), fun h => nomatch h⟩
theorem vmulF x0 x1 x2 x3 x4 x5 : Statement (.vmulF x0 x1 x2 x3 x4 x5) := ⟨fun _ h => Option.some.inj h ▸ (by decide), fun h => nomatch h⟩
theorem vfmaF x0 x1 x2 x3 x4 x5 : Statement (.vfmaF x0 x1 x2 x3 x4 x5) := ⟨fun _ h => Option.some.inj h ▸ (by decide), fun h => nomatch h⟩
theorem vfmsF x0 x1 x2 x3 x4 x5 : Statement (.vfmsF x0 x1 x2 x3 x4 x5) := ⟨fun _ h => Option.some.inj h ▸ (by decide), fun h => nomatch h⟩
theorem vminF x0 x1 x2 x3 x4 x5 : Statement (.vminF x0 x1 x2 x3 x4 x5) := ⟨fun _ h => Option.some.inj h ▸ (by decide), fun h => nomatch h⟩
theorem vmaxF x0 x1 x2 x3 x4 x5 : Statement (.vmaxF x0 x1 x2 x3 x4 x5) := ⟨fun _ h => Option.some.inj h ▸ (by decide), fun h => nomatch h⟩
theorem vabsF x0 x1 x2 x3 : Statement (.vabsF x0 x1 x2 x3) := ⟨fun _ h => Option.some.inj h ▸ (by decide), fun h => nomatch h⟩
theorem vnegF x0 x1 x2 x3 : Statement (.vnegF x0 x1 x2 x3) := ⟨fun _ h => Option.some.inj h ▸ (by decide), fun h => nomatch h⟩
theorem vrcpF x0 x1 x2 x3 : Statement (.vrcpF x0 x1 x2 x3) := ⟨fun _ h => Option.some.inj h ▸ (by decide), fun h => nomatch h⟩
theorem vrsqF x0 x1 x2 x3 : Statement (.vrsqF x0 x1 x2 x3) := ⟨fun _ h => Option.some.inj h ▸ (by decide), fun h => nomatch h⟩
theorem vexp2F x0 x1 x2 x3 : Statement (.vexp2F x0 x1 x2 x3) := ⟨fun _ h => Option.some.inj h ▸ (by decide), fun h => nomatch h⟩
theorem vlog2F x0 x1 x2 x3 : Statement (.vlog2F x0 x1 x2 x3) := ⟨fun _ h => Option.some.inj h ▸ (by decide), fun h => nomatch h⟩
theorem vcmpeqF x0 x1 x2 x3 x4 x5 : Statement (.vcmpeqF x0 x1 x2 x3 x4 x5) := ⟨fun _ h => Option.some.inj h ▸ (by decide), fun h => nomatch h⟩
theorem vcmpltF x0 x1 x2 x3 x4 x5 : Statement (.vcmpltF x0 x1 x2 x3 x4 x5) := ⟨fun _ h => Option.some.inj h ▸ (by decide), fun h => nomatch h⟩
theorem vcmpleF x0 x1 x2 x3 x4 x5 : Statement (.vcmpleF x0 x1 x2 x3 x4 x5) := ⟨fun _ h => Option.some.inj h ▸ (by decide), fun h => nomatch h⟩
theorem vaddI x0 x1 x2 x3 x4 x5 : Statement (.vaddI x0 x1 x2 x3 x4 x5) := ⟨fun _ h => Option.some.inj h ▸ (by decide), fun h => nomatch h⟩
theorem vsubI x0 x1 x2 x3 x4 x5 : Statement (.vsubI x0 x1 x2 x3 x4 x5) := ⟨fun _ h => Option.some.inj h ▸ (by decide), fun h => nomatch h⟩
theorem vmulI x0 x1 x2 x3 x4 x5 : Statement (.vmulI x0 x1 x2 x3 x4 x5) := ⟨fun _ h => Option.some.inj h ▸ (by decide), fun h => nomatch h⟩
theorem vminI x0 x1 x2 x3 x4 x5 : Statement (.vminI x0 x1 x2 x3 x4 x5) := ⟨fun _ h => Option.some.inj h ▸ (by decide), fun h => nomatch h⟩
theorem vmaxI x0 x1 x2 x3 x4 x5 : Statement (.vmaxI x0 x1 x2 x3 x4 x5) := ⟨fun _ h => Option.some.inj h ▸ (by decide), fun h => nomatch h⟩
theorem vand x0 x1 x2 x3 x4 x5 : Statement (.vand x0 x1 x2 x3 x4 x5) := ⟨fun _ h => Option.some.inj h ▸ (by decide), fun h => nomatch h⟩
theorem vor x0 x1 x2 x3 x4 x5 : Statement (.vor x0 x1 x2 x3 x4 x5) := ⟨fun _ h => Option.some.inj h ▸ (by decide), fun h => nomatch h⟩
theorem vxor x0 x1 x2 x3 x4 x5 : Statement (.vxor x0 x1 x2 x3 x4 x5) := ⟨fun _ h => Option.some.inj h ▸ (by decide), fun h => nomatch h⟩
theorem vshl x0 x1 x2 x3 x4 x5 : Statement (.vshl x0 x1 x2 x3 x4 x5) := ⟨fun _ h => Option.some.inj h ▸ (by decide), fun h => nomatch h⟩
theorem vshr x0 x1 x2 x3 x4 x5 : Statement (.vshr x0 x1 x2 x3 x4 x5) := ⟨fun _ h => Option.some.inj h ▸ (by decide), fun h => nomatch h⟩
theorem vsar x0 x1 x2 x3 x4 x5 : Statement (.vsar x0 x1 x2 x3 x4 x5) := ⟨fun _ h => Option.some.inj h ▸ (by decide), fun h => nomatch h⟩
theorem vcmpeqI x0 x1 x2 x3 x4 x5 : Statement (.vcmpeqI x0 x1 x2 x3 x4 x5) := ⟨fun _ h => Option.some.inj h ▸ (by decide), fun h => nomatch h⟩
theorem vcmpltI x0 x1 x2 x3 x4 x5 : Statement (.vcmpltI x0 x1 x2 x3 x4 x5) := ⟨fun _ h => Option.some.inj h ▸ (by decide), fun h => nomatch h⟩
theorem vcvtFi x0 x1 x2 x3 : Statement (.vcvtFi x0 x1 x2 x3) := ⟨fun _ h => Option.some.inj h ▸ (by decide), fun h => nomatch h⟩
theorem vcvtIf x0 x1 x2 x3 : Statement (.vcvtIf x0 x1 x2 x3) := ⟨fun _ h => Option.some.inj h ▸ (by decide), fun h => nomatch h⟩
theorem vpkbf x0 x1 x2 x3 x4 x5 : Statement (.vpkbf x0 x1 x2 x3 x4 x5) := ⟨fun _ h => Option.some.inj h ▸ (by decide), fun h => nomatch h⟩
theorem vunbf x0 x1 x2 x3 x4 : Statement (.vunbf x0 x1 x2 x3 x4) := ⟨fun _ h => Option.some.inj h ▸ (by decide), fun h => nomatch h⟩
theorem vcvtn x0 x1 x2 x3 x4 : Statement (.vcvtn x0 x1 x2 x3 x4) := ⟨fun _ h => Option.some.inj h ▸ (by decide), fun h => nomatch h⟩
theorem vcvtw x0 x1 x2 x3 x4 : Statement (.vcvtw x0 x1 x2 x3 x4) := ⟨fun _ h => Option.some.inj h ▸ (by decide), fun h => nomatch h⟩
theorem vmov x0 x1 x2 x3 : Statement (.vmov x0 x1 x2 x3) := ⟨fun _ h => Option.some.inj h ▸ (by decide), fun h => nomatch h⟩
theorem vsel x0 x1 x2 x3 x4 x5 : Statement (.vsel x0 x1 x2 x3 x4 x5) := ⟨fun _ h => Option.some.inj h ▸ (by decide), fun h => nomatch h⟩
theorem vbca x0 x1 x2 x3 : Statement (.vbca x0 x1 x2 x3) := ⟨fun _ h => Option.some.inj h ▸ (by decide), fun h => nomatch h⟩
theorem vbck x0 x1 x2 x3 : Statement (.vbck x0 x1 x2 x3) := ⟨fun _ h => Option.some.inj h ▸ (by decide), fun h => nomatch h⟩
theorem vperm x0 x1 x2 x3 x4 x5 : Statement (.vperm x0 x1 x2 x3 x4 x5) := ⟨fun _ h => Option.some.inj h ▸ (by decide), fun h => nomatch h⟩
theorem vext x0 x1 x2 x3 x4 : Statement (.vext x0 x1 x2 x3 x4) := ⟨fun _ h => Option.some.inj h ▸ (by decide), fun h => nomatch h⟩
theorem vins x0 x1 x2 x3 x4 : Statement (.vins x0 x1 x2 x3 x4) := ⟨fun _ h => Option.some.inj h ▸ (by decide), fun h => nomatch h⟩
theorem viota x0 x1 : Statement (.viota x0 x1) := ⟨fun _ h => Option.some.inj h ▸ (by decide), fun h => nomatch h⟩
theorem vsumx x0 x1 x2 x3 : Statement (.vsumx x0 x1 x2 x3) := ⟨fun _ h => Option.some.inj h ▸ (by decide), fun h => nomatch h⟩
theorem vmaxr x0 x1 x2 x3 : Statement (.vmaxr x0 x1 x2 x3) := ⟨fun _ h => Option.some.inj h ▸ (by decide), fun h => nomatch h⟩
theorem vminr x0 x1 x2 x3 : Statement (.vminr x0 x1 x2 x3) := ⟨fun _ h => Option.some.inj h ▸ (by decide), fun h => nomatch h⟩
theorem vsumi x0 x1 x2 x3 : Statement (.vsumi x0 x1 x2 x3) := ⟨fun _ h => Option.some.inj h ▸ (by decide), fun h => nomatch h⟩
theorem nopIvl : Statement .nopIvl := ⟨fun _ h => Option.some.inj h ▸ (by decide), fun h => nomatch h⟩
theorem qadd x0 x1 x2 x3 : Statement (.qadd x0 x1 x2 x3) := ⟨fun _ h => Option.some.inj h ▸ (by decide), fun h => nomatch h⟩
theorem qsub x0 x1 x2 x3 : Statement (.qsub x0 x1 x2 x3) := ⟨fun _ h => Option.some.inj h ▸ (by decide), fun h => nomatch h⟩
theorem qmul x0 x1 x2 x3 : Statement (.qmul x0 x1 x2 x3) := ⟨fun _ h => Option.some.inj h ▸ (by decide), fun h => nomatch h⟩
theorem qfma x0 x1 x2 x3 x4 : Statement (.qfma x0 x1 x2 x3 x4) := ⟨fun _ h => Option.some.inj h ▸ (by decide), fun h => nomatch h⟩
theorem qdiv x0 x1 x2 x3 : Statement (.qdiv x0 x1 x2 x3) := ⟨fun _ h => Option.some.inj h ▸ (by decide), fun h => nomatch h⟩
theorem qsqr x0 x1 x2 : Statement (.qsqr x0 x1 x2) := ⟨fun _ h => Option.some.inj h ▸ (by decide), fun h => nomatch h⟩
theorem qsqrt x0 x1 x2 : Statement (.qsqrt x0 x1 x2) := ⟨fun _ h => Option.some.inj h ▸ (by decide), fun h => nomatch h⟩
theorem qrelu x0 x1 x2 : Statement (.qrelu x0 x1 x2) := ⟨fun _ h => Option.some.inj h ▸ (by decide), fun h => nomatch h⟩
theorem qmax x0 x1 x2 x3 : Statement (.qmax x0 x1 x2 x3) := ⟨fun _ h => Option.some.inj h ▸ (by decide), fun h => nomatch h⟩
theorem qmin x0 x1 x2 x3 : Statement (.qmin x0 x1 x2 x3) := ⟨fun _ h => Option.some.inj h ▸ (by decide), fun h => nomatch h⟩
theorem qneg x0 x1 x2 : Statement (.qneg x0 x1 x2) := ⟨fun _ h => Option.some.inj h ▸ (by decide), fun h => nomatch h⟩
theorem qabs x0 x1 x2 : Statement (.qabs x0 x1 x2) := ⟨fun _ h => Option.some.inj h ▸ (by decide), fun h => nomatch h⟩
theorem qexp x0 x1 x2 : Statement (.qexp x0 x1 x2) := ⟨fun _ h => Option.some.inj h ▸ (by decide), fun h => nomatch h⟩
theorem qmeet x0 x1 x2 x3 : Statement (.qmeet x0 x1 x2 x3) := ⟨fun _ h => Option.some.inj h ▸ (by decide), fun h => nomatch h⟩
theorem qhull x0 x1 x2 x3 : Statement (.qhull x0 x1 x2 x3) := ⟨fun _ h => Option.some.inj h ▸ (by decide), fun h => nomatch h⟩
theorem qmid x0 x1 x2 : Statement (.qmid x0 x1 x2) := ⟨fun _ h => Option.some.inj h ▸ (by decide), fun h => nomatch h⟩
theorem qwid x0 x1 x2 : Statement (.qwid x0 x1 x2) := ⟨fun _ h => Option.some.inj h ▸ (by decide), fun h => nomatch h⟩
theorem qbis x0 x1 x2 : Statement (.qbis x0 x1 x2) := ⟨fun _ h => Option.some.inj h ▸ (by decide), fun h => nomatch h⟩
theorem qmake x0 x1 x2 x3 x4 : Statement (.qmake x0 x1 x2 x3 x4) := ⟨fun _ h => Option.some.inj h ▸ (by decide), fun h => nomatch h⟩
theorem qpoint x0 x1 x2 x3 : Statement (.qpoint x0 x1 x2 x3) := ⟨fun _ h => Option.some.inj h ▸ (by decide), fun h => nomatch h⟩
theorem qlo x0 x1 x2 x3 : Statement (.qlo x0 x1 x2 x3) := ⟨fun _ h => Option.some.inj h ▸ (by decide), fun h => nomatch h⟩
theorem qhi x0 x1 x2 x3 : Statement (.qhi x0 x1 x2 x3) := ⟨fun _ h => Option.some.inj h ▸ (by decide), fun h => nomatch h⟩
theorem qent x0 x1 : Statement (.qent x0 x1) := ⟨fun _ h => Option.some.inj h ▸ (by decide), fun h => nomatch h⟩
theorem qemp x0 x1 : Statement (.qemp x0 x1) := ⟨fun _ h => Option.some.inj h ▸ (by decide), fun h => nomatch h⟩
theorem qbca x0 x1 x2 : Statement (.qbca x0 x1 x2) := ⟨fun _ h => Option.some.inj h ▸ (by decide), fun h => nomatch h⟩
theorem qcmp x0 x1 x2 x3 x4 : Statement (.qcmp x0 x1 x2 x3 x4) := ⟨fun _ h => Option.some.inj h ▸ (by decide), fun h => nomatch h⟩
theorem qtest x0 x1 x2 x3 x4 : Statement (.qtest x0 x1 x2 x3 x4) := ⟨fun _ h => Option.some.inj h ▸ (by decide), fun h => nomatch h⟩
theorem qaddC x0 x1 x2 x3 : Statement (.qaddC x0 x1 x2 x3) := ⟨fun _ h => Option.some.inj h ▸ (by decide), fun h => nomatch h⟩
theorem qsubC x0 x1 x2 x3 : Statement (.qsubC x0 x1 x2 x3) := ⟨fun _ h => Option.some.inj h ▸ (by decide), fun h => nomatch h⟩
theorem qmulC x0 x1 x2 x3 : Statement (.qmulC x0 x1 x2 x3) := ⟨fun _ h => Option.some.inj h ▸ (by decide), fun h => nomatch h⟩
theorem qfmaC x0 x1 x2 x3 x4 : Statement (.qfmaC x0 x1 x2 x3 x4) := ⟨fun _ h => Option.some.inj h ▸ (by decide), fun h => nomatch h⟩
theorem qsqrC x0 x1 x2 : Statement (.qsqrC x0 x1 x2) := ⟨fun _ h => Option.some.inj h ▸ (by decide), fun h => nomatch h⟩
theorem qreluC x0 x1 x2 : Statement (.qreluC x0 x1 x2) := ⟨fun _ h => Option.some.inj h ▸ (by decide), fun h => nomatch h⟩
theorem qmaxC x0 x1 x2 x3 : Statement (.qmaxC x0 x1 x2 x3) := ⟨fun _ h => Option.some.inj h ▸ (by decide), fun h => nomatch h⟩
theorem qexpC x0 x1 x2 : Statement (.qexpC x0 x1 x2) := ⟨fun _ h => Option.some.inj h ▸ (by decide), fun h => nomatch h⟩
theorem qleC x0 x1 x2 : Statement (.qleC x0 x1 x2) := ⟨fun _ h => Option.some.inj h ▸ (by decide), fun h => nomatch h⟩
theorem qstat x0 x1 x2 : Statement (.qstat x0 x1 x2) := ⟨fun _ h => Option.some.inj h ▸ (by decide), fun h => nomatch h⟩
theorem nopMem : Statement .nopMem := ⟨fun _ h => Option.some.inj h ▸ (by decide), fun h => nomatch h⟩
theorem ldsV x0 x1 x2 x3 : Statement (.ldsV x0 x1 x2 x3) := ⟨fun _ h => Option.some.inj h ▸ (by decide), fun h => nomatch h⟩
theorem stsV x0 x1 x2 x3 : Statement (.stsV x0 x1 x2 x3) := ⟨fun _ h => Option.some.inj h ▸ (by decide), fun h => nomatch h⟩
theorem ldsQ x0 x1 x2 x3 : Statement (.ldsQ x0 x1 x2 x3) := ⟨fun _ h => Option.some.inj h ▸ (by decide), fun h => nomatch h⟩
theorem stsQ x0 x1 x2 x3 : Statement (.stsQ x0 x1 x2 x3) := ⟨fun _ h => Option.some.inj h ▸ (by decide), fun h => nomatch h⟩
theorem ldsK x0 x1 x2 x3 : Statement (.ldsK x0 x1 x2 x3) := ⟨fun _ h => Option.some.inj h ▸ (by decide), fun h => nomatch h⟩
theorem stsK x0 x1 x2 x3 : Statement (.stsK x0 x1 x2 x3) := ⟨fun _ h => Option.some.inj h ▸ (by decide), fun h => nomatch h⟩
theorem ldsA x0 x1 x2 x3 : Statement (.ldsA x0 x1 x2 x3) := ⟨fun _ h => Option.some.inj h ▸ (by decide), fun h => nomatch h⟩
theorem stsA x0 x1 x2 x3 : Statement (.stsA x0 x1 x2 x3) := ⟨fun _ h => Option.some.inj h ▸ (by decide), fun h => nomatch h⟩
theorem ldsVx x0 x1 x2 x3 : Statement (.ldsVx x0 x1 x2 x3) := ⟨fun _ h => Option.some.inj h ▸ (by decide), fun h => nomatch h⟩
theorem stsVx x0 x1 x2 x3 : Statement (.stsVx x0 x1 x2 x3) := ⟨fun _ h => Option.some.inj h ▸ (by decide), fun h => nomatch h⟩
theorem ldgA x0 x1 x2 x3 x4 : Statement (.ldgA x0 x1 x2 x3 x4) := ⟨fun _ h => Option.some.inj h ▸ (by decide), fun h => nomatch h⟩
theorem stgA x0 x1 x2 x3 x4 : Statement (.stgA x0 x1 x2 x3 x4) := ⟨fun _ h => Option.some.inj h ▸ (by decide), fun h => nomatch h⟩
theorem ldgV x0 x1 x2 x3 x4 : Statement (.ldgV x0 x1 x2 x3 x4) := ⟨fun _ h => Option.some.inj h ▸ (by decide), fun h => nomatch h⟩
theorem stgV x0 x1 x2 x3 x4 : Statement (.stgV x0 x1 x2 x3 x4) := ⟨fun _ h => Option.some.inj h ▸ (by decide), fun h => nomatch h⟩
theorem ldgK x0 x1 x2 x3 x4 : Statement (.ldgK x0 x1 x2 x3 x4) := ⟨fun _ h => Option.some.inj h ▸ (by decide), fun h => nomatch h⟩
theorem ldgKN x0 x1 x2 x3 x4 : Statement (.ldgKN x0 x1 x2 x3 x4) := ⟨fun _ h => Option.some.inj h ▸ (by decide), fun h => nomatch h⟩
theorem aadd x0 x1 x2 x3 x4 : Statement (.aadd x0 x1 x2 x3 x4) := ⟨fun _ h => Option.some.inj h ▸ (by decide), fun h => nomatch h⟩
theorem amax x0 x1 x2 x3 x4 : Statement (.amax x0 x1 x2 x3 x4) := ⟨fun _ h => Option.some.inj h ▸ (by decide), fun h => nomatch h⟩
theorem amin x0 x1 x2 x3 x4 : Statement (.amin x0 x1 x2 x3 x4) := ⟨fun _ h => Option.some.inj h ▸ (by decide), fun h => nomatch h⟩
theorem axch x0 x1 x2 x3 x4 : Statement (.axch x0 x1 x2 x3 x4) := ⟨fun _ h => Option.some.inj h ▸ (by decide), fun h => nomatch h⟩
theorem acas x0 x1 x2 x3 x4 : Statement (.acas x0 x1 x2 x3 x4) := ⟨fun _ h => Option.some.inj h ▸ (by decide), fun h => nomatch h⟩
theorem amaxf x0 x1 x2 x3 x4 : Statement (.amaxf x0 x1 x2 x3 x4) := ⟨fun _ h => Option.some.inj h ▸ (by decide), fun h => nomatch h⟩
theorem amaxrst x0 x1 x2 x3 : Statement (.amaxrst x0 x1 x2 x3) := ⟨fun _ h => Option.some.inj h ▸ (by decide), fun h => nomatch h⟩
theorem xadd x0 x1 x2 : Statement (.xadd x0 x1 x2) := ⟨fun _ h => Option.some.inj h ▸ (by decide), fun h => nomatch h⟩
theorem xaddv x0 x1 x2 : Statement (.xaddv x0 x1 x2) := ⟨fun _ h => Option.some.inj h ▸ (by decide), fun h => nomatch h⟩
theorem xrd x0 x1 x2 x3 : Statement (.xrd x0 x1 x2 x3) := ⟨fun _ h => Option.some.inj h ▸ (by decide), fun h => nomatch h⟩
theorem xrdv x0 x1 x2 x3 : Statement (.xrdv x0 x1 x2 x3) := ⟨fun _ h => Option.some.inj h ▸ (by decide), fun h => nomatch h⟩
theorem xclr x0 x1 x2 : Statement (.xclr x0 x1 x2) := ⟨fun _ h => Option.some.inj h ▸ (by decide), fun h => nomatch h⟩
theorem fenceAcq x0 x1 : Statement (.fenceAcq x0 x1) := ⟨fun _ h => Option.some.inj h ▸ (by decide), fun h => nomatch h⟩
theorem fenceRel x0 x1 : Statement (.fenceRel x0 x1) := ⟨fun _ h => Option.some.inj h ▸ (by decide), fun h => nomatch h⟩
theorem fenceFull x0 x1 : Statement (.fenceFull x0 x1) := ⟨fun _ h => Option.some.inj h ▸ (by decide), fun h => nomatch h⟩
theorem push x0 x1 x2 : Statement (.push x0 x1 x2) := ⟨fun _ h => Option.some.inj h ▸ (by decide), fun h => nomatch h⟩
theorem pusht x0 x1 x2 x3 : Statement (.pusht x0 x1 x2 x3) := ⟨fun _ h => Option.some.inj h ▸ (by decide), fun h => nomatch h⟩
theorem pushqw x0 x1 x2 x3 : Statement (.pushqw x0 x1 x2 x3) := ⟨fun _ h => Option.some.inj h ▸ (by decide), fun h => nomatch h⟩
theorem pop x0 x1 x2 : Statement (.pop x0 x1 x2) := ⟨fun _ h => Option.some.inj h ▸ (by decide), fun h => nomatch h⟩
theorem pushr x0 x1 x2 : Statement (.pushr x0 x1 x2) := ⟨fun _ h => Option.some.inj h ▸ (by decide), fun h => nomatch h⟩
theorem popr x0 x1 x2 : Statement (.popr x0 x1 x2) := ⟨fun _ h => Option.some.inj h ▸ (by decide), fun h => nomatch h⟩
theorem cbinv x0 x1 : Statement (.cbinv x0 x1) := ⟨fun _ h => Option.some.inj h ▸ (by decide), fun h => nomatch h⟩
theorem nopMtx : Statement .nopMtx := ⟨fun _ h => Option.some.inj h ▸ (by decide), fun h => nomatch h⟩
theorem claim x0 x1 : Statement (.claim x0 x1) := ⟨fun _ h => Option.some.inj h ▸ (by decide), fun h => nomatch h⟩
theorem release x0 : Statement (.release x0) := ⟨fun _ h => Option.some.inj h ▸ (by decide), fun h => nomatch h⟩
theorem ldw x0 x1 x2 : Statement (.ldw x0 x1 x2) := ⟨fun _ h => Option.some.inj h ▸ (by decide), fun h => nomatch h⟩
theorem swpw : Statement .swpw := ⟨fun _ h => Option.some.inj h ▸ (by decide), fun h => nomatch h⟩
theorem acc x0 x1 x2 x3 : Statement (.acc x0 x1 x2 x3) := ⟨fun _ h => Option.some.inj h ▸ (by decide), fun h => nomatch h⟩
theorem accz x0 x1 x2 x3 : Statement (.accz x0 x1 x2 x3) := ⟨fun _ h => Option.some.inj h ▸ (by decide), fun h => nomatch h⟩
theorem drain x0 x1 x2 x3 x4 : Statement (.drain x0 x1 x2 x3 x4) := ⟨fun _ h => Option.some.inj h ▸ (by decide), fun h => nomatch h⟩
theorem drainF32 x0 x1 x2 : Statement (.drainF32 x0 x1 x2) := ⟨fun _ h => Option.some.inj h ▸ (by decide), fun h => nomatch h⟩
theorem nopCpy : Statement .nopCpy := ⟨fun _ h => Option.some.inj h ▸ (by decide), fun h => nomatch h⟩
theorem cg2s x0 x1 x2 x3 : Statement (.cg2s x0 x1 x2 x3) := ⟨fun _ h => Option.some.inj h ▸ (by decide), fun h => nomatch h⟩
theorem cg2sDc x0 x1 x2 : Statement (.cg2sDc x0 x1 x2) := ⟨fun _ h => Option.some.inj h ▸ (by decide), fun h => nomatch h⟩
theorem cs2g x0 x1 x2 x3 : Statement (.cs2g x0 x1 x2 x3) := ⟨fun _ h => Option.some.inj h ▸ (by decide), fun h => nomatch h⟩
theorem cs2gDc x0 x1 x2 : Statement (.cs2gDc x0 x1 x2) := ⟨fun _ h => Option.some.inj h ▸ (by decide), fun h => nomatch h⟩
theorem cg2o x0 x1 x2 x3 : Statement (.cg2o x0 x1 x2 x3) := ⟨fun _ h => Option.some.inj h ▸ (by decide), fun h => nomatch h⟩
theorem cs2o x0 x1 x2 x3 : Statement (.cs2o x0 x1 x2 x3) := ⟨fun _ h => Option.some.inj h ▸ (by decide), fun h => nomatch h⟩
theorem cg2g x0 x1 x2 x3 : Statement (.cg2g x0 x1 x2 x3) := ⟨fun _ h => Option.some.inj h ▸ (by decide), fun h => nomatch h⟩
theorem cg2gDc x0 x1 x2 : Statement (.cg2gDc x0 x1 x2) := ⟨fun _ h => Option.some.inj h ▸ (by decide), fun h => nomatch h⟩
theorem cxred x0 x1 x2 x3 : Statement (.cxred x0 x1 x2 x3) := ⟨fun _ h => Option.some.inj h ▸ (by decide), fun h => nomatch h⟩
theorem cxredDc x0 x1 x2 : Statement (.cxredDc x0 x1 x2) := ⟨fun _ h => Option.some.inj h ▸ (by decide), fun h => nomatch h⟩
theorem tset x0 x1 : Statement (.tset x0 x1) := ⟨fun _ h => Option.some.inj h ▸ (by decide), fun h => nomatch h⟩
theorem tdrain x0 x1 : Statement (.tdrain x0 x1) := ⟨fun _ h => Option.some.inj h ▸ (by decide), fun h => nomatch h⟩
theorem gidx x0 : Statement (.gidx x0) := ⟨fun _ h => Option.some.inj h ▸ (by decide), fun h => nomatch h⟩
theorem gather x0 x1 x2 x3 : Statement (.gather x0 x1 x2 x3) := ⟨fun _ h => Option.some.inj h ▸ (by decide), fun h => nomatch h⟩
theorem gend : Statement .gend := ⟨fun _ h => Option.some.inj h ▸ (by decide), fun h => nomatch h⟩
theorem loadLanding x0 x1 : Statement (.loadLanding x0 x1) := ⟨fun _ h => (nomatch h), fun _ => ⟨rfl, rfl⟩⟩
theorem writeDrained x0 x1 : Statement (.writeDrained x0 x1) := ⟨fun _ h => (nomatch h), fun _ => ⟨rfl, rfl⟩⟩
theorem divRemWrite x0 x1 : Statement (.divRemWrite x0 x1) := ⟨fun _ h => (nomatch h), fun _ => ⟨rfl, rfl⟩⟩
theorem scatterGatherDone x0 x1 : Statement (.scatterGatherDone x0 x1) := ⟨fun _ h => (nomatch h), fun _ => ⟨rfl, rfl⟩⟩
theorem copySectorLands x0 x1 x2 : Statement (.copySectorLands x0 x1 x2) := ⟨fun _ h => (nomatch h), fun _ => ⟨rfl, rfl⟩⟩
theorem gatherRowLands x0 x1 : Statement (.gatherRowLands x0 x1) := ⟨fun _ h => (nomatch h), fun _ => ⟨rfl, rfl⟩⟩
theorem pageWalk x0 x1 x2 : Statement (.pageWalk x0 x1 x2) := ⟨fun _ h => (nomatch h), fun _ => ⟨rfl, rfl⟩⟩
theorem pageResponse x0 x1 x2 x3 : Statement (.pageResponse x0 x1 x2 x3) := ⟨fun _ h => (nomatch h), fun _ => ⟨rfl, rfl⟩⟩
theorem overlayLoaded x0 : Statement (.overlayLoaded x0) := ⟨fun _ h => (nomatch h), fun _ => ⟨rfl, rfl⟩⟩
theorem overlayPrefetch x0 x1 : Statement (.overlayPrefetch x0 x1) := ⟨fun _ h => (nomatch h), fun _ => ⟨rfl, rfl⟩⟩
theorem park x0 : Statement (.park x0) := ⟨fun _ h => (nomatch h), fun _ => ⟨rfl, rfl⟩⟩
theorem budgetovr x0 : Statement (.budgetovr x0) := ⟨fun _ h => (nomatch h), fun _ => ⟨rfl, rfl⟩⟩
theorem barrierRestart x0 : Statement (.barrierRestart x0) := ⟨fun _ h => (nomatch h), fun _ => ⟨rfl, rfl⟩⟩
theorem enginesEmpty x0 : Statement (.enginesEmpty x0) := ⟨fun _ h => (nomatch h), fun _ => ⟨rfl, rfl⟩⟩
theorem dispatch x0 : Statement (.dispatch x0) := ⟨fun _ h => (nomatch h), fun _ => ⟨rfl, rfl⟩⟩
theorem gangDispatch x0 x1 : Statement (.gangDispatch x0 x1) := ⟨fun _ h => (nomatch h), fun _ => ⟨rfl, rfl⟩⟩
theorem spawnAcceptance x0 : Statement (.spawnAcceptance x0) := ⟨fun _ h => (nomatch h), fun _ => ⟨rfl, rfl⟩⟩
theorem queueDelivery x0 x1 : Statement (.queueDelivery x0 x1) := ⟨fun _ h => (nomatch h), fun _ => ⟨rfl, rfl⟩⟩
theorem entryReturn x0 x1 : Statement (.entryReturn x0 x1) := ⟨fun _ h => (nomatch h), fun _ => ⟨rfl, rfl⟩⟩
theorem hearthQnew x0 : Statement (.hearthQnew x0) := ⟨fun _ h => (nomatch h), fun _ => ⟨rfl, rfl⟩⟩
theorem hearthBorrow x0 : Statement (.hearthBorrow x0) := ⟨fun _ h => (nomatch h), fun _ => ⟨rfl, rfl⟩⟩
theorem hearthReturn x0 : Statement (.hearthReturn x0) := ⟨fun _ h => (nomatch h), fun _ => ⟨rfl, rfl⟩⟩
theorem hearthQwait x0 : Statement (.hearthQwait x0) := ⟨fun _ h => (nomatch h), fun _ => ⟨rfl, rfl⟩⟩
theorem queueWindowWrite x0 x1 x2 : Statement (.queueWindowWrite x0 x1 x2) := ⟨fun _ h => (nomatch h), fun _ => ⟨rfl, rfl⟩⟩
theorem bindpasid x0 : Statement (.bindpasid x0) := ⟨fun _ h => (nomatch h), fun _ => ⟨rfl, rfl⟩⟩
theorem preempt x0 : Statement (.preempt x0) := ⟨fun _ h => (nomatch h), fun _ => ⟨rfl, rfl⟩⟩
theorem preemptHalt x0 : Statement (.preemptHalt x0) := ⟨fun _ h => (nomatch h), fun _ => ⟨rfl, rfl⟩⟩
theorem preemptCompletion : Statement .preemptCompletion := ⟨fun _ h => (nomatch h), fun _ => ⟨rfl, rfl⟩⟩
theorem inval x0 : Statement (.inval x0) := ⟨fun _ h => (nomatch h), fun _ => ⟨rfl, rfl⟩⟩
theorem qmode x0 : Statement (.qmode x0) := ⟨fun _ h => (nomatch h), fun _ => ⟨rfl, rfl⟩⟩
theorem descinv x0 : Statement (.descinv x0) := ⟨fun _ h => (nomatch h), fun _ => ⟨rfl, rfl⟩⟩
theorem temper x0 : Statement (.temper x0) := ⟨fun _ h => (nomatch h), fun _ => ⟨rfl, rfl⟩⟩
theorem route x0 : Statement (.route x0) := ⟨fun _ h => (nomatch h), fun _ => ⟨rfl, rfl⟩⟩
theorem attest x0 : Statement (.attest x0) := ⟨fun _ h => (nomatch h), fun _ => ⟨rfl, rfl⟩⟩
theorem fring x0 : Statement (.fring x0) := ⟨fun _ h => (nomatch h), fun _ => ⟨rfl, rfl⟩⟩
theorem kill x0 : Statement (.kill x0) := ⟨fun _ h => (nomatch h), fun _ => ⟨rfl, rfl⟩⟩
theorem reset x0 : Statement (.reset x0) := ⟨fun _ h => (nomatch h), fun _ => ⟨rfl, rfl⟩⟩
theorem elog x0 : Statement (.elog x0) := ⟨fun _ h => (nomatch h), fun _ => ⟨rfl, rfl⟩⟩
theorem badcmd x0 : Statement (.badcmd x0) := ⟨fun _ h => (nomatch h), fun _ => ⟨rfl, rfl⟩⟩
theorem frp x0 : Statement (.frp x0) := ⟨fun _ h => (nomatch h), fun _ => ⟨rfl, rfl⟩⟩
theorem erp x0 : Statement (.erp x0) := ⟨fun _ h => (nomatch h), fun _ => ⟨rfl, rfl⟩⟩
theorem registerWrite x0 x1 : Statement (.registerWrite x0 x1) := ⟨fun _ h => (nomatch h), fun _ => ⟨rfl, rfl⟩⟩
theorem dstat x0 x1 : Statement (.dstat x0 x1) := ⟨fun _ h => (nomatch h), fun _ => ⟨rfl, rfl⟩⟩
theorem debugStopRequest x0 : Statement (.debugStopRequest x0) := ⟨fun _ h => (nomatch h), fun _ => ⟨rfl, rfl⟩⟩
theorem debugResume x0 : Statement (.debugResume x0) := ⟨fun _ h => (nomatch h), fun _ => ⟨rfl, rfl⟩⟩
theorem debuggerRegisterWrite x0 x1 x2 : Statement (.debuggerRegisterWrite x0 x1 x2) := ⟨fun _ h => (nomatch h), fun _ => ⟨rfl, rfl⟩⟩
theorem debugMemoryAccess x0 x1 : Statement (.debugMemoryAccess x0 x1) := ⟨fun _ h => (nomatch h), fun _ => ⟨rfl, rfl⟩⟩
theorem sampleRecord x0 : Statement (.sampleRecord x0) := ⟨fun _ h => (nomatch h), fun _ => ⟨rfl, rfl⟩⟩
theorem spdmRequest x0 : Statement (.spdmRequest x0) := ⟨fun _ h => (nomatch h), fun _ => ⟨rfl, rfl⟩⟩
theorem hostMemoryAccess x0 x1 : Statement (.hostMemoryAccess x0 x1) := ⟨fun _ h => (nomatch h), fun _ => ⟨rfl, rfl⟩⟩
theorem peerRequest x0 x1 : Statement (.peerRequest x0 x1) := ⟨fun _ h => (nomatch h), fun _ => ⟨rfl, rfl⟩⟩
theorem boot : Statement .boot := ⟨fun _ h => (nomatch h), fun _ => ⟨rfl, rfl⟩⟩
theorem functionLevelReset : Statement .functionLevelReset := ⟨fun _ h => (nomatch h), fun _ => ⟨rfl, rfl⟩⟩
theorem temperTick : Statement .temperTick := ⟨fun _ h => (nomatch h), fun _ => ⟨rfl, rfl⟩⟩
theorem boostStep x0 : Statement (.boostStep x0) := ⟨fun _ h => (nomatch h), fun _ => ⟨rfl, rfl⟩⟩
theorem patrolScrub x0 x1 : Statement (.patrolScrub x0 x1) := ⟨fun _ h => (nomatch h), fun _ => ⟨rfl, rfl⟩⟩
theorem flitCrcRetry x0 : Statement (.flitCrcRetry x0) := ⟨fun _ h => (nomatch h), fun _ => ⟨rfl, rfl⟩⟩
theorem linkRetrain x0 : Statement (.linkRetrain x0) := ⟨fun _ h => (nomatch h), fun _ => ⟨rfl, rfl⟩⟩
theorem portDown x0 : Statement (.portDown x0) := ⟨fun _ h => (nomatch h), fun _ => ⟨rfl, rfl⟩⟩
theorem portUp x0 : Statement (.portUp x0) := ⟨fun _ h => (nomatch h), fun _ => ⟨rfl, rfl⟩⟩
theorem registerStateLost x0 : Statement (.registerStateLost x0) := ⟨fun _ h => (nomatch h), fun _ => ⟨rfl, rfl⟩⟩
theorem coreLogicError x0 : Statement (.coreLogicError x0) := ⟨fun _ h => (nomatch h), fun _ => ⟨rfl, rfl⟩⟩
theorem fabricError x0 : Statement (.fabricError x0) := ⟨fun _ h => (nomatch h), fun _ => ⟨rfl, rfl⟩⟩
theorem unassignedEncoding x0 x1 x2 : Statement (.unassignedEncoding x0 x1 x2) := ⟨fun _ h => (nomatch h), fun _ => ⟨rfl, rfl⟩⟩
theorem evictionCompletes x0 : Statement (.evictionCompletes x0) := ⟨fun _ h => (nomatch h), fun _ => ⟨rfl, rfl⟩⟩
theorem imageRestored x0 : Statement (.imageRestored x0) := ⟨fun _ h => (nomatch h), fun _ => ⟨rfl, rfl⟩⟩

end Sys2Proof.Laws.Slot
end

