-- ==== Sys2Proof/Laws/Reach.lean ====
section
/-! SUPPORT. What a read or write by the device itself can change (R72, R73, R262): the A and D bits in memory, with the poison marks
of what it writes whole, translations and page requests. -/

namespace Sys2Proof.Machine

/-- The same state but for memory, its marks and translation. -/
def State.SameButWalks (s u : State) : Prop := ∃ mem poison mmu, u = { s with mem := mem, poison := poison, mmu := mmu }

namespace State.SameButWalks

theorem rfl' (s : State) : s.SameButWalks s := ⟨_, _, _, rfl⟩

theorem trans {s u v : State} (h : s.SameButWalks u) (k : u.SameButWalks v) : s.SameButWalks v := by
  obtain ⟨_, _, _, rfl⟩ := h
  obtain ⟨_, _, _, rfl⟩ := k
  exact ⟨_, _, _, rfl⟩

theorem live {s u : State} (h : s.SameButWalks u) : u.live = s.live := by obtain ⟨_, _, _, rfl⟩ := h; rfl
theorem issue {s u : State} (h : s.SameButWalks u) : u.issue = s.issue := by obtain ⟨_, _, _, rfl⟩ := h; rfl
theorem mcc {s u : State} (h : s.SameButWalks u) : u.mcc = s.mcc := by obtain ⟨_, _, _, rfl⟩ := h; rfl
theorem core {s u : State} (h : s.SameButWalks u) : u.core = s.core := by obtain ⟨_, _, _, rfl⟩ := h; rfl
theorem uid {s u : State} (h : s.SameButWalks u) : u.uid = s.uid := by obtain ⟨_, _, _, rfl⟩ := h; rfl

end State.SameButWalks

theorem State.requestPage_frame (s : State) (w : Agent) (va : Nat) (kind : AccKind) (perm : Bool) :
    s.SameButWalks (s.requestPage w va kind perm) := by
  unfold State.requestPage
  dsimp only
  split <;> exact ⟨_, _, _, rfl⟩

theorem State.dropRequest_frame (s : State) (r : PageReq) : s.SameButWalks (s.dropRequest r) := ⟨_, _, _, rfl⟩

theorem State.tell_frame (s : State) (r : PageReq) (to_ : List Reader) (e : Option (Byte × Byte)) : s.SameButWalks (s.tell r to_ e) :=
  ⟨_, _, _, rfl⟩

theorem State.forget_frame (s : State) (r : Reader) : s.SameButWalks (s.forget r) := ⟨_, _, _, rfl⟩

/-- A reader whose read is over has learned nothing. -/
theorem State.forget_verdictOn (s : State) (w : Agent) (va : Nat) (kind : AccKind) : (s.forget w.reader).verdictOn w va kind = none := by
  simp [State.forget, State.verdictOn, Heard.isFor]
  intro h _ hr e
  exact absurd e hr

/-- A read that has found its page has learned nothing more of it. -/
theorem State.reachDone_verdictOn (s : State) (w : Agent) (va : Nat) (kind : AccKind) :
    (s.reachDone w va kind).verdictOn w va kind = none := by
  simp [State.reachDone, State.verdictOn]

theorem State.reachFails_frame (s : State) (w : Agent) (va : Nat) (kind : AccKind) (perm : Bool) :
    s.SameButWalks (s.reachFails w va kind perm).1 := by
  unfold State.reachFails
  split
  · exact .rfl' s
  · split
    · exact .rfl' s
    · split
      · exact .rfl' s
      · exact s.requestPage_frame ..

theorem State.reach_frame (s : State) (w : Agent) (va : Nat) (kind : AccKind) : s.SameButWalks (s.reach w va kind).1 := by
  unfold State.reach
  split
  · exact ⟨_, _, _, rfl⟩
  · split
    · exact .rfl' s
    · split
      · exact .rfl' s
      · split
        · exact .rfl' s
        · exact .rfl' s
        · exact .rfl' s
        · exact s.reachFails_frame ..
        · exact s.reachFails_frame ..
        · exact ⟨_, _, _, rfl⟩

theorem State.reachOpen_frame (s : State) (w : Agent) (va : Nat) (kind : AccKind) : s.SameButWalks (s.reachOpen w va kind).1 := by
  have h := s.reach_frame w va kind
  unfold State.reachOpen
  split
  · rename_i heq
    rw [heq] at h
    split <;> exact h
  · exact h

theorem State.reachPages_frame (s : State) (w : Agent) (kind : AccKind) (vas : List Nat) : s.SameButWalks (s.reachPages w kind vas).1 := by
  induction vas generalizing s with
  | nil => exact .rfl' s
  | cons va t ih =>
    have h := s.reachOpen_frame w va kind
    unfold State.reachPages
    split
    · rename_i heq; rw [heq] at h; exact h
    · rename_i heq; rw [heq] at h; exact h
    · rename_i u key heq
      rw [heq] at h
      have h' := h.trans (ih u)
      split
      · rename_i heq'; rw [heq'] at h'; exact h'
      · exact h'

theorem State.takeAfresh_frame (s : State) (w : Agent) (va line : Nat) : s.SameButWalks (s.takeAfresh w va line) := by
  unfold State.takeAfresh
  dsimp only
  split
  · exact ⟨_, _, _, rfl⟩
  · exact .rfl' s

theorem State.readTable_frame (s : State) (w : Agent) (va n : Nat) : s.SameButWalks (s.readTable w va n).1 := by
  have h := s.reachOpen_frame w va .read
  unfold State.readTable
  split
  · rename_i heq
    rw [heq] at h
    exact (h.trans (State.takeAfresh_frame ..)).trans ⟨_, _, _, rfl⟩
  · rename_i heq
    rw [heq] at h
    exact h

theorem State.nameDomain_frame (s : State) (w : Agent) (idx : Nat) : s.SameButWalks (s.nameDomain w idx).1 := by
  unfold State.nameDomain
  split
  · exact .rfl' s
  · rename_i b _
    have h := s.readTable_frame w (b.qdt.toNat + 8 * idx) 8
    dsimp only
    split
    · rename_i heq; rw [heq] at h; exact h
    · rename_i heq; rw [heq] at h; exact h
    · rename_i u k va heq
      rw [heq] at h
      split
      · exact h
      · have h' := h.trans (u.reach_frame w va .write)
        split
        · rename_i heq'
          rw [heq'] at h'
          split
          · exact h'
          · split
            · exact h'
            · split <;> exact h'
        · rename_i heq'; rw [heq'] at h'; exact h'
        · rename_i heq'; rw [heq'] at h'; exact h'

end Sys2Proof.Machine
end

