-- ==== Sys2Proof/Laws/Sets.lean ====
section
/-! SUPPORT. Finite sets of integers: what each operation over runs has for members, bounds of a set, and the members of a hull. -/

namespace Sys2Proof.Machine

/-! ### Runs -/

/-- Runs that are not empty, rise, and leave a gap between each other. -/
def Runs.Ok : Runs → Prop
  | [] => True
  | (a, b) :: t => a ≤ b ∧ (∀ r ∈ t, b + 1 < r.1) ∧ Runs.Ok t

theorem Runs.mem_iff {x : Int} {rs : Runs} : Runs.mem x rs = true ↔ ∃ r ∈ rs, r.1 ≤ x ∧ x ≤ r.2 := by
  simp [Runs.mem, List.any_eq_true]

@[simp] theorem Runs.mem_nil (x : Int) : Runs.mem x [] = false := rfl

theorem Runs.mem_cons {x : Int} {r : Int × Int} {rs : Runs} :
    Runs.mem x (r :: rs) = true ↔ (r.1 ≤ x ∧ x ≤ r.2) ∨ Runs.mem x rs = true := by
  simp [Runs.mem]

theorem Runs.mem_add {x l h : Int} {rs : Runs} (hl : l ≤ h) (ok : Runs.Ok rs) :
    Runs.mem x (Runs.add l h rs) = true ↔ (l ≤ x ∧ x ≤ h) ∨ Runs.mem x rs = true := by
  induction rs generalizing l h with
  | nil => simp [Runs.add, Runs.mem]
  | cons r t ih =>
    obtain ⟨a, b⟩ := r
    obtain ⟨h1, h2, h3⟩ := ok
    simp only [Runs.add]
    split
    · rw [Runs.mem_cons]
    · split
      · rw [Runs.mem_cons, ih hl h3, Runs.mem_cons]; tauto
      · rw [ih (by omega) h3, Runs.mem_cons]
        constructor
        · rintro (k | k)
          · have : (l ≤ x ∧ x ≤ h) ∨ (a ≤ x ∧ x ≤ b) := by omega
            tauto
          · tauto
        · rintro (k | k | k)
          · left; omega
          · left; simp only at k; omega
          · right; exact k

/-- The low end of every run of a union lies at or above both. -/
theorem Runs.add_low {c l h : Int} {rs : Runs} (hc : c < l) (hr : ∀ r ∈ rs, c < r.1) : ∀ r ∈ Runs.add l h rs, c < r.1 := by
  induction rs generalizing l h with
  | nil => simp [Runs.add]; exact hc
  | cons r t ih =>
    obtain ⟨a, b⟩ := r
    have ha := hr (a, b) (by simp)
    have ht : ∀ r ∈ t, c < r.1 := fun r h => hr r (by simp [h])
    simp only [Runs.add]
    split
    · intro r hr'
      rcases List.mem_cons.1 hr' with rfl | hr'
      · exact hc
      · exact hr r hr'
    · split
      · intro r hr'
        rcases List.mem_cons.1 hr' with rfl | hr'
        · exact ha
        · exact ih hc ht r hr'
      · exact ih (by simp only at ha; omega) ht

theorem Runs.ok_add {l h : Int} {rs : Runs} (hl : l ≤ h) (ok : Runs.Ok rs) : Runs.Ok (Runs.add l h rs) := by
  induction rs generalizing l h with
  | nil => exact ⟨hl, by simp, trivial⟩
  | cons r t ih =>
    obtain ⟨a, b⟩ := r
    obtain ⟨h1, h2, h3⟩ := ok
    simp only [Runs.add]
    split
    · rename_i hh
      refine ⟨hl, ?_, h1, h2, h3⟩
      intro r hr
      rcases List.mem_cons.1 hr with rfl | hr
      · exact hh
      · have := h2 r hr; omega
    · split
      · rename_i hh
        exact ⟨h1, Runs.add_low hh h2, ih hl h3⟩
      · exact ih (by omega) h3

theorem Runs.of_aux (rs : List (Int × Int)) : ∀ acc : Runs, Runs.Ok acc →
    Runs.Ok (rs.foldl (fun acc r => if r.1 ≤ r.2 then acc.add r.1 r.2 else acc) acc) ∧
    ∀ x, Runs.mem x (rs.foldl (fun acc r => if r.1 ≤ r.2 then acc.add r.1 r.2 else acc) acc) = true ↔
      Runs.mem x acc = true ∨ ∃ r ∈ rs, r.1 ≤ x ∧ x ≤ r.2 := by
  induction rs with
  | nil => intro acc h; exact ⟨h, fun x => by simp⟩
  | cons r t ih =>
    intro acc h
    simp only [List.foldl_cons]
    by_cases hr : r.1 ≤ r.2
    · rw [if_pos hr]
      obtain ⟨h1, h2⟩ := ih _ (Runs.ok_add hr h)
      refine ⟨h1, fun x => ?_⟩
      rw [h2, Runs.mem_add hr h]
      simp only [List.mem_cons, exists_eq_or_imp]
      tauto
    · rw [if_neg hr]
      obtain ⟨h1, h2⟩ := ih _ h
      refine ⟨h1, fun x => ?_⟩
      rw [h2]
      simp only [List.mem_cons, exists_eq_or_imp]
      have : ¬(r.1 ≤ x ∧ x ≤ r.2) := by omega
      tauto

theorem Runs.ok_of (rs : List (Int × Int)) : Runs.Ok (Runs.of rs) := (Runs.of_aux rs [] trivial).1

/-- The members of the union of some runs. -/
theorem Runs.mem_of {x : Int} {rs : List (Int × Int)} : Runs.mem x (Runs.of rs) = true ↔ ∃ r ∈ rs, r.1 ≤ x ∧ x ≤ r.2 := by
  unfold Runs.of
  rw [(Runs.of_aux rs [] trivial).2]; simp

theorem Runs.mem_inter {x : Int} {xs ys : Runs} : Runs.mem x (xs.inter ys) = true ↔ Runs.mem x xs = true ∧ Runs.mem x ys = true := by
  unfold Runs.inter
  rw [Runs.mem_of, Runs.mem_iff, Runs.mem_iff]
  simp only [List.mem_flatMap, List.mem_map]
  constructor
  · rintro ⟨_, ⟨a, ha, b, hb, rfl⟩, h1, h2⟩
    simp only at h1 h2
    exact ⟨⟨a, ha, by omega, by omega⟩, ⟨b, hb, by omega, by omega⟩⟩
  · rintro ⟨⟨a, ha, h1, h2⟩, ⟨b, hb, h3, h4⟩⟩
    exact ⟨_, ⟨a, ha, b, hb, rfl⟩, by simp only; omega, by simp only; omega⟩

theorem Runs.mem_union {x : Int} {xs ys : Runs} : Runs.mem x (xs.union ys) = true ↔ Runs.mem x xs = true ∨ Runs.mem x ys = true := by
  unfold Runs.union
  rw [Runs.mem_of, Runs.mem_iff, Runs.mem_iff]
  simp only [List.mem_append, or_and_right, exists_or]

/-- Every sum of two members is a member of the sum. -/
theorem Runs.mem_sum_of {x y : Int} {xs ys : Runs} (hx : Runs.mem x xs = true) (hy : Runs.mem y ys = true) :
    Runs.mem (x + y) (xs.sum ys) = true := by
  unfold Runs.sum
  rw [Runs.mem_of]
  rw [Runs.mem_iff] at hx hy
  obtain ⟨a, ha, h1, h2⟩ := hx
  obtain ⟨b, hb, h3, h4⟩ := hy
  exact ⟨_, List.mem_flatMap.2 ⟨a, ha, List.mem_map.2 ⟨b, hb, rfl⟩⟩, by simp only; omega, by simp only; omega⟩

theorem Runs.mem_neg {x : Int} {xs : Runs} : Runs.mem x xs.neg = true ↔ Runs.mem (-x) xs = true := by
  unfold Runs.neg
  rw [Runs.mem_of, Runs.mem_iff]
  simp only [List.mem_map]
  constructor
  · rintro ⟨_, ⟨a, ha, rfl⟩, h1, h2⟩
    exact ⟨a, ha, by simp only at h2; omega, by simp only at h1; omega⟩
  · rintro ⟨a, ha, h1, h2⟩
    exact ⟨_, ⟨a, ha, rfl⟩, by simp only; omega, by simp only; omega⟩

theorem Runs.mem_above {x l : Int} {xs : Runs} : Runs.mem x (xs.above l) = true ↔ Runs.mem x xs = true ∧ l ≤ x := by
  unfold Runs.above
  rw [Runs.mem_of, Runs.mem_iff]
  simp only [List.mem_map]
  constructor
  · rintro ⟨_, ⟨a, ha, rfl⟩, h1, h2⟩
    simp only at h1 h2
    exact ⟨⟨a, ha, by omega, by omega⟩, by omega⟩
  · rintro ⟨⟨a, ha, h1, h2⟩, h3⟩
    exact ⟨_, ⟨a, ha, rfl⟩, by simp only; omega, by simp only; omega⟩

theorem Runs.mem_below {x h : Int} {xs : Runs} : Runs.mem x (xs.below h) = true ↔ Runs.mem x xs = true ∧ x ≤ h := by
  unfold Runs.below
  rw [Runs.mem_of, Runs.mem_iff]
  simp only [List.mem_map]
  constructor
  · rintro ⟨_, ⟨a, ha, rfl⟩, h1, h2⟩
    simp only at h1 h2
    exact ⟨⟨a, ha, by omega, by omega⟩, by omega⟩
  · rintro ⟨⟨a, ha, h1, h2⟩, h3⟩
    exact ⟨_, ⟨a, ha, rfl⟩, by simp only; omega, by simp only; omega⟩

theorem Runs.mem_without {x v : Int} {xs : Runs} : Runs.mem x (xs.without v) = true ↔ Runs.mem x xs = true ∧ x ≠ v := by
  unfold Runs.without
  rw [Runs.mem_of, Runs.mem_iff]
  simp only [List.mem_flatMap, List.mem_cons, List.not_mem_nil, or_false]
  constructor
  · rintro ⟨_, ⟨a, ha, rfl | rfl⟩, h1, h2⟩ <;> simp only at h1 h2
    · exact ⟨⟨a, ha, by omega, by omega⟩, by omega⟩
    · exact ⟨⟨a, ha, by omega, by omega⟩, by omega⟩
  · rintro ⟨⟨a, ha, h1, h2⟩, h3⟩
    by_cases h : x < v
    · exact ⟨_, ⟨a, ha, .inl rfl⟩, by simp only; omega, by simp only; omega⟩
    · exact ⟨_, ⟨a, ha, .inr rfl⟩, by simp only; omega, by simp only; omega⟩

/-- The absolute value of a member is a member. -/
theorem Runs.mem_abs_of {x : Int} {xs : Runs} (hx : Runs.mem x xs = true) : Runs.mem (if x < 0 then -x else x) xs.abs = true := by
  unfold Runs.abs
  rw [Runs.mem_of]
  rw [Runs.mem_iff] at hx
  obtain ⟨a, ha, h1, h2⟩ := hx
  simp only [List.mem_flatMap, List.mem_cons, List.not_mem_nil, or_false]
  split
  · exact ⟨_, ⟨a, ha, .inr rfl⟩, by simp only; omega, by simp only; omega⟩
  · exact ⟨_, ⟨a, ha, .inl rfl⟩, by simp only; omega, by simp only; omega⟩

/-- A set with a member has a least one, which bounds it. -/
theorem Runs.min?_le {x : Int} {xs : Runs} (ok : Runs.Ok xs) (h : Runs.mem x xs = true) :
    ∃ l, xs.min? = some l ∧ l ≤ x ∧ Runs.mem l xs = true := by
  cases xs with
  | nil => simp at h
  | cons r t =>
    obtain ⟨a, b⟩ := r
    obtain ⟨h1, h2, h3⟩ := ok
    refine ⟨a, rfl, ?_, Runs.mem_cons.2 (.inl ⟨le_rfl, h1⟩)⟩
    rcases Runs.mem_cons.1 h with h | h
    · exact h.1
    · obtain ⟨r, hr, h4, _⟩ := Runs.mem_iff.1 h
      have := h2 r hr
      omega

theorem Runs.max?_cons (r s : Int × Int) (t : Runs) : Runs.max? (r :: s :: t) = Runs.max? (s :: t) := rfl

/-- A set with a member has a greatest one, which bounds it. -/
theorem Runs.le_max? {x : Int} {xs : Runs} (ok : Runs.Ok xs) (h : Runs.mem x xs = true) :
    ∃ m, xs.max? = some m ∧ x ≤ m ∧ Runs.mem m xs = true := by
  induction xs generalizing x with
  | nil => simp at h
  | cons r t ih =>
    obtain ⟨a, b⟩ := r
    obtain ⟨h1, h2, h3⟩ := ok
    cases t with
    | nil =>
      refine ⟨b, rfl, ?_, Runs.mem_cons.2 (.inl ⟨h1, le_rfl⟩)⟩
      rcases Runs.mem_cons.1 h with h | h
      · exact h.2
      · simp at h
    | cons s u =>
      have hs : Runs.mem s.1 (s :: u) = true := Runs.mem_cons.2 (.inl ⟨le_rfl, h3.1⟩)
      have hlt := h2 s (by simp)
      rcases Runs.mem_cons.1 h with h | h
      · obtain ⟨m, e, h4, h5⟩ := ih h3 hs
        exact ⟨m, e, by simp only at h; omega, Runs.mem_cons.2 (.inr h5)⟩
      · obtain ⟨m, e, h4, h5⟩ := ih h3 h
        exact ⟨m, e, h4, Runs.mem_cons.2 (.inr h5)⟩

/-! ### Sets with bounds -/

/-- A member of a set that lies within its bounds. -/
def PSet.Has (s : PSet) (x : Int) : Prop := s.lo ≤ x ∧ x ≤ s.hi ∧ s.mem x = true

theorem PSet.has_ofRuns {x : Int} {xs : Runs} (ok : Runs.Ok xs) (h : Runs.mem x xs = true) : (PSet.ofRuns xs).Has x := by
  obtain ⟨l, e1, h1, _⟩ := Runs.min?_le ok h
  obtain ⟨m, e2, h2, _⟩ := Runs.le_max? ok h
  unfold PSet.ofRuns
  simp only [e1, e2]
  exact ⟨h1, h2, h⟩

/-- The members of a set of runs are those of the runs. -/
theorem PSet.mem_ofRuns {x : Int} {xs : Runs} (h : (PSet.ofRuns xs).mem x = true) : Runs.mem x xs = true := by
  unfold PSet.ofRuns at h
  split at h
  · exact h
  · simp [PSet.empty] at h

theorem PSet.has_inter {x : Int} {s t : PSet} (h : s.Has x) (k : t.Has x) : (s.inter t).Has x := by
  obtain ⟨h1, h2, h3⟩ := h
  obtain ⟨k1, k2, k3⟩ := k
  exact ⟨by simp only [PSet.inter]; omega, by simp only [PSet.inter]; omega, by simp [PSet.inter, h3, k3]⟩

theorem PSet.mem_inter {x : Int} {s t : PSet} (h : (s.inter t).mem x = true) : s.mem x = true ∧ t.mem x = true := by
  simpa [PSet.inter] using h

theorem findUp_le {p : Int → Bool} {n : Nat} {a x : Int} (h1 : a ≤ x) (h2 : x < a + n) (hp : p x = true) :
    ∃ l, findUp p n a = some l ∧ a ≤ l ∧ l ≤ x ∧ p l = true := by
  induction n generalizing a with
  | zero => omega
  | succ n ih =>
    simp only [findUp]
    split
    · rename_i h; exact ⟨a, rfl, le_rfl, h1, h⟩
    · rename_i h
      have : a ≠ x := by rintro rfl; exact h hp
      obtain ⟨l, e, k1, k2, k3⟩ := ih (a := a + 1) (by omega) (by push_cast at h2; omega)
      exact ⟨l, e, by omega, k2, k3⟩

theorem le_findDown {p : Int → Bool} {n : Nat} {b x : Int} (h1 : x ≤ b) (h2 : b - n < x) (hp : p x = true) :
    ∃ m, findDown p n b = some m ∧ m ≤ b ∧ x ≤ m ∧ p m = true := by
  induction n generalizing b with
  | zero => omega
  | succ n ih =>
    simp only [findDown]
    split
    · rename_i h; exact ⟨b, rfl, le_rfl, h1, h⟩
    · rename_i h
      have : b ≠ x := by rintro rfl; exact h hp
      obtain ⟨m, e, k1, k2, k3⟩ := ih (b := b - 1) (by omega) (by push_cast at h2; omega)
      exact ⟨m, e, by omega, k2, k3⟩

/-- The bounds of a hull of a set with a member. -/
theorem PSet.bounds {s : PSet} {x : Int} (h : s.Has x) :
    ∃ l m, s.min? = some l ∧ s.max? = some m ∧ l ≤ x ∧ x ≤ m ∧ s.mem l = true ∧ s.mem m = true := by
  obtain ⟨h1, h2, h3⟩ := h
  obtain ⟨l, e, _, k2, k3⟩ := findUp_le (p := s.mem) (n := (s.hi - s.lo + 1).toNat) h1 (by omega) h3
  obtain ⟨m, e', _, j2, j3⟩ := le_findDown (p := s.mem) (n := (s.hi - s.lo + 1).toNat) h2 (by omega) h3
  exact ⟨l, m, e, e', k2, j2, k3, j3⟩

/-! ### Domains -/

/-- The members of the runs of a mask, with a run in course. -/
theorem mem_maskRuns {x : Int} {n m : Nat} {x0 : Int} {cur : Option Int} (hc : ∀ s, cur = some s → s < x0) :
    Runs.mem x (maskRuns n m x0 cur) = true ↔
      (∃ s, cur = some s ∧ s ≤ x ∧ x < x0) ∨ (x0 ≤ x ∧ x < x0 + n ∧ m.testBit (x - x0).toNat = true) := by
  induction n generalizing m x0 cur with
  | zero =>
    have : ¬(x0 ≤ x ∧ x < x0 + ((0 : Nat) : Int) ∧ m.testBit (x - x0).toNat = true) := by push_cast; omega
    cases cur with
    | none => simp only [maskRuns, Runs.mem_nil, reduceCtorEq, false_and, exists_false, false_or, Bool.false_eq_true, this]
    | some s =>
      simp only [maskRuns, Runs.mem_cons, Runs.mem_nil, Bool.false_eq_true, or_false, this, Option.some.injEq, exists_eq_left']
      omega
  | succ n ih =>
    have hbit : ∀ k : Nat, (m / 2).testBit k = m.testBit (k + 1) := fun k => by rw [Nat.testBit_succ]
    have hstep : x0 + 1 ≤ x → (x - x0).toNat = (x - (x0 + 1)).toNat + 1 := by omega
    have h0 : m.testBit 0 = decide (m % 2 = 1) := by simp [Nat.testBit_zero]
    simp only [maskRuns]
    split
    · rename_i hm
      have hs : cur.getD x0 ≤ x0 := by
        cases cur with
        | none => simp
        | some s => have := hc s rfl; simp; omega
      rw [ih fun s h => by injection h with h; omega]
      constructor
      · rintro (⟨s, e, h1, h2⟩ | ⟨h1, h2, h3⟩)
        · injection e with e; subst e
          by_cases hx : x < x0
          · cases cur with
            | none => simp only [Option.getD_none] at h1; omega
            | some s => exact .inl ⟨s, rfl, h1, hx⟩
          · have : x = x0 := by omega
            subst this
            exact .inr ⟨le_rfl, by push_cast; omega, by simp [h0, hm]⟩
        · exact .inr ⟨by omega, by push_cast; omega, by rw [hstep h1, ← hbit]; exact h3⟩
      · rintro (⟨s, e, h1, h2⟩ | ⟨h1, h2, h3⟩)
        · exact .inl ⟨_, rfl, by subst e; exact h1, by omega⟩
        · by_cases hx : x = x0
          · exact .inl ⟨_, rfl, by omega, by omega⟩
          · exact .inr ⟨by omega, by push_cast at h2; omega, by rw [hbit, ← hstep (by omega)]; exact h3⟩
    · rename_i hm
      have key : (x0 + 1 ≤ x ∧ x < x0 + 1 + n ∧ (m / 2).testBit (x - (x0 + 1)).toNat = true) ↔
          (x0 ≤ x ∧ x < x0 + ((n + 1 : Nat) : Int) ∧ m.testBit (x - x0).toNat = true) := by
        constructor
        · rintro ⟨h1, h2, h3⟩
          exact ⟨by omega, by push_cast; omega, by rw [hstep h1, ← hbit]; exact h3⟩
        · rintro ⟨h1, h2, h3⟩
          have : x ≠ x0 := by rintro rfl; simp [h0, hm] at h3
          exact ⟨by omega, by push_cast at h2; omega, by rw [hbit, ← hstep (by omega)]; exact h3⟩
      cases cur with
      | none => rw [ih (by simp), key]; simp
      | some s =>
        simp only [Runs.mem_cons]
        rw [ih (by simp), key]
        simp only [Option.some.injEq, exists_eq_left', reduceCtorEq, false_and, exists_false, false_or]
        constructor <;> rintro (h | h) <;> first | exact .inr h | exact .inl (by omega)

/-- The runs of a mask rise, from the run in course or the first bit on. -/
theorem ok_maskRuns {n m : Nat} {x0 : Int} {cur : Option Int} (hc : ∀ s, cur = some s → s < x0) :
    Runs.Ok (maskRuns n m x0 cur) ∧ ∀ r ∈ maskRuns n m x0 cur, cur.getD x0 ≤ r.1 := by
  induction n generalizing m x0 cur with
  | zero =>
    cases cur with
    | none => simp [maskRuns, Runs.Ok]
    | some s => have := hc s rfl; simp [maskRuns, Runs.Ok]; omega
  | succ n ih =>
    simp only [maskRuns]
    split
    · have hs : cur.getD x0 ≤ x0 := by
        cases cur with
        | none => simp
        | some s => have := hc s rfl; simp; omega
      obtain ⟨h1, h2⟩ := ih (m := m / 2) (x0 := x0 + 1) (cur := some (cur.getD x0)) fun s h => by injection h with h; omega
      exact ⟨h1, by simpa using h2⟩
    · cases cur with
      | none =>
        obtain ⟨h1, h2⟩ := ih (m := m / 2) (x0 := x0 + 1) (cur := none) (by simp)
        exact ⟨h1, fun r hr => by have := h2 r hr; simp at this ⊢; omega⟩
      | some s =>
        obtain ⟨h1, h2⟩ := ih (m := m / 2) (x0 := x0 + 1) (cur := none) (by simp)
        have := hc s rfl
        refine ⟨⟨by omega, fun r hr => ?_, h1⟩, fun r hr => ?_⟩
        · have := h2 r hr; simp at this; omega
        · rcases List.mem_cons.1 hr with rfl | hr
          · simp
          · have := h2 r hr; simp at this ⊢; omega

theorem domLo_range (d : Dom) : -2 ^ 31 ≤ domLo d ∧ domLo d < 2 ^ 31 := by
  unfold domLo; exact ⟨by simpa using BitVec.le_toInt (x := d.extractLsb' 0 32), by simpa using BitVec.toInt_lt (x := d.extractLsb' 0 32)⟩

theorem domHi_range (d : Dom) : -2 ^ 31 ≤ domHi d ∧ domHi d < 2 ^ 31 := by
  unfold domHi; exact ⟨by simpa using BitVec.le_toInt (x := d.extractLsb' 32 32), by simpa using BitVec.toInt_lt (x := d.extractLsb' 32 32)⟩

/-- The members of the window. -/
theorem mem_domWindow {x : Int} {d : Dom} : Runs.mem x (domWindow d) = true ↔
    domLo d ≤ x ∧ x ≤ domHi d ∧ x ≤ domLo d + 63 ∧ (domMask d).testBit (x - domLo d).toNat = true := by
  unfold domWindow
  split
  · simp only [Runs.mem_nil, Bool.false_eq_true, false_iff]; omega
  · rw [mem_maskRuns (by simp)]
    simp only [reduceCtorEq, false_and, exists_false, false_or]
    constructor
    · rintro ⟨h1, h2, h3⟩; exact ⟨h1, by omega, by omega, h3⟩
    · rintro ⟨h1, h2, h3, h4⟩; exact ⟨h1, by omega, h4⟩

theorem ok_domRuns (d : Dom) : Runs.Ok (domRuns d) := by
  have hw : Runs.Ok (domWindow d) := by
    unfold domWindow
    split
    · trivial
    · exact (ok_maskRuns (by simp)).1
  unfold domRuns
  split
  · exact hw
  · exact Runs.ok_add (by omega) hw

/-- The set a pattern denotes (R81). -/
theorem mem_domRuns {x : Int} {d : Dom} : Runs.mem x (domRuns d) = true ↔
    domLo d ≤ x ∧ x ≤ domHi d ∧ (x ≤ domLo d + 63 → (domMask d).testBit (x - domLo d).toNat = true) := by
  have hw : Runs.Ok (domWindow d) := by
    unfold domWindow
    split
    · trivial
    · exact (ok_maskRuns (by simp)).1
  unfold domRuns
  split
  · rw [mem_domWindow]
    constructor
    · rintro ⟨h1, h2, h3, h4⟩; exact ⟨h1, h2, fun _ => h4⟩
    · rintro ⟨h1, h2, h3⟩; exact ⟨h1, h2, by omega, h3 (by omega)⟩
  · rw [Runs.mem_add (by omega) hw, mem_domWindow]
    constructor
    · rintro (⟨h1, h2⟩ | ⟨h1, h2, h3, h4⟩)
      · exact ⟨by omega, h2, fun h => by omega⟩
      · exact ⟨h1, h2, fun _ => h4⟩
    · rintro ⟨h1, h2, h3⟩
      by_cases h : x ≤ domLo d + 63
      · exact .inr ⟨h1, h2, h, h3 h⟩
      · exact .inl ⟨by omega, h2⟩

/-- Every member of a domain is a 32-bit value. -/
theorem domRuns_range {x : Int} {d : Dom} (h : Runs.mem x (domRuns d) = true) : -2 ^ 31 ≤ x ∧ x < 2 ^ 31 := by
  obtain ⟨h1, h2, _⟩ := mem_domRuns.1 h
  have := domLo_range d
  have := domHi_range d
  omega

theorem toInt_ofInt32 {x : Int} (h : -2 ^ 31 ≤ x ∧ x < 2 ^ 31) : (BitVec.ofInt 32 x).toInt = x := by
  rw [BitVec.toInt_ofInt]
  exact Int.bmod_eq_of_le (by norm_num; omega) (by norm_num; omega)

/-- The three fields of a number of 128 bits. -/
theorem fields_of_sum {l h m : Nat} (hl : l < 2 ^ 32) (hh : h < 2 ^ 32) (hm : m < 2 ^ 64) :
    (m * 2 ^ 64 + h * 2 ^ 32 + l) < 2 ^ 128 ∧ (m * 2 ^ 64 + h * 2 ^ 32 + l) % 2 ^ 32 = l ∧
      (m * 2 ^ 64 + h * 2 ^ 32 + l) / 2 ^ 32 % 2 ^ 32 = h ∧ (m * 2 ^ 64 + h * 2 ^ 32 + l) / 2 ^ 64 = m := by
  have e : m * 2 ^ 64 + h * 2 ^ 32 + l = l + 2 ^ 32 * (h + 2 ^ 32 * m) := by ring
  have hx : h + 2 ^ 32 * m < 2 ^ 96 :=
    calc h + 2 ^ 32 * m < 2 ^ 32 + 2 ^ 32 * m := by omega
      _ = 2 ^ 32 * (m + 1) := by ring
      _ ≤ 2 ^ 32 * 2 ^ 64 := Nat.mul_le_mul_left _ hm
      _ = 2 ^ 96 := by norm_num
  refine ⟨?_, ?_, ?_, ?_⟩
  · rw [e]
    calc l + 2 ^ 32 * (h + 2 ^ 32 * m) < 2 ^ 32 + 2 ^ 32 * (h + 2 ^ 32 * m) := by omega
      _ = 2 ^ 32 * (h + 2 ^ 32 * m + 1) := by ring
      _ ≤ 2 ^ 32 * 2 ^ 96 := Nat.mul_le_mul_left _ hx
      _ = 2 ^ 128 := by norm_num
  · rw [e, Nat.add_mul_mod_self_left, Nat.mod_eq_of_lt hl]
  · rw [e, Nat.add_mul_div_left _ _ (by norm_num), Nat.div_eq_of_lt hl, Nat.zero_add, Nat.add_mul_mod_self_left, Nat.mod_eq_of_lt hh]
  · rw [e, show (2 : Nat) ^ 64 = 2 ^ 32 * 2 ^ 32 by norm_num, ← Nat.div_div_eq_div_mul, Nat.add_mul_div_left _ _ (by norm_num),
      Nat.div_eq_of_lt hl, Nat.zero_add, Nat.add_mul_div_left _ _ (by norm_num), Nat.div_eq_of_lt hh, Nat.zero_add]

/-- The fields of a domain made of them. -/
theorem dom_fields {lo hi : Int} {mask : Nat} (hl : -2 ^ 31 ≤ lo ∧ lo < 2 ^ 31) (hh : -2 ^ 31 ≤ hi ∧ hi < 2 ^ 31) (hm : mask < 2 ^ 64) :
    domLo (domMake lo hi mask) = lo ∧ domHi (domMake lo hi mask) = hi ∧ domMask (domMake lo hi mask) = mask := by
  obtain ⟨h1, h2, h3, h4⟩ := fields_of_sum (BitVec.ofInt 32 lo).isLt (BitVec.ofInt 32 hi).isLt hm
  have hn : (domMake lo hi mask).toNat = mask * 2 ^ 64 + (BitVec.ofInt 32 hi).toNat * 2 ^ 32 + (BitVec.ofInt 32 lo).toNat := by
    rw [domMake, BitVec.toNat_ofNat, Nat.mod_eq_of_lt hm, Nat.mod_eq_of_lt h1]
  have e1 : (domMake lo hi mask).extractLsb' 0 32 = BitVec.ofInt 32 lo := by
    apply BitVec.eq_of_toNat_eq
    rw [BitVec.extractLsb'_toNat, hn, Nat.shiftRight_zero, h2]
  have e2 : (domMake lo hi mask).extractLsb' 32 32 = BitVec.ofInt 32 hi := by
    apply BitVec.eq_of_toNat_eq
    rw [BitVec.extractLsb'_toNat, hn, Nat.shiftRight_eq_div_pow, h3]
  refine ⟨by rw [domLo, e1, toInt_ofInt32 hl], by rw [domHi, e2, toInt_ofInt32 hh], ?_⟩
  rw [domMask, BitVec.extractLsb'_toNat, hn, Nat.shiftRight_eq_div_pow, h4, Nat.mod_eq_of_lt hm]

/-- The bits that a hull packs. -/
theorem packBits_spec (lo hi : Int) (mem : Int → Bool) (n : Nat) : hullOf.packBits lo hi mem n < 2 ^ n ∧
    ∀ k, (hullOf.packBits lo hi mem n).testBit k = (decide (k < n) && (decide (lo + k ≤ hi) && mem (lo + k))) := by
  induction n with
  | zero => simp [hullOf.packBits]
  | succ n ih =>
    obtain ⟨hlt, hb⟩ := ih
    have hlt' : hullOf.packBits lo hi mem (n + 1) < 2 ^ (n + 1) := by
      simp only [hullOf.packBits, pow_succ]; split <;> omega
    refine ⟨hlt', fun k => ?_⟩
    rcases Nat.lt_trichotomy k n with hk | rfl | hk
    · have : decide (k < n + 1) = decide (k < n) := by simp; omega
      rw [this, ← hb]
      simp only [hullOf.packBits]
      split
      · rw [Nat.add_comm, Nat.testBit_two_pow_add_gt hk]
      · rw [Nat.add_zero]
    · have hf : (hullOf.packBits lo hi mem k).testBit k = false := by rw [hb]; simp
      simp only [hullOf.packBits]
      split
      · rename_i h
        rw [Nat.add_comm, Nat.testBit_two_pow_add_eq, hf]
        simpa using h
      · rename_i h
        rw [Nat.add_zero, hf]
        simpa using h
    · rw [Nat.testBit_lt_two_pow (lt_of_lt_of_le hlt' (Nat.pow_le_pow_right (by norm_num) hk))]
      simp; omega

/-- The hull of a set of 32-bit values has every member of the set (R82). -/
theorem mem_hull {s : PSet} {x : Int} (hx : s.Has x) (hr : ∀ y, s.mem y = true → -2 ^ 31 ≤ y ∧ y < 2 ^ 31) :
    ∃ d, hull s = some d ∧ Runs.mem x (domRuns d) = true := by
  obtain ⟨l, m, e1, e2, h1, h2, h3, h4⟩ := PSet.bounds hx
  obtain ⟨hp, hb⟩ := packBits_spec l m s.mem 64
  obtain ⟨f1, f2, f3⟩ := dom_fields (hr l h3) (hr m h4) hp
  refine ⟨hullOf l m s.mem, by simp only [hull, e1, e2], ?_⟩
  rw [mem_domRuns, hullOf, f1, f2, f3]
  refine ⟨h1, h2, fun hw => ?_⟩
  rw [hb]
  have e : l + ((x - l).toNat : Int) = x := by omega
  simp only [e, hx.2.2, Bool.and_true, Bool.and_eq_true, decide_eq_true_eq]
  omega

end Sys2Proof.Machine
end

