-- ==== Sys2Proof/Laws/Slots.lean ====
section
/-! SUPPORT. One lemma for each shared form of an operation: where it performs and the state it then leaves. A statement about one
instruction follows from the lemma of its form. -/

namespace Sys2Proof.Machine

variable {i : Instr} {s t : State}

/-- Registers with trap bits are full: no EMPTYREAD. -/
theorem State.emptyReads_full {slot : Nat} {srcs : List (RegRef × BitVec 1)} (h : s.full (srcs.map (·.1)) = true) :
    firstOf (srcs.map fun r => s.emptyRead slot r.2 r.1) = none := by
  induction srcs with
  | nil => rfl
  | cons r rs ih =>
    simp only [List.map_cons, State.full_cons, Bool.and_eq_true, Bool.not_eq_true'] at h
    simp only [List.map_cons, State.emptyRead_full h.1, firstOf_none]
    exact ih h.2

/-- The general form: checks before the wait that hold of full registers, a wait on registers alone. -/
theorem acts_form {runs : Bool} {names waits : List RegRef} {ok : Prop} {early late : List (Option Cause)} {act : State → State}
    (he : exec i s = s.issueOp runs early [s.waitRegs waits] late act)
    (hw : s.full names = true → s.full waits = true)
    (h1 : s.full names = true → ok → firstOf early = none) (h2 : ok → firstOf late = none) :
    Acts i s runs names ok ((act s).judge .performed) := by
  refine ⟨fun hr hf hk => ?_, fun hr => ?_⟩
  · rw [he]
    refine State.issueOp_performs hr (h1 hf hk) ?_ (h2 hk)
    simp [State.waitRegs_full.2 (hw hf)]
  · rw [he, State.issueOp_idle hr]; rfl

/-- A destination that takes a result does not make the operation wait. -/
theorem State.waitDest_k {d : BitVec 6} : s.waitDest (kRef d) = none ↔ s.takesK d := by
  have : s.waitDest (kRef d) = if s.rd.isEmpty (kRef d) && s.issue.mem.owesK d.toNat then some 1 else none := rfl
  rw [this]
  unfold State.takesK
  cases s.rd.isEmpty (kRef d) <;> cases s.issue.mem.owesK d.toNat <;> simp

/-- A full destination of another class does not make the operation wait. -/
theorem State.waitDest_full {r : RegRef} (h : s.rd.isEmpty r = false) : s.waitDest r = none := by
  simp [State.waitDest, h]

/-- An operation that neither waits nor is checked. -/
theorem acts_plain {runs : Bool} {act : State → State} (he : exec i s = s.issueOp runs [] [] [] act) :
    Acts i s runs [] True ((act s).judge .performed) :=
  ⟨fun hr _ _ => by rw [he]; exact State.issueOp_performs hr rfl rfl rfl, fun hr => by rw [he, State.issueOp_idle hr]; rfl⟩

/-- An operation without guard, wait or checks. -/
theorem exec_plain {act : State → State} (he : exec i s = s.issueOp true [] [] [] act) : exec i s = .next ((act s).judge .performed) := by
  rw [he]; exact State.issueOp_performs rfl rfl rfl rfl

theorem State.full_kSources {srcs : List (BitVec 6 × BitVec 1)} (h : s.full (srcs.map fun r => kRef r.1) = true) :
    firstOf (srcs.map fun r => s.emptyRead 1 r.2 (kRef r.1)) = none := by
  have h1 : (srcs.map fun r => (kRef r.1, r.2)).map (·.1) = srcs.map fun r => kRef r.1 := by simp [Function.comp_def]
  have := State.emptyReads_full (s := s) (slot := 1) (srcs := srcs.map fun r => (kRef r.1, r.2)) (by rw [h1]; exact h)
  simpa [Function.comp_def] using this

/-! ### The domain slot -/

theorem acts_intAssign {g : BitVec 4} {d : BitVec 6} {srcs : List (BitVec 6 × BitVec 1)} {x : Option Dom}
    (he : exec i s = s.intAssign g d srcs x) :
    Acts i s (s.guard4 g) (srcs.map fun r => kRef r.1) (s.issue.swage.bound d = false ∧ s.takesK d)
      (s.performed fun c => c.fly 1 1 (kResult d x)) :=
  acts_of_issueOp he rfl fun _ hf hk => ⟨State.full_kSources hf, by simp [State.waitDest_k.2 hk.2, State.waitRegs_full.2 hf],
    by simp [State.boundWrite, hk.1]⟩

theorem acts_intPred {g : BitVec 4} {d : BitVec 6} {srcs : List (BitVec 6 × BitVec 1)} {x : BitVec 2}
    (he : exec i s = s.intPred g d srcs x) :
    Acts i s (s.guard4 g) (srcs.map fun r => kRef r.1) True (s.performed fun c => c.fly 1 1 (.p (d.zeroExtend 7) x)) :=
  acts_form he id (fun hf _ => State.full_kSources hf) fun _ => rfl

theorem acts_intNarrow {g : BitVec 4} {rel : Rel} {ds : List (BitVec 6)} {srcs : List (BitVec 6 × BitVec 1)}
    (he : exec i s = s.intNarrow g rel ds srcs) :
    Acts i s (s.guard4 g) (ds.map kRef ++ srcs.map fun r => kRef r.1) True
      (s.performed fun c => c.fly 1 1 (narrowResult rel s.rd)) :=
  acts_form he id (fun hf _ => State.full_kSources (by simp only [State.full_append, Bool.and_eq_true] at hf; exact hf.2))
    fun _ => rfl

theorem acts_intPost {g : BitVec 4} {rel : Rel} {ds : List (BitVec 6)} {srcs : List (BitVec 6 × BitVec 1)}
    (he : exec i s = s.intPost g rel ds srcs) :
    Acts i s (s.guard4 g) (ds.map kRef ++ srcs.map fun r => kRef r.1) (s.issue.swage.store.length < 512)
      (s.performed fun c => c.fly 1 1 (.post rel)) :=
  acts_form he id (fun hf _ => State.full_kSources (by simp only [State.full_append, Bool.and_eq_true] at hf; exact hf.2))
    fun h => by simp [Nat.not_le.2 h]

/-! ### The address slot -/

theorem acts_adrWrite {g : BitVec 4} {d : BitVec 5} {srcs : List (BitVec 5)} {x : W64} (he : exec i s = s.adrWrite g d srcs x) :
    Acts i s (s.guard4 g) (aRef d :: srcs.map aRef) True (s.performed fun c => c.fly 1 2 (.a d x)) :=
  acts_form he id (fun _ _ => rfl) fun _ => rfl

theorem acts_adrMask {g d : BitVec 4} {srcs : List (BitVec 5)} {x : W64} (he : exec i s = s.adrMask g d srcs x) :
    Acts i s (s.guard4 g) (srcs.map aRef) True (s.performed fun c => c.fly 1 2 (.m d (BitVec.allOnes 64) x)) :=
  acts_form he id (fun _ _ => rfl) fun _ => rfl

/-! ### The vector slot -/

theorem acts_vecOp {runs : Bool} {ds : List RegRef} {srcs : List (RegRef × BitVec 1)} {act : State → State}
    (he : exec i s = s.vecOp runs ds srcs act) :
    Acts i s runs (ds ++ srcs.map (·.1)) True ((act s).judge .performed) :=
  acts_form he id (fun hf _ => State.emptyReads_full (by simp only [State.full_append, Bool.and_eq_true] at hf; exact hf.2))
    fun _ => rfl

/-! ### The interval slot -/

theorem acts_ivlOp {runs : Bool} {rs : List RegRef} {act : State → State} (he : exec i s = s.ivlOp runs rs act) :
    Acts i s runs rs True ((act s).judge .performed) :=
  acts_form he id (fun _ _ => rfl) fun _ => rfl

/-! ### The control slot -/

/-- Tail bits that are ready neither wait nor trap. -/
theorem State.tailReady_checks {x : BitVec 1} {t : BitVec 2} (h : s.tailReady x t) :
    s.txWait x t = none ∧ firstOf (s.tailChecks x t) = none := by
  unfold State.tailReady at h
  unfold State.txWait State.tailChecks
  by_cases hx : x = 1
  · obtain ⟨h1, h2, h3, h4⟩ := h hx
    refine ⟨?_, ?_⟩
    · rw [if_neg]
      rintro ⟨_, _, h⟩
      omega
    · rw [if_pos hx]
      simp only [firstOf_eq_none, List.mem_cons, List.not_mem_nil, or_false]
      rintro y (rfl | rfl | rfl)
      · simp [State.bufEmpty, h1]
      · rw [State.check_none, Bool.and_eq_false_iff, decide_eq_false_iff_not]
        by_cases hk : (s.buf t).kind = .prepr
        · right; simpa [Option.isSome_iff_ne_none] using h3 hk
        · left; exact hk
      · rw [State.check_none]
        simp only [Bool.and_eq_false_iff, decide_eq_false_iff_not]
        by_cases hk : (s.buf t).kind = .prepc
        · by_cases ht : (s.buf t).takes = true
          · rcases h4 hk ht with h | h
            · left; right; omega
            · right; exact h
          · left; left; right; simpa using ht
        · left; left; left; exact hk
  · exact ⟨if_neg fun h => hx h.1, by rw [if_neg hx]; rfl⟩

/-- A sound block of the context's domain stops nothing. -/
theorem State.homeCheck_none (on : Bool) (h : s.homeSound) : s.homeCheck on = none := by
  unfold State.homeCheck
  cases on <;> cases hd : s.issue.inDomain <;> simp
  simp [h hd]

@[simp] theorem State.homeCheck_false : s.homeCheck false = none := rfl

/-- The general form of a CTL operation. -/
theorem acts_ctlOp {e y x : BitVec 1} {t : BitVec 2} {names : List RegRef} {ok : Prop} {waits : List (Option Nat)} {late : List (Option Cause)}
    {act : State → State} {f : Context → Context} (he : exec i s = s.ctlOp e y x t waits late act)
    (hw : s.full names = true → ok → firstOf waits = none) (hl : ok → firstOf late = none) (ha : ok → act s = s.mapLive f) :
    ActsCtl i s e y x t names ok f := by
  intro ht hd hf hk
  obtain ⟨h1, h2⟩ := State.tailReady_checks ht
  have h3 : s.homeCheck (decide (e = 1)) = none := by
    by_cases h : e = 1
    · exact State.homeCheck_none _ (hd h)
    · rw [decide_eq_false h]; rfl
  rw [he]
  unfold State.ctlOp
  rw [State.issueOp_performs rfl rfl (by simp [hw hf hk, h1]) (by rw [firstOf_append, firstOf_append, hl hk, h2, h3]; rfl), ha hk]
  rfl

/-! ### The memory slot -/

theorem State.scrCheck_none {off n align : Nat} : s.scrCheck off n align = none ↔ off + n ≤ s.issue.scrSize ∧ off % align = 0 := by
  simp [State.scrCheck, State.check_none]

theorem State.gAlign_none {va : BitVec 57} {align : Nat} {kind : Byte} : s.gAlign va align kind = none ↔ va.toNat % align = 0 := by
  simp [State.gAlign]

end Sys2Proof.Machine
end

