-- ==== Sys2Proof/Tests/Slice0.lean ====
section
/-! SUPPORT. Tests: words written out from the encoding tables, an ill-formed operation for each check of WellFormed, single steps with
results worked out from the specification, and states that meet the hypotheses of the statements. -/

namespace Sys2Proof.Machine

section
set_option Elab.async false
set_option maxRecDepth 20000

/-! ### An ill-formed operation for each check -/

/-- R123: E with X, a buffer named with X = 0, X with a PREP of its own buffer; each good neighbour passes. -/
theorem test_wellformed_tail :
    fieldFault (.nopCtl 1 0 1 0) = some 3 ∧ fieldFault (.nopCtl 0 0 0 2) = some 3 ∧ fieldFault (.prep 0 0 1 2 2 5) = some 3 ∧
    fieldFault (.prepr 1 0 1 2 1) = some 3 ∧ fieldFault (.qwait 0 0 1 4) = some 3 ∧ WellFormed (.nopCtl 1 1 0 0) = true ∧
    WellFormed (.prep 0 0 1 2 1 5) = true ∧ WellFormed (.qwait 0 1 3 4) = true := by decide

/-- R311: reserved values in slot 0. -/
theorem test_wellformed_control :
    fieldFault (.sync 0 0 0 0 2) = some 5 ∧ WellFormed (.sync 0 0 0 0 1) = true ∧
    fieldFault (.spawn 0 0 0 0 1 2 16) = some 5 ∧ WellFormed (.spawn 0 0 0 0 1 2 15) = true ∧
    fieldFault (.susp 0 0 0 1 16) = some 5 ∧ WellFormed (.susp 0 0 0 1 15) = true := by decide

/-- R138, R182 to R190, R311: reserved values, reserved bits and system registers in slot 2. -/
theorem test_wellformed_address :
    fieldFault (.cmpa 0 1 2 3 6) = some 5 ∧ fieldFault (.cmpai 0 1 2 7 0) = some 5 ∧ WellFormed (.cmpa 0 1 2 3 5) = true ∧
    fieldFault (.plogic 1 2 3 2) = some 2 ∧ fieldFault (.plogic 96 2 3 0) = some 5 ∧ fieldFault (.plogic 1 96 3 0) = some 5 ∧
    fieldFault (.plogic 1 2 96 0) = some 5 ∧ WellFormed (.plogic 95 95 95 0) = true ∧
    fieldFault (.pset 96 1) = some 5 ∧ fieldFault (.pset 1 3) = some 5 ∧ fieldFault (.arm 0 96 0) = some 5 ∧
    fieldFault (.mlogic 0 1 2 3 4) = some 2 ∧ WellFormed (.mlogic 0 1 2 0 5) = true ∧ fieldFault (.mfromp 0 1 96) = some 5 ∧
    fieldFault (.sela 0 1 2 3 96) = some 5 ∧ fieldFault (.ldelta 0 1 0 2) = some 5 ∧ fieldFault (.movs 0 1 0x005) = some 6 ∧
    fieldFault (.movg 0 1 0x000) = some 6 ∧ WellFormed (.movs 0 1 0x000) = true ∧ WellFormed (.movg 0 1 0x02F) = true := by decide

/-- R209, R220, R221, R225, R228, R241 to R246, R311: reserved values in slots 4, 5 and 7. -/
theorem test_wellformed_memory :
    fieldFault (.qcmp 0 1 2 3 5) = some 5 ∧ fieldFault (.qtest 0 1 2 3 7) = some 5 ∧ WellFormed (.qcmp 0 1 2 3 4) = true ∧
    fieldFault (.ldsVx 0 3 1 3) = some 5 ∧ fieldFault (.stsVx 0 3 1 3) = some 5 ∧ fieldFault (.ldgA 0 1 2 5 0) = some 5 ∧
    fieldFault (.amaxrst 0 1 2 7) = some 5 ∧ fieldFault (.fenceFull 0 5) = some 5 ∧ fieldFault (.push 0 15 1) = some 5 ∧
    fieldFault (.popr 0 0 1) = some 5 ∧ WellFormed (.pop 0 16 1) = true ∧ fieldFault (.cg2s 31 1 2 3) = some 5 ∧
    fieldFault (.gather 31 1 2 3) = some 5 ∧ fieldFault (.cg2o ⟨0, 4⟩ 5 2 3) = some 5 ∧ fieldFault (.cs2o ⟨0, 33⟩ 1 2 3) = some 5 ∧
    WellFormed (.cs2o ⟨0, 4⟩ 4 2 3) = true ∧ WellFormed (.cg2o ⟨1, 0⟩ 0 2 3) = true ∧ fieldFault (.cg2o ⟨1, 4⟩ 4 2 3) = some 5 ∧ WellFormed (.cg2s 32 1 2 3) = true := by decide

/-! ### Words written out from the encoding tables: match bits, and each field at its own value -/

/-- R108 and the encoding table of slot 0. -/
theorem test_decode_control :
    decodeSlot 0 0x00000000 = .ok (.nopCtl 0 0 0 0) ∧ decodeSlot 0 0x00280014 = .ok (.prep 0 0 0 0 1 20) ∧
    decodeSlot 0 0x00480014 = .ok (.prepc 0 0 0 0 1 20) ∧ decodeSlot 0 0x00680000 = .ok (.prepr 0 0 0 0 1) ∧
    decodeSlot 0 0x008D0017 = .ok (.prepi 0 0 0 0 1 20 23) ∧ decodeSlot 0 0x00AD0017 = .ok (.loop 0 0 0 0 1 20 23) ∧
    decodeSlot 0 0x00C85017 = .ok (.loopi 0 0 0 0 1 20 23) ∧ decodeSlot 0 0x00E00011 = .ok (.budget 0 0 0 0 17) ∧
    decodeSlot 0 0x21000011 = .ok (.mark 0 0 0 0 17) ∧ decodeSlot 0 0x01200001 = .ok (.sync 0 0 0 0 1) ∧
    decodeSlot 0 0x0148D170 = .ok (.spawn 0 0 0 0 17 20 23) ∧ decodeSlot 0 0x016E4400 = .ok (.susp 0 0 0 14 17) ∧
    decodeSlot 0 0x0191A000 = .ok (.qnew 0 0 0 0 17 20) ∧ decodeSlot 0 0x01AE0000 = .ok (.qwait 0 0 0 14) ∧
    decodeSlot 0 0x01C00011 = .ok (.qborrow 0 0 0 0 17) ∧ decodeSlot 0 0x01F10000 = .ok (.qsplit 0 0 0 0 17) ∧
    decodeSlot 0 0x02110000 = .ok (.qjoin 0 0 0 0 17) ∧ decodeSlot 0 0x02200000 = .ok (.qret 0 0 0 0) ∧
    decodeSlot 0 0x0248C000 = .ok (.waitte 0 0 0 0 17 1) ∧ decodeSlot 0 0x02600000 = .ok (.drainw 0 0 0 0) ∧
    decodeSlot 0 0x02800011 = .ok (.trap 0 0 0 0 17) ∧ decodeSlot 0 0x02A00000 = .ok (.rft 0 0) :=
  ⟨rfl, rfl, rfl, rfl, rfl, rfl, rfl, rfl, rfl, rfl, rfl, rfl, rfl, rfl, rfl, rfl, rfl, rfl, rfl, rfl, rfl, rfl⟩

/-- R108 and the encoding table of slot 1. -/
theorem test_decode_domain_1 :
    decodeSlot 1 0x00000000 = .ok .nopInt ∧ decodeSlot 1 0x04520B39 = .ok (.add 5 8 11 14 0 1) ∧
    decodeSlot 1 0x05520B39 = .ok (.addN 5 8 11 14 0 1) ∧ decodeSlot 1 0x06520B39 = .ok (.addP 5 8 11 14 0 1) ∧
    decodeSlot 1 0x08520B39 = .ok (.sub 5 8 11 14 0 1) ∧ decodeSlot 1 0x09520B39 = .ok (.subN 5 8 11 14 0 1) ∧
    decodeSlot 1 0x0A520B39 = .ok (.subP 5 8 11 14 0 1) ∧ decodeSlot 1 0x0C520B39 = .ok (.mul 5 8 11 14 0 1) ∧
    decodeSlot 1 0x0D520B39 = .ok (.mulN 5 8 11 14 0 1) ∧ decodeSlot 1 0x0E520B39 = .ok (.mulP 5 8 11 14 0 1) ∧
    decodeSlot 1 0x10520B39 = .ok (.min 5 8 11 14 0 1) ∧ decodeSlot 1 0x11520B39 = .ok (.minN 5 8 11 14 0 1) ∧
    decodeSlot 1 0x12520B39 = .ok (.minP 5 8 11 14 0 1) ∧ decodeSlot 1 0x14520B39 = .ok (.max 5 8 11 14 0 1) ∧
    decodeSlot 1 0x15520B39 = .ok (.maxN 5 8 11 14 0 1) ∧ decodeSlot 1 0x16520B39 = .ok (.maxP 5 8 11 14 0 1) ∧
    decodeSlot 1 0x18520B02 = .ok (.abs 5 8 11 1) ∧ decodeSlot 1 0x19520B02 = .ok (.absN 5 8 11 1) ∧
    decodeSlot 1 0x1A520B02 = .ok (.absP 5 8 11 1) ∧ decodeSlot 1 0x1C520B02 = .ok (.neg 5 8 11 1) ∧
    decodeSlot 1 0x1D520B02 = .ok (.negN 5 8 11 1) ∧ decodeSlot 1 0x1E520B02 = .ok (.negP 5 8 11 1) ∧
    decodeSlot 1 0x20520B02 = .ok (.mov 5 8 11 1) ∧ decodeSlot 1 0x21520B02 = .ok (.movN 5 8 11 1) ∧
    decodeSlot 1 0x22520B02 = .ok (.movP 5 8 11 1) ∧ decodeSlot 1 0x24520B0E = .ok (.addi 5 8 11 14) ∧
    decodeSlot 1 0x25520B0E = .ok (.addiN 5 8 11 14) ∧ decodeSlot 1 0x26520B0E = .ok (.addiP 5 8 11 14) ∧
    decodeSlot 1 0x28520B0E = .ok (.muli 5 8 11 14) ∧ decodeSlot 1 0x29520B0E = .ok (.muliN 5 8 11 14) ∧
    decodeSlot 1 0x2A520B0E = .ok (.muliP 5 8 11 14) ∧ decodeSlot 1 0x2C520B39 = .ok (.and 5 8 11 14 0 1) ∧
    decodeSlot 1 0x30520B39 = .ok (.or 5 8 11 14 0 1) ∧ decodeSlot 1 0x34520B39 = .ok (.xor 5 8 11 14 0 1) ∧
    decodeSlot 1 0x38520B39 = .ok (.shl 5 8 11 14 0 1) ∧ decodeSlot 1 0x3C520B39 = .ok (.shr 5 8 11 14 0 1) ∧
    decodeSlot 1 0x40520B39 = .ok (.sar 5 8 11 14 0 1) ∧ decodeSlot 1 0x44520B39 = .ok (.eq 5 8 11 14 0 1) ∧
    decodeSlot 1 0x4550082E = .ok (.eqN 5 8 11 1 0) ∧ decodeSlot 1 0x4650082E = .ok (.eqP 5 8 11 1 0) :=
  ⟨rfl, rfl, rfl, rfl, rfl, rfl, rfl, rfl, rfl, rfl, rfl, rfl, rfl, rfl, rfl, rfl, rfl, rfl, rfl, rfl, rfl, rfl, rfl, rfl, rfl,
   rfl, rfl, rfl, rfl, rfl, rfl, rfl, rfl, rfl, rfl, rfl, rfl, rfl, rfl, rfl⟩

/-- R108 and the encoding table of slot 1. -/
theorem test_decode_domain_2 :
    decodeSlot 1 0x48520B39 = .ok (.ne 5 8 11 14 0 1) ∧ decodeSlot 1 0x4950082E = .ok (.neN 5 8 11 1 0) ∧
    decodeSlot 1 0x4A50082E = .ok (.neP 5 8 11 1 0) ∧ decodeSlot 1 0x4C520B39 = .ok (.lt 5 8 11 14 0 1) ∧
    decodeSlot 1 0x4D50082E = .ok (.ltN 5 8 11 1 0) ∧ decodeSlot 1 0x4E50082E = .ok (.ltP 5 8 11 1 0) ∧
    decodeSlot 1 0x50520B39 = .ok (.le 5 8 11 14 0 1) ∧ decodeSlot 1 0x5150082E = .ok (.leN 5 8 11 1 0) ∧
    decodeSlot 1 0x5250082E = .ok (.leP 5 8 11 1 0) ∧ decodeSlot 1 0x54520B0E = .ok (.eqi 5 8 11 14) ∧
    decodeSlot 1 0x5550080B = .ok (.eqiN 5 8 11) ∧ decodeSlot 1 0x5650080B = .ok (.eqiP 5 8 11) ∧
    decodeSlot 1 0x58520B0E = .ok (.nei 5 8 11 14) ∧ decodeSlot 1 0x5950080B = .ok (.neiN 5 8 11) ∧
    decodeSlot 1 0x5A50080B = .ok (.neiP 5 8 11) ∧ decodeSlot 1 0x5C520B0E = .ok (.lti 5 8 11 14) ∧
    decodeSlot 1 0x5D50080B = .ok (.ltiN 5 8 11) ∧ decodeSlot 1 0x5E50080B = .ok (.ltiP 5 8 11) ∧
    decodeSlot 1 0x60520B0E = .ok (.lei 5 8 11 14) ∧ decodeSlot 1 0x6150080B = .ok (.leiN 5 8 11) ∧
    decodeSlot 1 0x6250080B = .ok (.leiP 5 8 11) ∧ decodeSlot 1 0x64520B0E = .ok (.gti 5 8 11 14) ∧
    decodeSlot 1 0x6550080B = .ok (.gtiN 5 8 11) ∧ decodeSlot 1 0x6650080B = .ok (.gtiP 5 8 11) ∧
    decodeSlot 1 0x68520B0E = .ok (.gei 5 8 11 14) ∧ decodeSlot 1 0x6950080B = .ok (.geiN 5 8 11) ∧
    decodeSlot 1 0x6A50080B = .ok (.geiP 5 8 11) ∧ decodeSlot 1 0x6C520B02 = .ok (.dlo 5 8 11 1) ∧
    decodeSlot 1 0x70520B02 = .ok (.dhi 5 8 11 1) ∧ decodeSlot 1 0x74520B02 = .ok (.dsize 5 8 11 1) ∧
    decodeSlot 1 0x78520B02 = .ok (.dmid 5 8 11 1) ∧ decodeSlot 1 0x7C520B39 = .ok (.dset 5 8 11 14 0 1) ∧
    decodeSlot 1 0x80520000 = .ok (.dfull 5 8) ∧ decodeSlot 1 0x84520B02 = .ok (.single 5 8 11 1) ∧
    decodeSlot 1 0x88520B39 = .ok (.div 5 8 11 14 0 1) ∧ decodeSlot 1 0x8C520B39 = .ok (.rem 5 8 11 14 0 1) ∧
    decodeSlot 1 0x90500000 = .ok (.ckpt 5) ∧ decodeSlot 1 0x94500000 = .ok (.roll 5) ∧
    decodeSlot 1 0x98500000 = .ok (.commit 5) :=
  ⟨rfl, rfl, rfl, rfl, rfl, rfl, rfl, rfl, rfl, rfl, rfl, rfl, rfl, rfl, rfl, rfl, rfl, rfl, rfl, rfl, rfl, rfl, rfl, rfl, rfl,
   rfl, rfl, rfl, rfl, rfl, rfl, rfl, rfl, rfl, rfl, rfl, rfl, rfl, rfl⟩

/-- R108 and the encoding table of slot 2. -/
theorem test_decode_address :
    decodeSlot 2 0x00000000 = .ok .nopAdr ∧ decodeSlot 2 0x0550B700 = .ok (.adda 5 8 11 14) ∧
    decodeSlot 2 0x0950B700 = .ok (.suba 5 8 11 14) ∧ decodeSlot 2 0x0D50B700 = .ok (.mula 5 8 11 14) ∧
    decodeSlot 2 0x1150B700 = .ok (.anda 5 8 11 14) ∧ decodeSlot 2 0x1550B700 = .ok (.ora 5 8 11 14) ∧
    decodeSlot 2 0x1950B700 = .ok (.xora 5 8 11 14) ∧ decodeSlot 2 0x1D50B700 = .ok (.shla 5 8 11 14) ∧
    decodeSlot 2 0x2150B700 = .ok (.shra 5 8 11 14) ∧ decodeSlot 2 0x2550B700 = .ok (.sara 5 8 11 14) ∧
    decodeSlot 2 0x2950B00E = .ok (.addai 5 8 11 14) ∧ decodeSlot 2 0x2D50000B = .ok (.li 5 8 11) ∧
    decodeSlot 2 0x3150B00E = .ok (.shlai 5 8 11 14) ∧ decodeSlot 2 0x3550B710 = .ok (.cmpa 5 8 11 14 1) ∧
    decodeSlot 2 0x3950BC11 = .ok (.cmpai 5 8 11 6 17) ∧ decodeSlot 2 0x3C288178 = .ok (.plogic 5 8 11 6) ∧
    decodeSlot 2 0x40280000 = .ok (.pset 5 0) ∧ decodeSlot 2 0x45100000 = .ok (.arm 1 8 0) ∧
    decodeSlot 2 0x49800000 = .ok (.armm 1 8) ∧ decodeSlot 2 0x4D62F880 = .ok (.mlogic 5 8 11 14 1) ∧
    decodeSlot 2 0x51516000 = .ok (.mcnt 5 8 11) ∧ decodeSlot 2 0x55516000 = .ok (.mfirst 5 8 11) ∧
    decodeSlot 2 0x5960B000 = .ok (.mfill 5 8 11) ∧ decodeSlot 2 0x5D605800 = .ok (.mfromp 5 8 11) ∧
    decodeSlot 2 0x61505800 = .ok (.movka 5 8 11) ∧ decodeSlot 2 0x65485800 = .ok (.movak 5 8 11) ∧
    decodeSlot 2 0x6950B711 = .ok (.sela 5 8 11 14 17) ∧ decodeSlot 2 0x6D45B800 = .ok (.ldelta 5 0 11 14) ∧
    decodeSlot 2 0x71518000 = .ok (.getlc 5 8 3) ∧ decodeSlot 2 0x7550000B = .ok (.movs 5 8 11) ∧
    decodeSlot 2 0x7940800B = .ok (.movg 5 8 11) :=
  ⟨rfl, rfl, rfl, rfl, rfl, rfl, rfl, rfl, rfl, rfl, rfl, rfl, rfl, rfl, rfl, rfl, rfl, rfl, rfl, rfl, rfl, rfl, rfl, rfl, rfl,
   rfl, rfl, rfl, rfl, rfl, rfl⟩

/-- R108 and the encoding table of slot 3. -/
theorem test_decode_vector_1 :
    decodeSlot 3 0x00000000 = .ok .nopVec ∧ decodeSlot 3 0x02520B39 = .ok (.vaddF 5 8 11 14 0 1) ∧
    decodeSlot 3 0x04520B39 = .ok (.vsubF 5 8 11 14 0 1) ∧ decodeSlot 3 0x06520B39 = .ok (.vmulF 5 8 11 14 0 1) ∧
    decodeSlot 3 0x08520B39 = .ok (.vfmaF 5 8 11 14 0 1) ∧ decodeSlot 3 0x0A520B39 = .ok (.vfmsF 5 8 11 14 0 1) ∧
    decodeSlot 3 0x0C520B39 = .ok (.vminF 5 8 11 14 0 1) ∧ decodeSlot 3 0x0E520B39 = .ok (.vmaxF 5 8 11 14 0 1) ∧
    decodeSlot 3 0x10520B02 = .ok (.vabsF 5 8 11 1) ∧ decodeSlot 3 0x12520B02 = .ok (.vnegF 5 8 11 1) ∧
    decodeSlot 3 0x14520B02 = .ok (.vrcpF 5 8 11 1) ∧ decodeSlot 3 0x16520B02 = .ok (.vrsqF 5 8 11 1) ∧
    decodeSlot 3 0x18520B02 = .ok (.vexp2F 5 8 11 1) ∧ decodeSlot 3 0x1A520B02 = .ok (.vlog2F 5 8 11 1) ∧
    decodeSlot 3 0x1C520B39 = .ok (.vcmpeqF 5 8 11 14 0 1) ∧ decodeSlot 3 0x1E520B39 = .ok (.vcmpltF 5 8 11 14 0 1) ∧
    decodeSlot 3 0x20520B39 = .ok (.vcmpleF 5 8 11 14 0 1) ∧ decodeSlot 3 0x30520B39 = .ok (.vaddI 5 8 11 14 0 1) ∧
    decodeSlot 3 0x32520B39 = .ok (.vsubI 5 8 11 14 0 1) ∧ decodeSlot 3 0x34520B39 = .ok (.vmulI 5 8 11 14 0 1) ∧
    decodeSlot 3 0x36520B39 = .ok (.vminI 5 8 11 14 0 1) ∧ decodeSlot 3 0x38520B39 = .ok (.vmaxI 5 8 11 14 0 1) ∧
    decodeSlot 3 0x3A520B39 = .ok (.vand 5 8 11 14 0 1) ∧ decodeSlot 3 0x3C520B39 = .ok (.vor 5 8 11 14 0 1) ∧
    decodeSlot 3 0x3E520B39 = .ok (.vxor 5 8 11 14 0 1) ∧ decodeSlot 3 0x40520B39 = .ok (.vshl 5 8 11 14 0 1) ∧
    decodeSlot 3 0x42520B39 = .ok (.vshr 5 8 11 14 0 1) ∧ decodeSlot 3 0x44520B39 = .ok (.vsar 5 8 11 14 0 1) ∧
    decodeSlot 3 0x46520B39 = .ok (.vcmpeqI 5 8 11 14 0 1) ∧ decodeSlot 3 0x48520B39 = .ok (.vcmpltI 5 8 11 14 0 1) ∧
    decodeSlot 3 0x50520B02 = .ok (.vcvtFi 5 8 11 1) ∧ decodeSlot 3 0x52520B02 = .ok (.vcvtIf 5 8 11 1) ∧
    decodeSlot 3 0x54520B39 = .ok (.vpkbf 5 8 11 14 0 1) ∧ decodeSlot 3 0x56520B04 = .ok (.vunbf 5 8 11 1 0) ∧
    decodeSlot 3 0x58520B38 = .ok (.vcvtn 5 8 11 14 0) ∧ decodeSlot 3 0x5A520B38 = .ok (.vcvtw 5 8 11 14 0) ∧
    decodeSlot 3 0x60520B02 = .ok (.vmov 5 8 11 1) ∧ decodeSlot 3 0x63520B39 = .ok (.vsel 5 8 11 14 0 1) ∧
    decodeSlot 3 0x64520B02 = .ok (.vbca 5 8 11 1) ∧ decodeSlot 3 0x66520B02 = .ok (.vbck 5 8 11 1) :=
  ⟨rfl, rfl, rfl, rfl, rfl, rfl, rfl, rfl, rfl, rfl, rfl, rfl, rfl, rfl, rfl, rfl, rfl, rfl, rfl, rfl, rfl, rfl, rfl, rfl, rfl,
   rfl, rfl, rfl, rfl, rfl, rfl, rfl, rfl, rfl, rfl, rfl, rfl, rfl, rfl, rfl⟩

/-- R108 and the encoding table of slot 3. -/
theorem test_decode_vector_2 :
    decodeSlot 3 0x68520B39 = .ok (.vperm 5 8 11 14 0 1) ∧ decodeSlot 3 0x6A520B38 = .ok (.vext 5 8 11 14 0) ∧
    decodeSlot 3 0x6C520B38 = .ok (.vins 5 8 11 14 0) ∧ decodeSlot 3 0x6E520000 = .ok (.viota 5 8) ∧
    decodeSlot 3 0x70520B02 = .ok (.vsumx 5 8 11 1) ∧ decodeSlot 3 0x72520B02 = .ok (.vmaxr 5 8 11 1) ∧
    decodeSlot 3 0x74520B02 = .ok (.vminr 5 8 11 1) ∧ decodeSlot 3 0x76520B02 = .ok (.vsumi 5 8 11 1) :=
  ⟨rfl, rfl, rfl, rfl, rfl, rfl, rfl, rfl⟩

/-- R108 and the encoding table of slot 4. -/
theorem test_decode_interval :
    decodeSlot 4 0x00000000 = .ok .nopIvl ∧ decodeSlot 4 0x02542DC0 = .ok (.qadd 5 8 11 14) ∧
    decodeSlot 4 0x04542DC0 = .ok (.qsub 5 8 11 14) ∧ decodeSlot 4 0x06542DC0 = .ok (.qmul 5 8 11 14) ∧
    decodeSlot 4 0x08542DD1 = .ok (.qfma 5 8 11 14 17) ∧ decodeSlot 4 0x0A542DC0 = .ok (.qdiv 5 8 11 14) ∧
    decodeSlot 4 0x0C542C00 = .ok (.qsqr 5 8 11) ∧ decodeSlot 4 0x0E542C00 = .ok (.qsqrt 5 8 11) ∧
    decodeSlot 4 0x10542C00 = .ok (.qrelu 5 8 11) ∧ decodeSlot 4 0x12542DC0 = .ok (.qmax 5 8 11 14) ∧
    decodeSlot 4 0x14542DC0 = .ok (.qmin 5 8 11 14) ∧ decodeSlot 4 0x16542C00 = .ok (.qneg 5 8 11) ∧
    decodeSlot 4 0x18542C00 = .ok (.qabs 5 8 11) ∧ decodeSlot 4 0x1A542C00 = .ok (.qexp 5 8 11) ∧
    decodeSlot 4 0x20542DC0 = .ok (.qmeet 5 8 11 14) ∧ decodeSlot 4 0x22542DC0 = .ok (.qhull 5 8 11 14) ∧
    decodeSlot 4 0x24542C00 = .ok (.qmid 5 8 11) ∧ decodeSlot 4 0x26542C00 = .ok (.qwid 5 8 11) ∧
    decodeSlot 4 0x28542C00 = .ok (.qbis 5 8 11) ∧ decodeSlot 4 0x30542DC0 = .ok (.qmake 5 8 11 14 0) ∧
    decodeSlot 4 0x32542C01 = .ok (.qpoint 5 8 11 1) ∧ decodeSlot 4 0x34542C01 = .ok (.qlo 5 8 11 1) ∧
    decodeSlot 4 0x36542C01 = .ok (.qhi 5 8 11 1) ∧ decodeSlot 4 0x38540000 = .ok (.qent 5 8) ∧
    decodeSlot 4 0x3A540000 = .ok (.qemp 5 8) ∧ decodeSlot 4 0x3C542C00 = .ok (.qbca 5 8 11) ∧
    decodeSlot 4 0x40502DD1 = .ok (.qcmp 5 0 11 14 17) ∧ decodeSlot 4 0x42542DD1 = .ok (.qtest 5 8 11 14 17) ∧
    decodeSlot 4 0x50542DC0 = .ok (.qaddC 5 8 11 14) ∧ decodeSlot 4 0x52542DC0 = .ok (.qsubC 5 8 11 14) ∧
    decodeSlot 4 0x54542DC0 = .ok (.qmulC 5 8 11 14) ∧ decodeSlot 4 0x56542DD1 = .ok (.qfmaC 5 8 11 14 17) ∧
    decodeSlot 4 0x58542C00 = .ok (.qsqrC 5 8 11) ∧ decodeSlot 4 0x5A542C00 = .ok (.qreluC 5 8 11) ∧
    decodeSlot 4 0x5C542DC0 = .ok (.qmaxC 5 8 11 14) ∧ decodeSlot 4 0x5E542C00 = .ok (.qexpC 5 8 11) ∧
    decodeSlot 4 0x60502160 = .ok (.qleC 5 8 11) ∧ decodeSlot 4 0x70540000 = .ok (.qstat 5 8 0) :=
  ⟨rfl, rfl, rfl, rfl, rfl, rfl, rfl, rfl, rfl, rfl, rfl, rfl, rfl, rfl, rfl, rfl, rfl, rfl, rfl, rfl, rfl, rfl, rfl, rfl, rfl,
   rfl, rfl, rfl, rfl, rfl, rfl, rfl, rfl, rfl, rfl, rfl, rfl, rfl⟩

/-- R108 and the encoding table of slot 5. -/
theorem test_decode_memory :
    decodeSlot 5 0x00000000 = .ok .nopMem ∧ decodeSlot 5 0x0548580E = .ok (.ldsV 5 8 11 14) ∧
    decodeSlot 5 0x0948580E = .ok (.stsV 5 8 11 14) ∧ decodeSlot 5 0x0D48580E = .ok (.ldsQ 5 8 11 14) ∧
    decodeSlot 5 0x1148580E = .ok (.stsQ 5 8 11 14) ∧ decodeSlot 5 0x1548580E = .ok (.ldsK 5 8 11 14) ∧
    decodeSlot 5 0x1948580E = .ok (.stsK 5 8 11 14) ∧ decodeSlot 5 0x1D48580E = .ok (.ldsA 5 8 11 14) ∧
    decodeSlot 5 0x2148580E = .ok (.stsA 5 8 11 14) ∧ decodeSlot 5 0x254859C0 = .ok (.ldsVx 5 8 11 14) ∧
    decodeSlot 5 0x294859C0 = .ok (.stsVx 5 8 11 14) ∧ decodeSlot 5 0x41485C11 = .ok (.ldgA 5 8 11 4 17) ∧
    decodeSlot 5 0x45485C11 = .ok (.stgA 5 8 11 4 17) ∧ decodeSlot 5 0x49485C11 = .ok (.ldgV 5 8 11 4 17) ∧
    decodeSlot 5 0x4D485C11 = .ok (.stgV 5 8 11 4 17) ∧ decodeSlot 5 0x51485C22 = .ok (.ldgK 5 8 11 4 17) ∧
    decodeSlot 5 0x51485C23 = .ok (.ldgKN 5 8 11 4 17) ∧ decodeSlot 5 0x6150B740 = .ok (.aadd 5 8 11 14 4) ∧
    decodeSlot 5 0x6550B740 = .ok (.amax 5 8 11 14 4) ∧ decodeSlot 5 0x6950B740 = .ok (.amin 5 8 11 14 4) ∧
    decodeSlot 5 0x6D50B740 = .ok (.axch 5 8 11 14 4) ∧ decodeSlot 5 0x7150B740 = .ok (.acas 5 8 11 14 4) ∧
    decodeSlot 5 0x7550B740 = .ok (.amaxf 5 8 11 14 4) ∧ decodeSlot 5 0x7950B040 = .ok (.amaxrst 5 8 11 4) ∧
    decodeSlot 5 0x81408580 = .ok (.xadd 5 8 11) ∧ decodeSlot 5 0x854082C0 = .ok (.xaddv 5 8 11) ∧
    decodeSlot 5 0x8950B800 = .ok (.xrd 5 8 11 2) ∧ decodeSlot 5 0x8D485C00 = .ok (.xrdv 5 8 11 2) ∧
    decodeSlot 5 0x91408160 = .ok (.xclr 5 8 11) ∧ decodeSlot 5 0xA1400000 = .ok (.fenceAcq 5 0) ∧
    decodeSlot 5 0xA1400008 = .ok (.fenceRel 5 0) ∧ decodeSlot 5 0xA1400010 = .ok (.fenceFull 5 0) ∧
    decodeSlot 5 0xC1485800 = .ok (.push 5 8 11) ∧ decodeSlot 5 0xC5485B80 = .ok (.pusht 5 8 11 14) ∧
    decodeSlot 5 0xC9485B80 = .ok (.pushqw 5 8 11 14) ∧ decodeSlot 5 0xCD485800 = .ok (.pop 5 8 11) ∧
    decodeSlot 5 0xD1485800 = .ok (.pushr 5 8 11) ∧ decodeSlot 5 0xD5485800 = .ok (.popr 5 8 11) ∧
    decodeSlot 5 0xE1408000 = .ok (.cbinv 5 8) :=
  ⟨rfl, rfl, rfl, rfl, rfl, rfl, rfl, rfl, rfl, rfl, rfl, rfl, rfl, rfl, rfl, rfl, rfl, rfl, rfl, rfl, rfl, rfl, rfl, rfl, rfl,
   rfl, rfl, rfl, rfl, rfl, rfl, rfl, rfl, rfl, rfl, rfl, rfl, rfl, rfl⟩

/-- R108 and the encoding table of slot 6. -/
theorem test_decode_anvil :
    decodeSlot 6 0x00000000 = .ok .nopMtx ∧ decodeSlot 6 0x04016000 = .ok (.claim 5 8) ∧
    decodeSlot 6 0x08014000 = .ok (.release 5) ∧ decodeSlot 6 0x0C2A0160 = .ok (.ldw 5 8 11) ∧
    decodeSlot 6 0x10000000 = .ok .swpw ∧ decodeSlot 6 0x142A0170 = .ok (.acc 5 8 11 2) ∧
    decodeSlot 6 0x182A0170 = .ok (.accz 5 8 11 2) ∧ decodeSlot 6 0x1C2A0170 = .ok (.drain 5 8 11 2 0) ∧
    decodeSlot 6 0x1C280102 = .ok (.drainF32 5 8 0) :=
  ⟨rfl, rfl, rfl, rfl, rfl, rfl, rfl, rfl, rfl⟩

/-- R108 and the encoding table of slot 7. -/
theorem test_decode_copy :
    decodeSlot 7 0x00000000 = .ok .nopCpy ∧ decodeSlot 7 0x08A85B80 = .ok (.cg2s 5 8 11 14) ∧
    decodeSlot 7 0x080542C1 = .ok (.cg2sDc 5 8 11) ∧ decodeSlot 7 0x10A85B80 = .ok (.cs2g 5 8 11 14) ∧
    decodeSlot 7 0x100542C1 = .ok (.cs2gDc 5 8 11) ∧ decodeSlot 7 0x18A85B80 = .ok (.cg2o ⟨0, 5⟩ 8 11 14) ∧
    decodeSlot 7 0x20A85B80 = .ok (.cs2o ⟨0, 5⟩ 8 11 14) ∧ decodeSlot 7 0x28A85B80 = .ok (.cg2g 5 8 11 14) ∧
    decodeSlot 7 0x280542C1 = .ok (.cg2gDc 5 8 11) ∧ decodeSlot 7 0x30A85B80 = .ok (.cxred 5 8 11 14) ∧
    decodeSlot 7 0x300542C1 = .ok (.cxredDc 5 8 11) ∧ decodeSlot 7 0x38A00200 = .ok (.tset 5 8) ∧
    decodeSlot 7 0x40A00200 = .ok (.tdrain 5 8) ∧ decodeSlot 7 0x48002800 = .ok (.gidx 5) ∧
    decodeSlot 7 0x50A85B80 = .ok (.gather 5 8 11 14) ∧ decodeSlot 7 0x58000000 = .ok .gend :=
  ⟨rfl, rfl, rfl, rfl, rfl, rfl, rfl, rfl, rfl, rfl, rfl, rfl, rfl, rfl, rfl, rfl⟩
/-! ### States that meet the hypotheses of the statements: slots 1 to 4 -/

/-- A context on core 0 is issuing: a fresh start with 16 ingots. -/
def testState : State := { State.reset with live := placedContext, issue := placedContext, uid := 1 }

/-- The same with some registers and some state of the issuing context put in place. -/
def testWith (f : Context → Context) : State := { testState with live := f placedContext, issue := f placedContext }

/-- The same with some a registers. -/
def testA (a : Tbl W64) : State := testWith fun c => { c with regs := { c.regs with a := a } }

/-- Buffer 2 armed since eight cycles, and one entry on the return stack. -/
def testTail : State :=
  { testWith (fun c => { c with flow := { c.flow with
      bufs := Tbl.put [] 2 { st := .armedTaken, target := 9, kind := .prepr, at_ := 0 }, rstack := [4] } }) with mcc := 8 }

theorem witness_tailReady : testTail.tailReady 1 2 ∧ testState.tailReady 0 0 :=
  ⟨fun _ => ⟨by decide, by decide, by decide, by decide⟩, fun h => absurd h (by decide)⟩

theorem witness_guards :
    testState.guard4 0 = true ∧ testState.guard4 1 = false ∧ testState.runs64 0 = true ∧ testState.runs64 1 = false ∧
    testState.runs32 0 = true ∧ testState.runs32 1 = false ∧ testState.runsAny 0 = true ∧ testState.runsAny 1 = false := by decide

theorem witness_full :
    testState.full [kRef 63, kRef 0, kRef 31, aRef 31, aRef 0, vRef 63, vRef 0, qRef 31, qRef 0] = true := by decide

theorem witness_IntAssignResults : testState.issue.swage.bound 63 = false := by decide

theorem witness_IntPostResults :
    testState.issue.swage.store.length < 512 ∧
    (testWith fun c => { c with swage := { c.swage with store := List.replicate 511 { op := .add, d := 1, a := 2, b := 3, imm := 0 } } }
      ).issue.swage.store.length < 512 := by decide

/-- Dividends and divisors: k1 = 7, k2 = −2, k3 = 0. -/
def testK : State := testWith fun c => { c with regs := { c.regs with k := [(1, domSingle 7), (2, domSingle (-2)), (3, domSingle 0)] } }

theorem witness_DivisionResults :
    domMember? (testK.k 1) = some 7 ∧ domMember? (testK.k 2) = some (-2) ∧ domMember? (testK.k 3) = some 0 ∧
    testK.issue.swage.bound 4 = false ∧ testK.full [kRef 1, kRef 2, kRef 4] = true := by decide

theorem witness_CheckpointResults :
    (testWith fun c => { c with swage := { c.swage with ckpts := List.replicate 127 (0, 0) } }).issue.swage.ckpts.length < 128 ∧
    0 < (testWith fun c => { c with swage := { c.swage with ckpts := [(0, 0)] } }).issue.swage.ckpts.length := by decide

theorem witness_AdrPredicateAndMaskResults :
    (testTail.buf 2).st ≠ .empty ∧ testTail.p 1 ≠ predU ∧ testTail.m 1 = 0 ∧ testTail.m 0 = BitVec.allOnes 64 := by decide

theorem witness_AdrMoveResults :
    domMember? (testK.k 1) = some 7 ∧ testK.issue.swage.bound 5 = false ∧ sysReads 0x051 = true ∧ sysWrites 0x010 = true ∧
    sysWrites 0x03B = true ∧ ((testA [(1, 1), (2, 65535)]).a 1).toNat = 1 ∧ ((testA [(1, 1), (2, 65535)]).a 2).toNat ≤ 65535 ∧
    ((testA [(1, 2 ^ 62)]).a 1).toNat ≤ 2 ^ 62 := by decide

theorem witness_VecConversionResults : fmtValid (testState.fmtReg 0) = true ∧ fmtValid (testState.fmtReg 15) = true := by decide

theorem witness_VecMoveResults :
    bitOf (testState.guard5 0) 63 = true ∧ bitOf (testState.guard5 1) 0 = false ∧ domMember? (testState.k 0) = some 0 := by decide

/-! ### Slots 5 to 7 -/

/-- Addresses: a1 is the last place of a 256-byte access to the scratchpad, a2 of a 16-byte, a3 of an 8-byte and a4 of a 4-byte one, a5
of a 64-byte one. -/
def testScr : State := testA [(1, 589568), (2, 589808), (3, 589816), (4, 589820), (5, 589760)]

theorem witness_ScratchpadResults :
    testScr.scrOff 1 0 256 + 256 ≤ testScr.issue.scrSize ∧ testScr.scrOff 1 0 256 % 64 = 0 ∧
    testScr.issue.viewMarked? testScr.tick (testScr.scrOff 1 0 256) 256 = none ∧
    testScr.scrOff 2 0 16 + 16 = testScr.issue.scrSize ∧ testScr.scrOff 2 0 16 % 16 = 0 ∧
    testScr.scrOff 3 0 8 + 8 = testScr.issue.scrSize ∧ testScr.scrOff 3 0 8 % 8 = 0 ∧
    testScr.scrOff 0 0 256 = 0 ∧ testScr.issue.swage.bound 63 = false ∧
    testScr.full [aRef 1, aRef 2, aRef 3, vRef 63, kRef 63, qRef 31] = true := by decide +kernel

theorem witness_IndexedScratchpadResults :
    (testScr.a 0).toNat % 4 = 0 ∧ (∀ o ∈ testScr.laneOffs 0 7, o + 4 ≤ testScr.issue.scrSize) ∧ testScr.laneOffs 0 7 ≠ [] ∧
    (∀ o ∈ testScr.laneOffs 4 7, o + 4 ≤ testScr.issue.scrSize) := by decide +kernel

theorem witness_GlobalAccessResults :
    (testScr.gva 0 1 256).toNat % 64 = 0 ∧ (testScr.gva 0 0xFF 256).toNat % 64 = 0 ∧ (testScr.gva 0 3 16).toNat % 16 = 0 ∧
    (testScr.gva 0 5 8).toNat % 8 = 0 ∧ (testScr.gva 4 0 8).toNat % 4 = 0 ∧ testScr.issue.swage.bound 9 = false := by decide

theorem witness_ExactAccumulatorResults :
    testScr.live.run.suppress = [] ∧ (testScr.gva 0 0 8).toNat % 64 = 0 ∧
    (testScr.gva 0 0 8).toNat % 4096 + 64 * ((63 : BitVec 7).toNat + 1) ≤ 4096 ∧
    (testScr.a 5).toNat % 64 = 0 ∧ testScr.full [aRef 0, aRef 5, vRef 1] = true := by decide

/-- A binding with one object, one domain, 16 save slots and one page of overflow; its tables start at page 1. -/
def testBind : Bind :=
  { walkd := 0, objt := 0x1000, qdt := 0x1100, dept := 0x1200, save := 0x100000, ovfl := 0, objn := 1, qdn := 1, saven := 16, ovfn := 1,
    desc := none }

/-- PASID 0 is bound, and two queues of cluster 0: qid 16 FIFO, qid 17 in ticket mode at ticket 5. -/
def testQueues : State :=
  { testA [(1, 5), (2, 64)] with
    mmu := { Mmu.fresh with binds := [(0, testBind)] }
    clusters := [(0, { Cluster.fresh with value := [(17, { VQueue.fresh with ticketMode := true, nt := 5 })] })] }

theorem witness_QueueOperationResults :
    testQueues.live.run.suppress = [] ∧ testQueues.placeFree = true ∧ (testQueues.queue 16).ticketMode = false ∧
    (testQueues.queue 17).ticketMode = true ∧ (testQueues.a 1).ult (testQueues.queue 17).nt = false ∧
    (∀ e ∈ (testQueues.queue 17).entries, e.ticket ≠ testQueues.a 1) ∧ (testQueues.a 0).toNat ≤ testQueues.issue.sys.myw.toNat ∧
    (testQueues.a 2).toNat + 64 ≤ testQueues.issue.scrSize ∧ (testQueues.a 2).toNat % 64 = 0 ∧
    testQueues.full [aRef 0, aRef 1, aRef 2] = true := by decide

/-- Slot 3 is claimed and READY, entry 2 of the tiles claimed and FILLING, 33 FILLING, 34 DRAINING and 35 READY in phase 1; the context
owns the Anvil; a1 is a length of 64, a2 of 256 bytes, a3 of 256 bytes for 1 row of a gather. -/
def testTiles : State :=
  let s := testWith fun c => { c with
    regs := { c.regs with a := [(1, 64), (2, 256), (3, 0x10100)] }
    mem := { c.mem with te := [(2, mkTe true 0 5 0 teFilling), (3, mkTe true 0 0 0 teReady), (33, mkTe false 0 5 0 teFilling),
                               (34, mkTe false 0 5 0 teDraining), (35, mkTe false 0 0 1 teReady)] } }
  { s with cores := Tbl.put [] 0 { Core.fresh with owner := some 1 } }

theorem witness_AnvilCommandResults :
    teClaimed (testTiles.issue.te 0) = false ∧ testTiles.ownsAnvil = true ∧ (testState.coreOf testState.core).owner = none ∧
    fmtValid (testTiles.fmtReg 0) = true ∧ testTiles.issue.anvil.run = none ∧ testTiles.issue.anvil.ldw = none ∧
    teClaimed (testTiles.issue.te 3) = true ∧ teSt (testTiles.issue.te 3) = teReady ∧
    testTiles.issue.anvil.reads 3 = false ∧ classOf (testTiles.fmtReg 0) = testTiles.issue.anvil.act.cls ∧
    testTiles.issue.accRows = 512 ∧ testTiles.issue.anvil.pendingRow 384 128 = none ∧
    testTiles.issue.sys.drp.toNat + 128 * drainBytes false (testTiles.fmtReg 0) + 4 ≤ testTiles.issue.scrSize ∧
    testTiles.issue.sys.drp.toNat + 128 * drainBytes true 0 + 4 ≤ testTiles.issue.scrSize := by decide +kernel

theorem witness_CopyResults :
    testTiles.sumCore Context.threads < 64 ∧ (testTiles.a 1).extractLsb' 32 32 = 0 ∧ (low32 (testTiles.a 1)).toNat = 64 ∧
    (low32 (testTiles.a 2)).toNat = 256 ∧ teSt (testTiles.issue.te 33) = teFilling ∧ teSt (testTiles.issue.te 34) = teDraining ∧
    teClaimed (testTiles.issue.te 2) = true ∧ teSt (testTiles.issue.te 2) = teFilling ∧
    fmtValid (testTiles.fmtReg (teFmt (testTiles.issue.te 2))) = true ∧ 64 ≤ streamBytes 0 ∧
    testTiles.full [aRef 0, aRef 1, aRef 2] = true := by decide +kernel

theorem witness_TileAndGatherResults :
    teSt (testTiles.issue.te 32) = teEmpty ∧ teSt (testTiles.issue.te 35) = teReady ∧ teClaimed (testTiles.issue.te 3) = true ∧
    testTiles.issue.anvil.reads 3 = false ∧ 1 ≤ (testTiles.a 1).toNat ∧ (testTiles.a 1).toNat ≤ 2 ^ 24 - 1 ∧
    testTiles.issue.gatherOpen = false ∧ (testTiles.a 3).extractLsb' 32 32 = 0 ∧ ((testTiles.a 3).extractLsb' 0 16).toNat = 256 ∧
    ((testTiles.a 3).extractLsb' 16 16).toNat = 1 := by decide +kernel

/-- The context of testTiles with a gather open. -/
def testGather : State := testWith fun c => { c with mem := { c.mem with gathers :=
  [{ id := 0, bclk := 0, off := 0, te := 33, ring := 0, base := 0, row := 64, rows := 1, queue := [], landed := 0, closed := false,
     phase := .waiting, hidden := [] }] } }

theorem witness_gather_open :
    testGather.issue.gatherOpen = true ∧ testGather.sumCore (fun c => sumNat (c.mem.gathers.map fun g => g.queue.length)) < 4096 := by
  decide

/-! ### Slot 0 -/

theorem witness_PrepareAndLoopResults :
    testTail.issue.flow.top = some 4 ∧ (testA [(1, 3)]).issue.flow.breaksNest 0 1 8 = false ∧ low32 ((testA [(1, 3)]).a 1) ≠ 0 ∧
    low32 ((testA [(1, 3)]).a 2) = 0 ∧
    (testWith fun c => { c with flow := { c.flow with loops := [(0, { Loop.none with active := true, start := 1, last := 8 })] } }
      ).issue.flow.breaksNest 1 1 8 = false := by decide

theorem witness_ControlResults :
    testState.drifts 5 = false ∧ (testWith fun c => { c with sys := { c.sys with driftt := 5 } }).drifts 5 = true ∧
    teSt (testTiles.issue.te 35) = teReady ∧ tePh (testTiles.issue.te 35) = 1 ∧
    (testWith fun c => { c with trap := { c.trap with handler := true } }).issue.trap.handler = true ∧
    testState.issue.sys.tpc.extractLsb' 32 16 = testState.issue.id.obj := by decide

/-- A member of gang 1 of the cluster scope, with the members given, and how far its SYNC has come. -/
def testGang (members : List Nat) (b : Barrier) : State :=
  { testWith (fun c => { c with id := { c.id with gang := some 1 }, flow := { c.flow with barrier := b } }) with
    gangs := [(1, { stack := false, members := members, arrived := [], restart := none })] }

theorem witness_SyncResults :
    (testGang [1, 2] .none).gangFits 0 = true ∧ (testGang [1, 2] .none).lastToArrive = false ∧
    (testGang [1] .arrived).gangFits 0 = true ∧ (testGang [1] .arrived).lastToArrive = true ∧
    (testGang [1, 2] .released).gangFits 0 = true ∧ (testGang [1, 2] .released).issue.flow.barrier = .released := by decide

/-- PASID 0 is bound, its first gigabyte is mapped to the same addresses of the device, and the context has a record of 16 ingots at the
start of its scratchpad. -/
def testBound (f : Context → Context) : State :=
  { testWith (fun c => f { c with mem := { c.mem with scr := [(0, recSet 0 20 32 0x00020401)] } }) with
    mmu := { Mmu.fresh with
      binds := [(0, testBind)]
      tlb := [{ unit := 0, pasid := 0, base := 0, size := 30, pa := 0, w := true, nx := false, dirty := true,
                walkd := testBind.walkd }] } }

theorem witness_SpawnResults :
    spawnBad ((testBound id).spawnRecord 0) = false ∧ (testBound id).issue.viewMarked? (testBound id).tick 0 64 = none ∧
    (recField ((testBound id).spawnRecord 0) 0 16 : BitVec 16).toNat < (((testBound id).bind? 0).map (·.objn)).getD 0 ∧
    (testBound id).issue.inDomain = false ∧ (testBound id).takesSpawn 15 = true ∧ testState.takesSpawn 15 = false := by decide +kernel

/-- The context is in domain 0 with a weight and a borrow size. -/
def testDomain (w bsz : W64) : State := testBound fun c => { c with sys := { c.sys with qdi := 0, myw := w, qbsz := bsz } }

theorem witness_spawn_spills :
    (testDomain 1 (2 ^ 64 - 1)).issue.inDomain = true ∧ (testDomain 1 (2 ^ 64 - 1)).issue.sys.myw = 1 ∧
    (testDomain 1 (2 ^ 64 - 1)).borrowWait = none ∧ (testDomain 1 (2 ^ 64 - 1)).mywWait = none ∧
    overflows (testDomain 1 (2 ^ 64 - 1)).issue.sys.myw (testDomain 1 (2 ^ 64 - 1)).issue.sys.qbsz = true ∧
    spawnBad ((testDomain 1 (2 ^ 64 - 1)).spawnRecord 0) = false ∧ (testDomain 1 (2 ^ 64 - 1)).takesSpawn 15 = true ∧
    (testDomain 1 (2 ^ 64 - 1)).linkDown (testDomain 1 (2 ^ 64 - 1)).issue.home?.toNat = false ∧
    (testDomain 1 (2 ^ 64 - 1)).isPoisoned (testDomain 1 (2 ^ 64 - 1)).issue.home?.toNat 64 = false := by decide +kernel

/-- A return of the context is still on its way to the Hearth. -/
def testReturning : State :=
  let s := testDomain 1 65536
  let c := { s.issue with mem := { s.issue.mem with hearth := [{ id := 0, op := .ret 0 1 false 0 }] } }
  { s with live := c, issue := c }

/-- R45, R151: a borrow of QSPLIT waits for the return, and nothing else does; behind the borrow of a split MYW waits too. -/
theorem witness_borrow_waits :
    testReturning.full [aRef 31] = true ∧ testReturning.takesSpawn 15 = true ∧ testReturning.borrowWait = some 10 ∧ testReturning.mywWait = none ∧
    (let c := { testReturning.issue with mem := { testReturning.issue.mem with hearth := [{ id := 0, op := .borrow 0 65536 true }] } }
     ({ testReturning with live := c, issue := c } : State).mywWait = some 10) := by
  decide +kernel

theorem witness_WeightResults :
    testState.issue.inDomain = false ∧ (testDomain 1 65536).issue.inDomain = true ∧ 1 + 65536 < 2 ^ 64 ∧
    (testDomain 1 65536).borrowWait = none ∧ (testDomain 2 65536).borrowWait = none ∧ testState.borrowWait = none ∧
    (testDomain (2 ^ 64 - 1) 65536).issue.sys.myw.toNat + 1 = 2 ^ 64 ∧ (testDomain 0 65536).issue.sys.myw = 0 ∧
    (testDomain 2 65536).issue.sys.myw.toNat = 2 ∧ (testDomain 1 65536).full [aRef 31] = true := by decide +kernel

/-- Whose translations the test contexts go by. -/
def testAgent : Agent := placedContext.agent

theorem witness_DomainOperationResults :
    ∃ u, (testBound id).bind? (testBound id).issue.id.pasid = some testBind ∧ ((testBound id).a 0).toNat < testBind.qdn ∧
      (testBound id).nameDomain ((testBound id).issue.asks (testBound id).uid) 0 = (u, .block 0 0) ∧ u.issue.inDomain = false ∧ (testBound id).isHost 0 = false ∧ (testBound id).isPeer 0 = false ∧
      ((testBound id).a 0).toNat = 0 ∧
      (testBound fun c => { c with regs := { c.regs with a := [(1, 2 ^ 62)] } }).a 1 = 2 ^ 62 := by
  refine ⟨((testBound id).nameDomain ((testBound id).issue.asks (testBound id).uid) 0).1, ?_⟩
  decide +kernel

/-! ### Events -/

/-- A context on core 0, which runs it, with PASID 0 bound and its first gigabyte mapped. -/
def testRun (c : Context) : State := { testBound id with ctxs := [(1, c)], cores := [(0, { Core.fresh with cur := some 1 })] }

def testLoad : Acc :=
  { id := 0, off := 0, bclk := 0, va := 0x2000, op := .ldgA 3, ord := 0, wic := none, done := 0, phase := .waiting }

def testStore : Acc :=
  { id := 1, off := 0, bclk := 0, va := 0x303C, op := .store (leBytes 8 5), ord := 0, wic := some 1, done := 0, phase := .waiting }

/-- A load, a store that crosses a line, a division, a gather and a scatter of the scratchpad are out. -/
def testOut : Context := { placedContext with mem := { placedContext.mem with
  outs := [testLoad, testStore]
  divs := [{ id := 2, bclk := 0, off := 0, d := 4, result := some 3 }, { id := 3, bclk := 0, off := 0, d := 4, result := none }]
  scats := [{ id := 4, bclk := 0, at_ := 0, off := 0, r := 5, index := none, offs := [0], data := 0 },
            { id := 5, bclk := 0, at_ := 0, off := 0, r := 5, index := some 6, offs := [0], data := 0 },
            { id := 6, bclk := 0, at_ := 0, off := 0, r := 5, index := none, offs := [0], data := 0, bad := some 0 }] } }

theorem witness_AccessEventResults :
    (testRun testOut).ctx? 1 = some testOut ∧ testOut.acc? 0 = some testLoad ∧ testLoad.phase = .waiting ∧
    testOut.mem.holds testLoad = false ∧ (testRun testOut).accHeld 1 testOut testLoad [(0x2000, 8)] = false ∧
    (testRun testOut).accPlaces 1 testOut testLoad = some [(0x2000, 8)] ∧
    testOut.awake = true ∧ testLoad.op.reads = true ∧ testOut.midWake testLoad = false ∧
    (testRun testOut).accFault testOut testLoad [(0x2000, 8)] = none ∧
    ((testRun testOut).poisonLines 0x2000 8).accFault testOut testLoad [(0x2000, 8)] = some (0x30, 0, 0x2000, 0x2000) ∧
    ((testOut.mem.divs.find? fun d => d.id = 2).map (·.result)) = some (some 3) ∧
    ((testOut.mem.divs.find? fun d => d.id = 3).map (·.result)) = some none ∧
    ((testOut.mem.scats.find? fun x => x.id = 4 && !x.failed).map fun x => (x.index, x.bad)) = some (none, none) ∧
    ((testOut.mem.scats.find? fun x => x.id = 5 && !x.failed).map (·.index)) = some (some 6) ∧
    ((testOut.mem.scats.find? fun x => x.id = 6 && !x.failed).map fun x => (x.index, x.bad)) = some (none, some 0) := by decide +kernel

theorem witness_store_drains :
    (testRun testOut).ctx? 1 = some testOut ∧ testOut.acc? 1 = some testStore ∧ testStore.phase = .waiting ∧
    testOut.mem.holds testStore = false ∧ (testRun testOut).accHeld 1 testOut testStore [(0x303C, 4), (0x3040, 4)] = false ∧
    (testRun testOut).spans testOut.agent testStore.cellVa testStore.cellSize testStore.op.kind = some [(0x303C, 4), (0x3040, 4)] ∧
    testOut.drains = true ∧ testStore.op.reads = false ∧ testStore.op.size ≠ 0 ∧
    (testRun testOut).accFault testOut testStore [(0x303C, 4), (0x3040, 4)] = none ∧ bitOf testOut.dbg.dctl 4 = false := by
  decide +kernel

theorem witness_StoreDrains :
    ((match exec (.writeDrained 1 1) (testRun testOut) with
      | .next t => [t.byte 0x303C, t.byte 0x303B]
      | _ => []) : List Byte) = [5, 0] := by decide +kernel

/-- A copy into a FILLING entry and a gather whose first row is the first of its table are out. -/
def testCopies : Context := { placedContext with mem := { placedContext.mem with
  te := [(32, mkTe false 0 64 0 teFilling), (33, mkTe false 0 64 0 teFilling)]
  copies := [{ id := 0, bclk := 0, off := 0, kind := .g2s, te := some 32, dc := none, dst := 0, src := 0x4000, len := 64, stride := 0,
               fmt := 0, left := [0], paged := [], failed := none, data := [], poison := [], wic := none },
             { id := 1, bclk := 0, off := 0, kind := .xred, te := some 32, dc := none, dst := 0x5000, src := 0, len := 4, stride := 0,
               fmt := 0, left := [0], paged := [], failed := none, data := leBytes 4 0, poison := [], wic := some 1 }]
  gathers := [{ id := 2, bclk := 0, off := 0, te := 33, ring := 0, base := 0x6000, row := 64, rows := 1, queue := [0], landed := 0,
                closed := true, phase := .waiting, hidden := [] }] } }

theorem witness_CopyEventResults :
    (testRun testCopies).ctx? 1 = some testCopies ∧ testCopies.threadsMove = true ∧ (testRun testCopies).popBefore 1 0 = false ∧
    (testRun testCopies).triedNow testCopies = false ∧ (testRun testCopies).passedThere 1 0 [(0x4000, 64)] = false ∧
    (testCopies.mem.copies.all fun x => x.left.contains 0 && x.failed.isNone && !x.paged.contains 0 && !testCopies.mem.copyHeld x 0 ((testRun testCopies).counterParts 1 testCopies.agent x) &&
      ((testRun testCopies).sectorNeed 1 testCopies.agent x 0).isNone) = true ∧
    ((testCopies.mem.copies.map fun x => (x.sourceParts 0, x.destParts 0)) = [([(0x4000, 64)], []), ([], [(0x5000, 64)])]) ∧
    (testRun testCopies).moveFault testCopies [(0x4000, 64)] [(0x4000, 64)] = none := by decide +kernel

/-- The same with the first gigabyte in a secure region. -/
def testSecure : State := { testRun testCopies with fabric := { Fabric.fresh with secure := [0] } }

theorem witness_gather_row :
    testSecure.moveFault testCopies [(0x4000, 64)] [(0x4000, 64)] = some (0x24, 2, 0x4000) ∧
    (testCopies.mem.gathers.map fun g => (g.rowParts, g.phase)) = [([(0x6000, 64)], Phase.waiting)] ∧
    teSt (testCopies.te 33) = teFilling ∧ testCopies.mem.heldBefore 2 true = false ∧
    testCopies.mem.forkWaits 2 0 false [(0x6000, 64)] [] = false ∧ (testRun testCopies).missingIn testCopies.agent .read [(0x6000, 64)] = none := by decide +kernel

/-- Two loads of pages 5 and 6, a store to page 7, and a load that waits on a request for page 8, under a walk of two levels: page 5 is
mapped to 0x300000, page 6 is absent, page 7 may not be written. -/
def testWalk : State :=
  let acc (id : Nat) (va : BitVec 57) (op : AccOp) (ph : Phase) : Acc :=
    { id := id, off := 0, bclk := 0, va := va, op := op, ord := 0, wic := none, done := 0, phase := ph }
  let c : Context := { placedContext with mem := { placedContext.mem with
    outs := [acc 0 0x5000 (.ldgA 3) .waiting, acc 1 0x6000 (.ldgA 4) .waiting, acc 2 0x7000 (.store [1]) .waiting,
             acc 3 0x8000 (.ldgA 5) .paged] } }
  let s := testRun c
  let s := { s with mmu := { s.mmu with
    tlb := []
    reqs := [{ stack := 0, pasid := 0, page := 8, kind := .read, perm := false, answered := false, readers := [] }] } }
  let form := 2 + 2 ^ 4 + 12 * 2 ^ 10
  let pos := 7 * 2 ^ 56 + 63 * 2 ^ 48 + 6 * 2 ^ 40 + 5 * 2 ^ 32 + 2 * 2 ^ 24 + 2 ^ 16
  let pf := 51 * 2 ^ 8 + 12
  let s := s.store 0 (leBytes 32 (0x200000 + form * 2 ^ 64 + (9 + 9 * 2 ^ 5) * 2 ^ 96 + pos * 2 ^ 128 + pf * 2 ^ 192))
  ((s.store 0x200000 (leBytes 8 0x201007)).store 0x201028 (leBytes 8 0x300007)).store 0x201038 (leBytes 8 0x301005)

/-- R70 to R72: the walk reads the entries it names and stops at a missing page, or at one without the permission. -/
theorem witness_walks :
    testWalk.bind? 0 = some testBind ∧ testWalk.descPoisoned testBind = false ∧
    testWalk.walk testBind false 0x5000 .read = .page 0x5000 12 0x300000 true false 0x201028 8 0x300007 5 6 ∧
    testWalk.walk testBind false 0x6000 .read = .absent ∧ testWalk.walk testBind false 0x7000 .write = .denied false ∧
    ((testWalk.walkNeeds 0 5 .read).map fun n => testWalk.bindingOf n.agent) = [some testBind] ∧
    ((testWalk.walkNeeds 0 6 .read).map fun n => testWalk.bindingOf n.agent) = [some testBind] ∧
    ((testWalk.walkNeeds 0 7 .write).map fun n => testWalk.bindingOf n.agent) = [some testBind] ∧
    ({ testWalk with fabric := { testWalk.fabric with secure := [0] } } : State).walk testBind false 0x5000 .read = .closed ∧
    (match ({ testWalk.store 0x201028 (leBytes 8 0x300007) with mmu := testWalk.mmu }.store 0 (leBytes 8 (2 ^ 50))).walk testBind false 0x5000 .read with
      | .cut _ => true
      | _ => false) = true ∧
    ((testWalk.awaited 0 0x8000 .read).map fun r => (testWalk.waitingOn r).length) = some 1 := by decide +kernel

/-- Core 0 waits for overlay 0 of its context's object, whose table entry and bytes are zeros. -/
def testFetch : State :=
  let s := testRun placedContext
  { s with cores := [(0, { Core.fresh with cur := some 1, fetch := [(1, 0, .waiting)] })] }

theorem witness_overlays :
    testFetch.fetchReady (testFetch.coreOf 0) = some (1, 0, placedContext) ∧
    testFetch.bind? placedContext.id.pasid = some testBind ∧
    (testFetch.readTable testAgent (testBind.objectAt 0) 32).2 = (.at_ 0x1000, 0) ∧
    (testFetch.readTable testAgent (testBind.objectAt 0) 32).1.isPoisoned 0x1000 32 = false ∧
    ((testFetch.readTable testAgent (testBind.objectAt 0) 32).1.spans testAgent 0 8192 .fetch).isSome = true ∧
    (testFetch.coreOf 0).cur = some 1 ∧ testFetch.ctx? 1 = some placedContext ∧ placedContext.prefetches.contains 1 = true ∧
    ((testFetch.coreOf 0).overlay? 0 1).isNone = true ∧ 256 * 1 < placedContext.id.clen ∧
    ((testFetch.findObject placedContext).map fun x => ((testFetch.coreOf 0).overlay? x.2.hash 1).isNone) = some true ∧
    (((testFetch.findObject placedContext).bind fun x => x.1.findAll testAgent .fetch (piecesOf (x.2.base.toNat + 8192 * 1) 8192)).map fun x =>
      x.1.spansPoisoned x.2) = some false := by decide +kernel

/-! ### Events of the scheduler, of runs, of queues and of the Hearth -/

/-- A fresh record of object 0 with 16 ingots. -/
def testRecord : BitVec 512 := recSet (recSet 0 20 32 0x00020401) 28 32 0xFFFFFFFF

def testEntry (ticket : W64) (spilled : Bool) : Entry :=
  { body := .fresh testRecord, deadline := 0, ticket := ticket, stamp := none, spilled := spilled, replay := none, bound := none,
    gang := none }

/-- Core 0 is idle with a ready resident; core 1 is idle with none; queue 0 of cluster 0 holds an entry. -/
def testIdle : State :=
  let s := testRun { placedContext with id := { placedContext.id with status := .ready } }
  { s with cores := [], clusters := [(0, { Cluster.fresh with sched := [(0, [testEntry 0 false])] })] }

theorem witness_dispatch :
    ((testIdle.coreOf 0).cur, (testIdle.coreOf 1).cur) = (none, none) ∧
    ((testIdle.pickFor 0).bind fun x =>
      (testIdle.mapCore 0 fun k => { k with room := none }).give 0 x).isSome = true ∧
    ((testIdle.pickFor 1).bind fun x =>
      (testIdle.mapCore 1 fun k => { k with room := none }).give 1 x).isSome = true := by decide +kernel

/-- Queue 0 of cluster 1 is a cluster gang queue with 16 entries in a row. -/
def testGangQueue : State :=
  { testBound id with clusters := [(1, { Cluster.fresh with
    mode := [(0, 1)], sched := [(0, (List.range 16).map fun i => testEntry (BitVec.ofNat 64 i) false)] })] }

theorem witness_gang_dispatch :
    Tbl.get 0 (testGangQueue.clusterOf 1).mode 0 = 1 ∧ (gangCores 1 false).length = 16 ∧
    (let es := (gangsIn ((testGangQueue.clusterOf 1).queue 0) 16).flatten
     (gangsIn ((testGangQueue.clusterOf 1).queue 0) 16).length = 1 ∧ es.length = 16 ∧ testGangQueue.gangReady ((gangCores 1 false).zip es) false = true ∧
       (((gangCores 1 false).zip es).all fun m => m.2.finite || (!(testGangQueue.bestFor m.1).any Ranked.finite && !testGangQueue.finiteGangOn m.1)) = true ∧
       testGangQueue.gangLacks ((gangCores 1 false).zip es) = none ∧
       (testGangQueue.gangTables 1 0 ((gangCores 1 false).zip es)).2 = true) := by decide +kernel

/-- Core 0 has waited 256 cycles, its context's slice is spent, and gang 1 restarts at cycle 7. -/
def testWaits : State :=
  let c := { placedContext with budget := { placedContext.budget with spent := true } }
  { testRun c with
    mcc := 7
    cores := [(0, { Core.fresh with cur := some 1, waited := 256 })]
    gangs := [(1, { stack := false, members := [1], arrived := [1], restart := some 7 })] }

theorem witness_SchedulingEventResults :
    (testWaits.coreOf 0).cur = some 1 ∧ 256 ≤ (testWaits.coreOf 0).waited ∧
    ((testWaits.ctx? 1).map fun c => (c.id.status, c.budget.spent, c.swage.busy, c.sliceOver)) = some (.running, true, false, false) ∧
    ((Tbl.find testWaits.gangs 1).map (·.restart)) = some (some 7) ∧ testWaits.mcc.ult 7 = false := by decide +kernel

/-- R22: core 0 has waited 256 cycles, and nothing stands at its context's boundary. -/
theorem witness_park :
    ((testWaits.coreOf 0).waited, placedContext.flow.causes, placedContext.budget.spent, placedContext.swage.busy, placedContext.stopsNow) =
      (256, [], false, false, false) := by decide +kernel

/-- A context with a stop and a status. -/
def testStop (st : Stop) (status : Status) : Context :=
  { placedContext with flow := { placedContext.flow with stop := st }, id := { placedContext.id with status := status } }

/-- A PREEMPT of core 0 is in course with some cores still to halt. -/
def testPreempt (cores : List Nat) : State :=
  let s := testRun placedContext
  let p : Preempt := { target := 0, buffer := 0, capacity := 1, cores := cores, waiting := [], listed := 0, pending := [] }
  { s with mail := { s.mail with preempt := some p } }

/-- Whether some pages have all been reached. -/
def testAt : Pages → Bool
  | .at_ _ => true
  | _ => false

/-- The context is on its way back from the save slot at 0x100000. -/
def testRestoring : Context :=
  { testStop .none .restoring with run := { placedContext.run with record := recSet 0 40 64 0x110000 } }

theorem witness_RunEventResults :
    (testStop .ending .running).enginesEmpty = true ∧ (testStop (.susp 0 1 2) .running).enginesEmpty = true ∧
    (testStop .ending .running).flow.causes = [] ∧ (testStop .ending .running).swage.busy = false ∧
    targets 0 placedContext = true ∧ placedContext.flow.barrier = .none ∧ (testPreempt [0]).ctx? 1 = some placedContext ∧
    ((testPreempt [0]).coreOf 0).cur = some 1 ∧ [0].contains 0 = true ∧
    (testPreempt [0]).fetchStands 1 placedContext = none ∧
    (testRun (testStop .none (.evicting 0 none))).settled 1 (testStop .none (.evicting 0 none)) = true ∧
    testAt ((testRun placedContext).reachPages (placedContext.reads (.image 1)) .write (placedContext.savePages ((testRun placedContext).recordAddr placedContext))).2 = true ∧
    (testState.reachPages (placedContext.reads (.image 1)) .write (placedContext.savePages (testState.recordAddr placedContext))).2 =
      .fail 0x20 3 (testState.recordAddr placedContext) (testState.recordAddr placedContext) ∧
    testRestoring.id.status = .restoring ∧ testRestoring.id.unresumable = false ∧
    testAt ((testRun testRestoring).reachPages (placedContext.reads (.image 1)) .read ((testRestoring.savePages testRestoring.savedBase).drop 1)).2 = true ∧
    ((testRun placedContext).readTable (placedContext.reads (.image 1)) (testBind.objectAt 0) 32).2 = (.at_ 0x1000, 0) ∧ (objOf 0).hash = testRestoring.id.hash := by
  decide +kernel

theorem witness_preempt_completion :
    ((testPreempt []).mail.preempt.map fun p => (p.cores, p.waiting, p.pending)) = some ([], [], []) := by decide +kernel

/-- A context whose first Hearth operation is the one given. -/
def testHearth (h : HOp) : Context := { placedContext with mem := { placedContext.mem with hearth := [{ id := 0, op := h }] } }

theorem witness_hearth :
    (testRun (testHearth (.qnew 0 5))).nextOp? 1 = some (testHearth (.qnew 0 5), .qnew 0 5) ∧
    (testRun (testHearth (.borrow 0 5 true))).nextOp? 1 = some (testHearth (.borrow 0 5 true), .borrow 0 5 true) ∧
    (testRun (testHearth (.ret 0 5 false 0))).nextOp? 1 = some (testHearth (.ret 0 5 false 0), .ret 0 5 false 0) ∧
    (testHearth (.ret 0 5 false 0)).wdc.ult 0 = false ∧
    (testRun (testHearth (.qwait none 5 0 0 9))).nextOp? 1 = some (testHearth (.qwait none 5 0 0 9), .qwait none 5 0 0 9) ∧
    (testRun (testHearth (.offer 0 testRecord 0))).nextOp? 1 = some (testHearth (.offer 0 testRecord 0), .offer 0 testRecord 0) := by
  decide +kernel

def testVEntry (spilled : Bool) : VEntry :=
  { payload := 7, weight := 0, stamp := (1, 0), ticket := 0, pasid := 0, spilled := spilled, poisoned := false }

def testWaiter : Waiter := { ctx := 1, r := 3, off := none, id := 0, bclk := 0, pc := 0 }

/-- Queue 0 of cluster 0 has a spilled entry and room, value queue 16 a waiting POP and an entry, value queue 17 a spilled one. -/
def testValues : State :=
  { testRun placedContext with clusters := [(0, { Cluster.fresh with
    sched := [(0, [testEntry 0 true])]
    value := [(16, { VQueue.fresh with entries := [testVEntry false], waiters := [testWaiter] }),
              (17, { VQueue.fresh with entries := [testVEntry true] })] })] }

theorem witness_QueueAndHearthEventResults :
    firstSpilled ((testValues.clusterOf 0).queue 0) = some (testEntry 0 true) ∧
    spillsSched ((testValues.clusterOf 0).queue 0) = false ∧
    (((testValues.clusterOf 0).values 17).entries.any fun e => e.spilled) = true ∧
    (((testValues.clusterOf 0).values 17).entries.filter fun e => !e.spilled).length < chipSize ∧
    ((testValues.clusterOf 0).values 16).waiters = [testWaiter] ∧ (testValues.again? 1 16).isNone = true ∧
    (testValues.redelivery? 16 ((testValues.clusterOf 0).values 16)).isNone = true ∧
    ((testValues.clusterOf 0).values 16).next? = some (testVEntry false) ∧ testValues.stampMet (1, 0) = true ∧
    (testVEntry false).poisoned = false := by decide +kernel

/-- The run of the POP that waits is to receive a delivery again. -/
def testAgain : State :=
  { testValues with ctxs := [(1, { placedContext with run := { placedContext.run with again := [{ qid := 16, payload := 5, weight := 1 }] } })] }

theorem witness_redelivery :
    testAgain.redelivery? 16 ((testAgain.clusterOf 0).values 16) = some (testWaiter, { qid := 16, payload := 5, weight := 1 }) := by
  decide +kernel

/-! ### The host, the debugger and the package -/

/-- The device takes commands through CXL port 0, region 1 is secure, and object 0 has 16 ingots and 65,536 bundles. -/
def testHost (c : Context) : State :=
  let s := testRun c
  ({ s with
    mail := { s.mail with booted := true }
    fabric := { s.fabric with ports := [(16, { up := true, retries := 0, seq := 0 })], secure := [1] } } : State).store 0x1000
      (leBytes 32 (16 * 2 ^ 192 + 65536 * 2 ^ 200))

def testOps (b8 b16 b24 : W64) : CmdOps := { b8 := b8, b16 := b16, b24 := b24, b32 := 0, stray := false }

/-- The context waits evicted with a marked save slot. -/
def testMarked : Context :=
  { placedContext with
    id := { placedContext.id with status := .evicted, marked := true }
    run := { placedContext.run with record := recSet 0 40 64 0x110000 } }

theorem witness_CommandResults :
    (testHost placedContext).takesHost = true ∧ (testHost placedContext).mail.queue = [] ∧
    (testHost placedContext).mail.preempt = none ∧ (testOps 5 0x1000 0).stray = false ∧ pasidOk (2 ^ 20 - 1) = true ∧
    pasidOk (2 ^ 20) = false ∧ bindBad ((testHost placedContext).block (keyOf [] 0x2000)) = false ∧
    bindBad (recSet 0 0 64 1) = true ∧ targetOk 1023 = true ∧ targetOk 1024 = false ∧ targetOk (2 ^ 63 + 5) = true ∧
    (0 : W64).extractLsb' 0 3 = 0 ∧ qmodeOk 0 0 2 = true ∧ qmodeOk 63 63 4 = true ∧ qmodeOk 1 0 2 = false ∧
    ((testHost placedContext).clusterOf 0).values 16 = VQueue.fresh ∧
    (((testHost placedContext).fabric.routes.find? fun e => e.2.1 = (0 : W64)).map (·.1)).getD 0 < 64 ∧
    (let s := testHost placedContext
     64 ≤ ({ s with mail := { s.mail with queue := List.replicate 64 { code := 1, ops := testOps 0 0 0 } } } : State).mail.queue.length) ∧
    ringOk (testOps 0x4000 64 0) = true ∧ ringOk (testOps 0x4000 65536 0) = true ∧ ringOk (testOps 0x4000 32 0) = false := by
  decide +kernel

/-- The same walk with CXL port 0 up, so that the host can be asked for a page. -/
def testLinked : State :=
  { testWalk with fabric := { testWalk.fabric with ports := [(16, { up := true, retries := 0, seq := 0 })] } }

theorem witness_kill :
    (testHost placedContext).killed? 0 0x100000 = none ∧ (testHost testMarked).killed? 0 0x100000 = some (1, testMarked) ∧
    ((testHost testMarked).reachOpen (placedContext.reads .command) 0x100000 .write).2 = .at_ 0x100000 ∧
    (testLinked.reachOpen (placedContext.reads .command) 0x100000 .write).2 = .wait ∧ (testWalk.reachOpen (placedContext.reads .command) 0x100000 .write).2 = .fail 0x31 0 ∧
    (testState.reachOpen (placedContext.reads .command) 0x100000 .write).2 = .fail 0x20 1 := by
  decide +kernel

/-- A write to 0x303C has come to its cluster and has still to perform. -/
def testPassed : Context := { placedContext with mem := { placedContext.mem with outs := [{ testStore with placed := [(0x303C, 8)] }] } }

/-- R74: an INVAL of that page waits, and one of another does not. -/
theorem witness_inval_waits :
    (testHost testPassed).usesOld (testOps 0 0x3000 0x1000) = true ∧ (testHost testPassed).usesOld (testOps 0 0x5000 0x1000) = false ∧
    (testHost testPassed).takesHost = true := by decide +kernel

/-- A command and a window write wait for page 8, which context 1, that is evicted, has asked for too. -/
def testReaders : State :=
  let s := testLinked
  { s with
    ctxs := [(1, testMarked)]
    mail := { s.mail with queue := [{ code := 1, ops := testOps 0 0 0 }] }
    inputs := [(0, 0, [])]
    mmu := { s.mmu with
      reqs := [{ stack := 0, pasid := 0, page := 8, kind := .read, perm := false, answered := false,
                 readers := [.command, .window 0 0, .ctx 1 0 0, .image 1] }] } }

/-- R327, R331: a refusal reaches every reader that reads, and none that is away. -/
theorem test_refusal_reaches_readers :
    (match execPageResponse 0 0x8000 .read false testReaders with
      | .next s => (s.mmu.reqs.length, s.mmu.heard.map fun h => (h.reader, h.ended))
      | _ => (0, [])) = (0, [(.command, some (0x20, 0)), (.window 0 0, some (0x20, 0))]) := by decide +kernel

/-- R325: a success is spent by the walk that follows it: the page is absent still, and no second request is issued. -/
theorem test_walk_after_answer :
    (match execPageResponse 0 0x6000 .read true { testReaders with mmu := { testReaders.mmu with
        reqs := testReaders.mmu.reqs.map fun r => { r with page := 6 } } } with
      | .next s => (s.mmu.reqs.length, (s.reach (placedContext.reads .command) 0x6000 .read).2, (s.reach placedContext.agent 0x6000 .read).2)
      | _ => (9, .wait, .wait)) = (0, .fail 0x20 2, .wait) := by decide +kernel

theorem witness_window :
    (testHost placedContext).portUp (cxlPort 0) = true ∧ (testHost placedContext).windowBehind 0 0 = false ∧
    ((testHost placedContext).checkRecord 0 (.window 0 0) testRecord).2 = .pass ∧
    ((testHost placedContext).checkRecord 0 (.window 0 0) (recSet testRecord 0 16 1)).2 = .bad 4 ∧
    ((testHost placedContext).refuseWeight 0 (.window 0 0) (recSet testRecord 0 16 1)).2 = true ∧ (leBytes 64 testRecord.toNat).length = 64 ∧
    (BitVec.ofNat 512 (leNat (leBytes 64 testRecord.toNat)) : BitVec 512) = testRecord ∧ testState.takesHost = false := by
  decide +kernel

/-- The host has programmed its windows and its memory at port 0. -/
def testBases : State :=
  let s := testHost placedContext
  { s with fabric := { s.fabric with bar0 := [(0, 0x10000)], bar2 := [(0, 0x20000)], hdm := [(0, 0x40000000)] } }

/-- R279, R280, R348: what the host reaches at a port, and the port that carries it. -/
theorem witness_host_places :
    testBases.hostPlace 0x10040 = .interface 0x40 ∧ testBases.hostPlace 0x20041 = .window 0x41 ∧
    testBases.hostPlace 0x40000005 = .dram 5 ∧ testBases.isSecure 5 = false ∧ testBases.hostPlace 0x80000000 = .dram (2 ^ 30) ∧
    testBases.isSecure (2 ^ 30) = true ∧ testBases.hostCut = false ∧ testBases.hostPlace (2 ^ 40) = .beyond (2 ^ 39 + 2 ^ 40) ∧ (testHost placedContext).hostPlace 7 = .dram 7 ∧ (testHost placedContext).fabric.hdm = [] ∧
    (testHost placedContext).portUp (cxlPort 1) = false ∧ (testHost placedContext).cxlBy 1 = 0 ∧
    ({ testHost placedContext with inputs := [(0, 8, [])] } : State).windowBehind 0 0 = true := by decide +kernel

theorem witness_HostEventResults :
    (2 ^ 30 - 1 : Nat) < deviceSize ∧ (testHost placedContext).isSecure (2 ^ 30 - 1) = false ∧
    (testHost placedContext).isSecure (2 ^ 30) = true ∧ deviceSize - 8 + peerSize (.atomic 0 1 0) ≤ deviceSize ∧
    (testHost placedContext).isSecure (deviceSize - 1) = false ∧ (testHost placedContext).mail.booted = true ∧
    (testHost placedContext).secureIn (2 ^ 30 - 4) 8 = 2 ^ 30 ∧ (testHost placedContext).secureIn (2 ^ 30 + 4) 8 = 2 ^ 30 + 4 := by decide +kernel

/-- The context is stopped for the debugger and has a sample that waits for nothing. -/
def testStopped : Context :=
  { testStop .none .stopped with dbg := { placedContext.dbg with tags := [{ head := 0, bclk := 0, at_ := 0, wait := [], times := [] }] } }

theorem witness_DebugEventResults :
    (testHost testStopped).ctx? 1 = some testStopped ∧ testStopped.id.status = .stopped ∧ testStopped.stoppedNow = true ∧
    (testHost testStopped).traces? testStopped = true ∧ bitOf (0x7F : W64) 7 = false ∧
    ((testStopped.dbg.tags.find? fun t => t.wait.isEmpty).map (·.head)) = some 0 := by decide +kernel

/-- A stack whose trace ring has 16 records at 0x4000. -/
def testTrace : State := { State.reset with traces := [(0, { Trace.fresh with base := 0x4000, size := 16 })] }

/-- R293: a record waits in the core's queue, and enters the ring of its stack later. -/
theorem test_record_waits :
    (testTrace.record 5 2).byte 0x4000 = 0 ∧ ((testTrace.record 5 2).recordEnters 5).byte 0x4000 = 2 ∧
    (Tbl.get Trace.fresh ((testTrace.record 5 2).recordEnters 5).traces 0).wp = 1 := by decide +kernel

/-- R67: the overlay that core 0 waits for has become resident. -/
theorem witness_overlay_resident :
    let k : Core := { Core.fresh with
      cur := some 1, fetch := [(1, 0, .waiting)], overlays := [{ hash := placedContext.id.hash, index := 0, used := 0, poison := [], code := [] }] }
    testFetch.fetchReady k = some (1, 0, placedContext) ∧ (k.overlay? placedContext.id.hash 0).isSome = true := by decide +kernel

/-- R282: a value queue with a waiting POP. -/
theorem witness_qmode_busy :
    let s := { testHost placedContext with clusters := testValues.clusters }
    s.takesHost = true ∧ qmodeOk 0 16 3 = true ∧ ((s.clusterOf 0).values 16).waiters ≠ [] := by decide +kernel

/-- R342: an error that the code cannot correct poisons a scratchpad bank word. -/
theorem test_flaw_marks_word :
    ((testRun placedContext).flaw (.bank 1 3)).ctxs.map (fun e => e.2.mem.scrPoison) = [[3]] := by decide +kernel

/-- Port 16 is down and port 0 has failed 16 times in a row; cluster 3 ends its boost; a microsecond is over. -/
def testPart : State :=
  { State.reset with
    mcc := 1000
    clusters := [(3, { Cluster.fresh with clock := 1 })]
    fabric := { Fabric.fresh with ports := [(0, { up := true, retries := 16, seq := 0 }), (1, { up := true, retries := 15, seq := 0 }),
                                            (16, { up := false, retries := 0, seq := 0 })] } }

/-- Cluster 0 has a clock and permits, and core 0 runs a context of a deadline. -/
def testBoost (clock pc : Nat) (deadline : W64) : State :=
  { testRun { placedContext with id := { placedContext.id with deadline := deadline } } with
    mcc := 1000
    clusters := [(0, { Cluster.fresh with clock := clock, pc := pc })] }

theorem witness_DeviceEventResults :
    State.reset.mail.booted = false ∧ State.reset.mail.bootFailed = false ∧ testPart.temperDue = true ∧
    (testPart.clusterOf 3).clock = 1 ∧ (testPart.clusterOf 3).stepLeft = 0 ∧ (testPart.clusterOf 5).clock = 0 ∧
    (testBoost 2 5 7).grants = [] ∧ (testBoost 0 100 7).grants = [0] ∧ ((testBoost 2 5 7).clusterOf 0).clock = 2 ∧
    ((testBoost 2 5 7).boostRank 0).isSome = true ∧ ((testBoost 2 5 0xFFFFFFFFFFFFFFFF).boostRank 0).isSome = false ∧
    (testBoost 0 100 7).temperDue = true ∧ 64 * (2 ^ 33 - 1) < deviceSize ∧
    testPart.port? (.suzamal 0) = some { up := true, retries := 16, seq := 0 } ∧ testPart.port? (.suzamal 1) = some { up := true, retries := 15, seq := 0 } ∧
    testPart.port? (.cxl 0) = some { up := false, retries := 0, seq := 0 } ∧ placedContext.residentOn placedContext.id.core = true ∧
    (testHost placedContext).port? (.cxl 0) = some { up := true, retries := 0, seq := 0 } := by decide +kernel

/-! ### Traps and the machine -/

/-- k1 and v1 are empty. -/
def testEmpty : State := testWith fun c => { c with regs := { c.regs with ke := 2, ve := 2 } }

theorem witness_EmptySourcesTrapOrHold :
    testEmpty.rd.isEmpty (kRef 1) = true ∧ testEmpty.rd.isEmpty (kRef 2) = false ∧ testEmpty.rd.isEmpty (vRef 1) = true ∧
    testEmpty.rd.isEmpty (vRef 2) = false ∧ testEmpty.guard4 0 = true ∧ testEmpty.runs64 0 = true := by decide

/-- Stores and checkpoints are full, k1 is bound, m2 is mixed, p5 is U and a1 lies off every alignment and beyond the scratchpad. -/
def testTraps : State := testWith fun c => { c with
  regs := { c.regs with m := [(2, 5)], p := [(5, predU)], a := [(1, 0x10000001)] }
  swage := { c.swage with
    store := List.replicate 512 { op := .addi, d := 1, a := 2, b := 0, imm := 0 }
    ckpts := List.replicate 128 (0, 0) } }

theorem witness_IssueTrapResults :
    testTraps.guard4 0 = true ∧ testTraps.full [kRef 1, kRef 2, kRef 3, aRef 1, aRef 2] = true ∧
    testTraps.issue.swage.bound 1 = true ∧ 512 ≤ testTraps.issue.swage.store.length ∧ domMember? (testTraps.k 2) = none ∧
    128 ≤ testTraps.issue.swage.ckpts.length ∧ testState.issue.swage.ckpts = [] ∧ testTraps.p 5 = predU ∧ testTraps.m 2 ≠ 0 ∧
    testTraps.m 2 ≠ BitVec.allOnes 64 ∧ (testTraps.buf 1).st = .empty ∧ testTraps.p 0 ≠ predU ∧ sysWrites 0x000 = false ∧
    testTraps.a 2 = 0 ∧ testTraps.issue.scrSize < testTraps.scrOff 1 0 8 + 8 ∧ testTraps.scrOff 1 0 8 % 8 ≠ 0 ∧
    (testTraps.gva 1 0 8).toNat % 8 ≠ 0 := by decide +kernel

/-- A program with a handler at bundle 9. -/
def testHandler : Context := { placedContext with sys := { placedContext.sys with tvec := 9 } }

def testCause (code : Byte) : Cause := { code := code, reason := 0, slot := 0, off := 0, tinfo := 0, va := 0, kind := 4 }

theorem witness_TrapAndReturn :
    testHandler.handles (testCause 0x13) = true ∧ testHandler.handles (testCause 0x20) = false ∧
    placedContext.handles (testCause 0x13) = false ∧ testHandler.trap.held = [] ∧
    (testHandler.takeTrap 0 0 (testCause 0x13) (.at_ 4)).trap.handler = true ∧
    (testHandler.takeTrap 0 0 (testCause 0x13) (.at_ 4)).trap.held = [] ∧ placedContext.flow.flights = [] := by decide +kernel

/-- In the handler, with a cause held. -/
def testHeld (code : Byte) : Context :=
  { testHandler with trap := { testHandler.trap with handler := true, held := [testCause code] } }

/-- R305: RFT with a held cause enters the handler again, or halts the context. -/
theorem witness_held_causes :
    (testHeld 0x13).trap.held = [testCause 0x13] ∧ ((testHeld 0x13).returnFromTrap 0 0 (.at_ 4)).trap.handler = true ∧
    (testHeld 0x20).trap.held = [testCause 0x20] ∧ ((testHeld 0x20).returnFromTrap 0 0 (.at_ 4)).trap.handler = false := by
  decide +kernel

theorem witness_NarrowingLosesNoSolution :
    let rel : Rel := { op := .add, d := 1, a := 2, b := 3, imm := 0 }
    let sol : BitVec 6 → Int := fun r => if r = 1 then 5 else if r = 2 then 2 else 3
    rel.op ≠ .mul ∧ rel.op ≠ .muli ∧ rel.HoldsFor sol ∧
      ∀ r, rel.names r = true → (domRuns (placedContext.regs.readK r)).mem (sol r) = true := by
  refine ⟨by decide, by decide, by show (5 : Int) = 2 + 3; decide, ?_⟩
  decide +kernel

/-- A result that is due. -/
def testDue (slot : Nat) (e : Eff) : Context := placedContext.land 0 { dist := 0, slot := slot, bclk := 0, off := 0, snap := false, eff := e }

theorem witness_RegisterLanding :
    (testDue 1 (.k 5 (domSingle 7))).regs.readK 5 = domSingle 7 ∧ (testDue 2 (.sys 0x040 0xFFF)).readSys 0 0x040 = 0x3F ∧
    sysWrites 0x040 = true ∧ sysReads 0x041 = false ∧ scrBytes (testDue 5 (.scr 62 [1, 2, 3] true)).mem.scr 62 3 = [1, 2, 3] ∧
    (testDue 5 (.scr 62 [1, 2, 3] true)).mem.scrPoison = [0, 1] ∧ Tbl.get 0 (testDue 7 (.te 3 0xFFFFFFFF)).mem.te 3 = 0x07FFFFFB := by
  decide +kernel

/-- R176: a ROLL gives the register back the value that the oldest entry above the checkpoint trailed. -/
theorem witness_roll :
    (let c := { placedContext with swage := { placedContext.swage with
        trail := [(5, domSingle 2), (5, domSingle 1), (4, domSingle 0)], ckpts := [(0, 1)] } }
     (c.land 0 { dist := 0, slot := 1, bclk := 0, off := 0, snap := false, eff := .roll }).regs.readK 5) = domSingle 1 := by decide +kernel

theorem witness_MachineStatements :
    slotOf .nopInt = some 1 ∧ slotOf (.pop 0 16 1) = some 5 ∧ WellFormed (.add 1 2 3 4 0 1) = true ∧
    MemoryCanonical State.reset := ⟨rfl, rfl, rfl, rfl⟩

/-! ### A step that runs a decoded bundle -/

/-- The NOPs of slots 1 to 7. -/
def testNops : List Instr := [.nopInt, .nopAdr, .nopVec, .nopIvl, .nopMem, .nopMtx, .nopCpy]

theorem witness_bundleHolds : bundleHolds 0 (.nopCtl 0 0 0 0 :: testNops) := by
  refine ⟨rfl, rfl, fun n i h => ?_⟩
  match n, h with
  | 0, h | 1, h | 2, h | 3, h | 4, h | 5, h | 6, h | 7, h => cases h; exact ⟨rfl, rfl⟩
  | n + 8, h => cases h

def testReady : State := { State.reset.place 0 with script := [] }

def testChecked : State :=
  { testReady with live := placedContext, issue := placedContext, uid := 1, core := 0, verdict := .idle }

theorem witness_ready :
    (State.reset.place 0).nextIsCore 0 testReady ∧ testReady.checkout 0 = some testChecked ∧
    testChecked.readyFor 0 0 ∧ (testChecked.issuing (.nopCtl 0 0 0 0 :: testNops)).issue.drainWait = none := by
  refine ⟨.inl ⟨[], rfl, rfl⟩, rfl, ?_, rfl⟩
  exact ⟨⟨rfl, rfl, rfl, rfl, rfl, rfl⟩, ⟨by decide, rfl, rfl, rfl, by decide, rfl, rfl⟩, rfl⟩

theorem test_nop_performs (s : State) : ∀ i ∈ testNops ++ [.nopCtl 0 0 0 0], ∃ t, exec i s = .next t ∧ t.verdict.done := by
  simp only [testNops, List.cons_append, List.nil_append, List.forall_mem_cons]
  exact ⟨⟨_, rfl, .inr rfl⟩, ⟨_, rfl, .inr rfl⟩, ⟨_, rfl, .inr rfl⟩, ⟨_, rfl, .inr rfl⟩, ⟨_, rfl, .inr rfl⟩, ⟨_, rfl, .inr rfl⟩,
    ⟨_, rfl, .inr rfl⟩, ⟨_, rfl, .inr rfl⟩, fun _ h => nomatch h⟩

theorem test_performs (is : List Instr) : ∀ s : State,
    (∀ u : State, ∀ i ∈ is, ∃ t, exec i u = .next t ∧ t.verdict.done) → ∃ w, Performs s is w := by
  induction is with
  | nil => exact fun s _ => ⟨s, .nil s⟩
  | cons i is ih =>
    intro s h
    obtain ⟨t, e, d⟩ := h { s with verdict := .idle } i (List.mem_cons_self ..)
    obtain ⟨w, p⟩ := ih t fun u j m => h u j (List.mem_cons_of_mem _ m)
    exact ⟨w, .cons e d p⟩

theorem witness_StepRunsDecoded : ∃ w, Performs (testChecked.issuing (.nopCtl 0 0 0 0 :: testNops)) (testNops ++ [.nopCtl 0 0 0 0]) w :=
  test_performs _ _ test_nop_performs

/-- A context with k1 empty is about to issue ADD k3, k1, k2 with the trap bit of its first source. -/
def testBlocked : Context := { placedContext with regs := { placedContext.regs with ke := 2 } }

def testAdd : BitVec 256 := bundleWith 1 0x0400C10A

def testTrapping : State :=
  let s := State.reset.place testAdd
  { s with ctxs := [(1, testBlocked)], script := [], live := testBlocked, issue := testBlocked, uid := 1, core := 0, verdict := .idle }

/-- Its operations. -/
def testAdds : List Instr := [.nopCtl 0 0 0 0] ++ .add 0 3 1 2 1 0 :: [.nopAdr, .nopVec, .nopIvl, .nopMem, .nopMtx, .nopCpy]

theorem witness_StepRunsDecoded_traps :
    bundleHolds testAdd testAdds ∧
    testTrapping.readyFor 0 testAdd ∧ (∃ q, exec (.nopCtl 0 0 0 0) (testTrapping.issuing testAdds) = .next q ∧ q.verdict ≠ .trapped 2) ∧
    ∃ t, exec (.add 0 3 1 2 1 0) (testTrapping.issuing testAdds) = .next t ∧ t.verdict = .trapped 2 := by
  refine ⟨⟨rfl, rfl, fun n i h => ?_⟩, ?_, ⟨_, rfl, fun h => nomatch h⟩, ⟨_, rfl, rfl⟩⟩
  · match n, h with
    | 0, h | 1, h | 2, h | 3, h | 4, h | 5, h | 6, h | 7, h => cases h; exact ⟨rfl, rfl⟩
    | n + 8, h => cases h
  · exact ⟨⟨rfl, rfl, rfl, rfl, rfl, rfl⟩, ⟨by decide, rfl, rfl, rfl, by decide, rfl, rfl⟩, rfl⟩

/-! ### Single steps and results of the specification -/

/-- What the step that issues a bundle with one word leaves of its context. -/
noncomputable def afterWord (slot w : Nat) (f : Context → List Nat) : List Nat :=
  match step (State.reset.place (bundleWith slot w)) with
  | .next s => ((s.ctx? 1).map f).getD []
  | _ => []

/-- R181: LI a6, #−1 lands at the end of its bundle, and the bundle offset and the bundle clock go on. -/
theorem test_step_li :
    afterWord 2 0x2C0DFFFF (fun c => [(c.regs.readA 6).toNat, c.flow.pc.toNat, c.flow.bclk.toNat]) = [2 ^ 64 - 1, 1, 1] := by
  decide +kernel

/-- R112: LI a0 is discarded. -/
theorem test_step_li_zero : afterWord 2 0x2C01FFFF (fun c => [(c.regs.readA 0).toNat, c.flow.pc.toNat]) = [0, 1] := by decide +kernel

/-- R160, R161: ADDI k1, k0, #−5 of the singleton 0; R163: DSIZE k1, k2 of the full domain saturates. -/
theorem test_step_domain :
    afterWord 1 0x240040FB (fun c => [if c.regs.readK 1 = domSingle (-5) then 1 else 0]) = [1] ∧
    afterWord 1 0x74004200 (fun c => [if c.regs.readK 1 = domSingle (2 ^ 31 - 1) then 1 else 0]) = [1] := by decide +kernel

/-- R85: d = a + b with d in 0 to 10, a in 3 to 5 and b in 4 to 20 leaves 7 to 10, 3 to 5 and 4 to 7. -/
theorem test_narrow_add :
    let read : BitVec 6 → Dom := fun r =>
      (hullRuns (Runs.of [if r = 1 then (0, 10) else if r = 2 then (3, 5) else (4, 20)])).getD domTop
    (match Rel.apply { op := .add, d := 1, a := 2, b := 3, imm := 0 } read with
      | .ok ws => ws.map fun w => (w.1.toNat, domLo w.2, domHi w.2)
      | .error _ => []) = [(1, 7, 10), (2, 3, 5), (3, 4, 7)] := by decide +kernel

/-- R207: [1, 1] + [2^−24, 2^−24] rounds outward to [1, 1 + 2^−23]. -/
theorem test_interval_add :
    QOp.add.apply (.iv 0x3F800000 0x3F800000) (.iv 0x33800000 0x33800000) .empty = .iv 0x3F800000 0x3F800001 := by decide +kernel

/-- R309, R321: an unassigned opcode of slot 1 is ILLEGAL, and a program without a handler halts. -/
theorem test_step_illegal :
    afterWord 1 0xFC000000 (fun c => [c.sys.tcause.toNat, c.sys.tslot.toNat, c.sys.tinfo.toNat / 2 ^ 56, c.flow.pc.toNat]) =
      [0x10, 1, 1, 0] := by decide +kernel

/-- R156: TRAP #42 raises TRAPI at the end of its bundle. -/
theorem test_step_trap : afterWord 0 0x0280002A (fun c => [c.sys.tcause.toNat, c.sys.tinfo.toNat, c.flow.bclk.toNat]) = [0x13, 42, 1] := by
  decide +kernel

/-- R164: −2^31 / −1 gives −2^31, and −2^31 rem −1 gives 0. -/
theorem test_division : BitVec.ofInt 32 ((-2 ^ 31 : Int).tdiv (-1)) = 0x80000000 ∧
    (BitVec.ofInt 32 (-2 ^ 31 - (-1) * (-2 ^ 31 : Int).tdiv (-1)) : W32) = 0 := by decide

/-- R203: lanes that hold 2^24, 1.0 and −2^24 add up exactly. -/
theorem test_vsumx : fSumX [0x4B800000, 0x3F800000, 0xCB800000, 0] = 0x3F800000 := by decide +kernel

/-- R91: an invalid sum is the default NaN, an exact zero is +0, and a tie rounds to even. -/
theorem test_fadd : fAdd 0x7F800000 0xFF800000 = 0x7FC00000 ∧ fAdd 0x3F800000 0xBF800000 = 0 ∧
    fAdd 0x4B800000 0x3F800000 = 0x4B800000 := by decide +kernel

/-- R182: cmpai.ltu with −1 holds of every operand but the largest. -/
theorem test_cmpai_ltu : condHolds 3 5 ((0x1FF : BitVec 9).signExtend 64) = true ∧
    condHolds 3 (-1) ((0x1FF : BitVec 9).signExtend 64) = false := by decide

/-- R183: T AND U is U, F AND U is F, and xord of two definite values that differ is T. -/
theorem test_plogic : plogicFn 0 predT predU = predU ∧ plogicFn 0 predF predU = predF ∧ plogicFn 4 predT predF = predT := by decide

end

end Sys2Proof.Machine
end

section
/-! PROOFS. What the host and a peer bring to the device: writes to queue windows, accesses by an address of the host, a peer's requests at an
offset (R15, R29, R30, R279, R287, R348, R350). The theorem at the end settles O44. -/

namespace Sys2Proof.Machine

/-! ### The port that carries what comes at one (R348) -/

theorem State.cxlBy_of_up {s : State} {port : BitVec 1} (h : s.portUp (cxlPort port.toNat) = true) : s.cxlBy port = port :=
  if_pos h

/-- The other port carries what comes at one that is down. -/
theorem State.cxlBy_ne_of_down {s : State} {port : BitVec 1} (h : s.portUp (cxlPort port.toNat) = false) : s.cxlBy port ≠ port := by
  have other : s.cxlBy port = ~~~port := if_neg (by simp [h])
  have differs : ∀ p : BitVec 1, ~~~p ≠ p := by decide
  rw [other]
  exact differs port

/-! ### Queue windows (R29, R30) -/

section
variable {s u v : State} {port : BitVec 1} {offset w n : Nat} {bytes : List Byte} {i : BitVec 1 × Nat × List Byte} {r : BitVec 512}

theorem State.windowRecord_of_pass (h : s.checkRecord (w / 16) (.window i.1 (i.2.1 / 1024)) r = (u, .pass)) :
    s.windowRecord i w r = (u.acceptWindow (w / 16) (w % 16) r).forget (.window i.1 (i.2.1 / 1024)) := by
  simp only [State.windowRecord, h]

theorem State.windowRecord_of_bad (h : s.checkRecord (w / 16) (.window i.1 (i.2.1 / 1024)) r = (u, .bad n))
    (back : u.refuseWeight (w / 16) (.window i.1 (i.2.1 / 1024)) r = (v, true)) :
    s.windowRecord i w r =
      (v.logWindow w (2 ^ 31 + n) (whoOf (recPasid r) (recWorld r))).forget (.window i.1 (i.2.1 / 1024)) := by
  simp only [State.windowRecord, h, back]

theorem execQueueWindowWrite_outside (h : ¬(s.takesHost = true ∧ offset < 65536)) :
    execQueueWindowWrite port offset bytes s = .next s := by
  have closed : (!s.takesHost) = true ∨ 65536 ≤ offset := by
    cases taken : s.takesHost with
    | false => exact .inl rfl
    | true => exact .inr (Nat.not_lt.mp fun inside => h ⟨taken, inside⟩)
  exact if_pos closed

section
variable (window : s.takesHost = true ∧ offset < 65536)
include window

theorem execQueueWindowWrite_partial (h : ¬(offset % 64 = 0 ∧ bytes.length = 64)) :
    execQueueWindowWrite port offset bytes s = .next (s.logWindow (offset / 64 % 1024) bytes.length 0) := by
  obtain ⟨taken, inside⟩ := window
  have malformed : offset % 64 ≠ 0 ∨ bytes.length ≠ 64 := not_and_or.mp h
  simp [execQueueWindowWrite, taken, Nat.not_le.mpr inside, malformed]

section
variable (whole : offset % 64 = 0 ∧ bytes.length = 64)
include whole

theorem execQueueWindowWrite_behind (h : s.windowBehind (s.cxlBy port) offset = true) :
    execQueueWindowWrite port offset bytes s = .next { s with inputs := s.inputs ++ [(s.cxlBy port, offset, bytes)] } := by
  obtain ⟨taken, inside⟩ := window
  obtain ⟨aligned, full⟩ := whole
  rw [State.cxlBy] at h ⊢
  simp [execQueueWindowWrite, taken, Nat.not_le.mpr inside, aligned, full, h]

theorem execQueueWindowWrite_record (h : s.windowBehind (s.cxlBy port) offset = false) :
    execQueueWindowWrite port offset bytes s =
      .next (s.windowRecord (s.cxlBy port, offset, bytes) (offset / 64 % 1024) (BitVec.ofNat 512 (leNat bytes))) := by
  obtain ⟨taken, inside⟩ := window
  obtain ⟨aligned, full⟩ := whole
  rw [State.cxlBy] at h ⊢
  simp [execQueueWindowWrite, taken, Nat.not_le.mpr inside, aligned, full, h]

end
end
end

/-! ### Where an address of the host lies (R279) -/

/-- One base at 0 stands where the decoder has been given none. -/
theorem keyOf_unprogrammed {addr : Nat} (h : addr < deviceSize) : keyOf [] addr = addr := by
  have covers : (hdmBases []).find? (fun b => b ≤ addr && addr < b + deviceSize) = some 0 := by simp [hdmBases, h]
  simp only [keyOf, covers, Nat.sub_zero]

theorem State.hostPlace_unprogrammed {s : State} {addr : Nat} (bar0 : s.fabric.bar0 = []) (bar2 : s.fabric.bar2 = [])
    (hdm : s.fabric.hdm = []) (h : addr < deviceSize) : s.hostPlace addr = .dram addr := by
  simp [State.hostPlace, bar0, bar2, hdm, Tbl.find, keyOf_unprogrammed h, h]

/-! ### Accesses by the host (R15, R279, R280, R343, R350)

One lemma for a read of one byte and one for a write of some, for each place that an address comes to. Each keeps the bound 2^64 unevaluated
(`-Nat.reducePow`), so that the hypothesis that the access fits rewrites it. -/

theorem State.secureIn_of_first {s : State} {key size : Nat} (h : s.isSecure key = true) : s.secureIn key size = key :=
  if_pos h

section
variable {s : State} {site : HostAt} {key : Nat}

section
variable (fits : site.addr < 2 ^ 64)
include fits

theorem execHostMemoryAccess_read_beyond (h : s.hostPlace site.addr = .beyond key) :
    execHostMemoryAccess site none s = .next (s.answer (if s.isPoisoned key 1 then [] else [s.byte key])) := by
  simp [-Nat.reducePow, execHostMemoryAccess, Nat.not_le.mpr fits, h]

section
variable (reached : s.hostCut = false)
include reached

theorem execHostMemoryAccess_read_dram (h : s.hostPlace site.addr = .dram key) (notSecure : s.isSecure key = false) :
    execHostMemoryAccess site none s = .next (s.answer (if s.isPoisoned key 1 then [] else [s.byte key])) := by
  simp [-Nat.reducePow, execHostMemoryAccess, Nat.not_le.mpr fits, h, reached, notSecure]

theorem execHostMemoryAccess_read_secure (h : s.hostPlace site.addr = .dram key) (secure : s.isSecure key = true) :
    execHostMemoryAccess site none s = .next ((s.answer []).logWorld key 6 (s.cxlBy site.port).toNat) := by
  simp [-Nat.reducePow, execHostMemoryAccess, Nat.not_le.mpr fits, h, reached, secure, State.secureIn_of_first secure]

theorem execHostMemoryAccess_read_interface (h : s.hostPlace site.addr = .interface key) :
    execHostMemoryAccess site none s = .next (s.answer [s.interfaceByte key]) := by
  simp [-Nat.reducePow, execHostMemoryAccess, Nat.not_le.mpr fits, h, reached]

theorem execHostMemoryAccess_read_window (h : s.hostPlace site.addr = .window key) :
    execHostMemoryAccess site none s = .next (s.answer [0]) := by
  simp [-Nat.reducePow, execHostMemoryAccess, Nat.not_le.mpr fits, h, reached]

end
end

section
variable {b : Byte} (fits : site.addr + (site.rest.length + 1) ≤ 2 ^ 64)
include fits

theorem execHostMemoryAccess_write_beyond (h : s.hostPlace site.addr = .beyond key) :
    execHostMemoryAccess site (some b) s =
      .next ((s.reveal none [(key, (b :: site.rest).length)]).hostStore key (b :: site.rest) site.poisoned) := by
  simp [-Nat.reducePow, execHostMemoryAccess, Nat.not_lt.mpr fits, h]

section
variable (reached : s.hostCut = false)
include reached

theorem execHostMemoryAccess_write_dram (h : s.hostPlace site.addr = .dram key) (first : s.isSecure key = false)
    (last : s.isSecure (key + site.rest.length) = false) :
    execHostMemoryAccess site (some b) s =
      .next ((s.reveal none [(key, (b :: site.rest).length)]).hostStore key (b :: site.rest) site.poisoned) := by
  simp [-Nat.reducePow, execHostMemoryAccess, Nat.not_lt.mpr fits, h, reached, first, last]

theorem execHostMemoryAccess_write_secure (h : s.hostPlace site.addr = .dram key)
    (secure : s.isSecure key = true ∨ s.isSecure (key + site.rest.length) = true) :
    execHostMemoryAccess site (some b) s =
      .next (s.logWorld (s.secureIn key (b :: site.rest).length) 6 (s.cxlBy site.port).toNat) := by
  simp [-Nat.reducePow, execHostMemoryAccess, Nat.not_lt.mpr fits, h, reached, secure]

theorem execHostMemoryAccess_write_interface (h : s.hostPlace site.addr = .interface key) :
    execHostMemoryAccess site (some b) s = .next s := by
  simp [-Nat.reducePow, execHostMemoryAccess, Nat.not_lt.mpr fits, h, reached]

theorem execHostMemoryAccess_write_window (h : s.hostPlace site.addr = .window key) :
    execHostMemoryAccess site (some b) s = execQueueWindowWrite site.port key (b :: site.rest) s := by
  simp [-Nat.reducePow, execHostMemoryAccess, Nat.not_lt.mpr fits, h, reached]

end
end
end

/-! ### Requests of a peer (R287, R350) -/

section
variable {s : State} {site : PeerAt} {op : PeerOp} (fits : site.addr + peerSize op ≤ deviceSize)
include fits

theorem execPeerRequest_notSecure (first : s.isSecure site.addr = false) (last : s.isSecure (site.addr + peerSize op - 1) = false) :
    execPeerRequest site op s =
      .next ((if peerWrites op then s.reveal none [(site.addr, peerSize op)] else s).peer site.addr op) := by
  simp [execPeerRequest, Nat.not_lt.mpr fits, first, last]

theorem execPeerRequest_secure (secure : s.isSecure site.addr = true ∨ s.isSecure (site.addr + peerSize op - 1) = true) :
    execPeerRequest site op s =
      .next ((if peerReads op then s.answer [] else s).logWorld (s.secureIn site.addr (peerSize op)) 7 site.link.toNat) := by
  simp [execPeerRequest, Nat.not_lt.mpr fits, secure]

end

theorem execSpdmRequest_booted {s : State} (nonce : BitVec 256) (h : s.mail.booted = true) :
    execSpdmRequest nonce s = .next { s with mail := { s.mail with doe := s.fabric.report nonce } } :=
  if_pos h

/-! ### The statement -/

/-- Settles O44: each clause is one of the lemmas above, read through the operation's meaning. -/
theorem hostEventResults : Obligations.HostEventResults := by
  unfold Obligations.HostEventResults
  intro s port link offset addr key bytes rest b bad op x nonce w r window by_ place host data reads writes whole write reader
  have record (hw : window) (ho : whole) (hb : s.windowBehind by_ offset = false) :
      write (s.windowRecord (by_, offset, bytes) w r) := execQueueWindowWrite_record hw ho hb
  refine ⟨?pass, ?bad, execQueueWindowWrite_behind, execQueueWindowWrite_partial, execQueueWindowWrite_outside, State.cxlBy_of_up,
    State.cxlBy_ne_of_down, rfl, rfl, State.hostPlace_unprogrammed, ?beyond, ?reached, execPeerRequest_notSecure (site := ⟨link, addr⟩),
    execPeerRequest_secure (site := ⟨link, addr⟩), execSpdmRequest_booted nonce⟩
  case pass =>
    intro u hw ho hb checked
    rw [← State.windowRecord_of_pass (i := (by_, offset, bytes)) checked]
    exact record hw ho hb
  case bad =>
    intro u v n hw ho hb checked back
    rw [← State.windowRecord_of_bad (i := (by_, offset, bytes)) checked back]
    exact record hw ho hb
  case beyond =>
    intro hp
    exact ⟨fun fits => execHostMemoryAccess_read_beyond fits hp, fun fits => execHostMemoryAccess_write_beyond fits hp⟩
  case reached =>
    intro reached
    refine ⟨fun hp ho fits => execHostMemoryAccess_read_dram fits reached hp ho,
      fun hp first last fits => execHostMemoryAccess_write_dram fits reached hp first last,
      fun hp secure fits => execHostMemoryAccess_read_secure fits reached hp secure,
      fun hp secure fits => execHostMemoryAccess_write_secure fits reached hp secure, ?interface, ?window⟩
    all_goals
      intro hp fits
      have first : addr < 2 ^ 64 := Nat.lt_of_lt_of_le (Nat.lt_add_of_pos_right (Nat.succ_pos rest.length)) fits
    case interface =>
      exact ⟨execHostMemoryAccess_read_interface first reached hp, execHostMemoryAccess_write_interface fits reached hp⟩
    case window =>
      exact ⟨execHostMemoryAccess_read_window first reached hp, execHostMemoryAccess_write_window fits reached hp⟩

end Sys2Proof.Machine
end

section
/-! PROOFS. What a result does where it lands (R119, R121): reads of every register class, of scratchpad, of tables and of system registers
after the write. The theorem at the end settles O51. -/

namespace Sys2Proof.Machine

/-! ### Register files: reads after writes (R111, R112) -/

section
variable (g : Regs)

theorem Regs.readK_writeK_self (r : BitVec 6) (x : Dom) :
    (g.writeK r x).readK r = if r = 0 then domSingle 0 else x := by
  unfold Regs.readK Regs.writeK
  split
  · rfl
  · exact Tbl.get_set_self ..

theorem Regs.readK_writeK_ne {q r : BitVec 6} (x : Dom) (h : q ≠ r) : (g.writeK r x).readK q = g.readK q := by
  by_cases h0 : r = 0
  · rw [Regs.writeK, if_pos h0]
  · rw [Regs.writeK, if_neg h0, Regs.readK, Tbl.get_set_ne _ _ _ (BitVec.toNat_ne.1 h)]
    rfl

theorem Regs.writeK_frame (r : BitVec 6) (x : Dom) : g.writeK r x = { g with k := (g.writeK r x).k } := by
  unfold Regs.writeK
  split <;> rfl

theorem Regs.readA_writeA_self (r : BitVec 5) (x : W64) :
    (g.writeA r x).readA r = if r = 0 then 0 else x := by
  unfold Regs.readA Regs.writeA
  split
  · rfl
  · exact Tbl.get_set_self ..

theorem Regs.readA_writeA_ne {q r : BitVec 5} (x : W64) (h : q ≠ r) : (g.writeA r x).readA q = g.readA q := by
  by_cases h0 : r = 0
  · rw [Regs.writeA, if_pos h0]
  · rw [Regs.writeA, if_neg h0, Regs.readA, Tbl.get_set_ne _ _ _ (BitVec.toNat_ne.1 h)]
    rfl

theorem Regs.writeA_frame (r : BitVec 5) (x : W64) : g.writeA r x = { g with a := (g.writeA r x).a } := by
  unfold Regs.writeA
  split <;> rfl

theorem Regs.readP_writeP_self (r : BitVec 7) (x : BitVec 2) :
    (g.writeP r x).readP r = if r = 0 then predT else if x = 3 then predU else x := by
  unfold Regs.readP Regs.writeP
  split
  · rfl
  · simp only [Tbl.get_set_self]

theorem Regs.readP_writeP_ne {q r : BitVec 7} (x : BitVec 2) (h : q ≠ r) : (g.writeP r x).readP q = g.readP q := by
  by_cases h0 : r = 0
  · rw [Regs.writeP, if_pos h0]
  · rw [Regs.writeP, if_neg h0, Regs.readP, Tbl.get_set_ne _ _ _ (BitVec.toNat_ne.1 h)]
    rfl

theorem Regs.writeP_frame (r : BitVec 7) (x : BitVec 2) : g.writeP r x = { g with p := (g.writeP r x).p } := by
  unfold Regs.writeP
  split <;> rfl

theorem Regs.readM_writeM_self (r : BitVec 4) (x : W64) :
    (g.writeM r x).readM r = if r = 0 then BitVec.allOnes 64 else x := by
  unfold Regs.readM Regs.writeM
  split
  · rfl
  · exact Tbl.get_set_self ..

theorem Regs.readM_writeM_ne {q r : BitVec 4} (x : W64) (h : q ≠ r) : (g.writeM r x).readM q = g.readM q := by
  by_cases h0 : r = 0
  · rw [Regs.writeM, if_pos h0]
  · rw [Regs.writeM, if_neg h0, Regs.readM, Tbl.get_set_ne _ _ _ (BitVec.toNat_ne.1 h)]
    rfl

theorem Regs.writeM_frame (r : BitVec 4) (x : W64) : g.writeM r x = { g with m := (g.writeM r x).m } := by
  unfold Regs.writeM
  split <;> rfl

theorem Regs.readV_writeV_self (r : BitVec 6) (x : VecV) : (g.writeV r x).readV r = x := Tbl.get_set_self ..

theorem Regs.writeV_frame (r : BitVec 6) (x : VecV) : g.writeV r x = { g with v := (g.writeV r x).v } := rfl

theorem Regs.readV_writeV_ne {q r : BitVec 6} (x : VecV) (h : q ≠ r) : (g.writeV r x).readV q = g.readV q :=
  Tbl.get_set_ne _ _ _ (BitVec.toNat_ne.1 h)

theorem Regs.readQ_writeQ_self (r : BitVec 5) (x : VecV) : (g.writeQ r x).readQ r = x := Tbl.get_set_self ..

theorem Regs.writeQ_frame (r : BitVec 5) (x : VecV) : g.writeQ r x = { g with q := (g.writeQ r x).q } := rfl

theorem Regs.readQ_writeQ_ne {q r : BitVec 5} (x : VecV) (h : q ≠ r) : (g.writeQ r x).readQ q = g.readQ q :=
  Tbl.get_set_ne _ _ _ (BitVec.toNat_ne.1 h)

end

/-! ### Full/empty marks (R116) and a write that fills a k register (R117, R164) -/

theorem bitOf_setBit_false (x : W64) (n i : Nat) : bitOf (setBit x n false) i = (bitOf x i && decide (i ≠ n)) := by
  by_cases h : i < 64
  · simp [bitOf, setBit, h, eq_comm]
  · simp [bitOf, BitVec.getLsbD_of_ge _ i (Nat.not_lt.1 h)]

section
variable (g : Regs)

theorem Regs.isEmpty_kRef (q : BitVec 6) : g.isEmpty (kRef q) = (decide (q ≠ 0) && bitOf g.ke q.toNat) := by
  by_cases h : q = 0
  · subst h
    rfl
  · have listed : q.toNat ≠ 0 := BitVec.toNat_ne.1 h
    simp [Regs.isEmpty, kRef, listed, show q ≠ 0#6 from h]

theorem Regs.isEmpty_writeK (r q : BitVec 6) (x : Dom) : (g.writeK r x).isEmpty (kRef q) = g.isEmpty (kRef q) := by
  rw [Regs.writeK_frame]
  rfl

theorem Regs.mark_kRef_frame (r : BitVec 6) (b : Bool) : g.mark (kRef r) b = { g with ke := (g.mark (kRef r) b).ke } := by
  unfold Regs.mark kRef
  dsimp only
  split <;> rfl

theorem Regs.isEmpty_mark_full (r q : BitVec 6) : (g.mark (kRef r) false).isEmpty (kRef q) = (g.isEmpty (kRef q) && decide (q ≠ r)) := by
  by_cases h : r = 0
  · subst h
    have kept : g.mark (kRef 0) false = g := rfl
    rw [kept, Regs.isEmpty_kRef]
    cases decide (q ≠ 0) <;> simp
  · have marked : (g.mark (kRef r) false).ke = setBit g.ke r.toNat false := by
      simp [Regs.mark, kRef, show r.toNat ≠ 0 from BitVec.toNat_ne.1 h]
    rw [Regs.isEmpty_kRef, Regs.isEmpty_kRef, marked, bitOf_setBit_false, Bool.and_assoc]
    simp only [ne_eq, BitVec.toNat_eq]

end

/-- The write of a k register where a result lands or ROLL restores it: the register becomes full, but for one that is owed a result. -/
def MemSide.fillK (m : MemSide) (g : Regs) (e : BitVec 6 × Dom) : Regs :=
  let g := g.writeK e.1 e.2
  if m.owesK e.1.toNat then g else g.mark (kRef e.1) false

section
variable (m : MemSide) (g : Regs) (e : BitVec 6 × Dom)

theorem MemSide.fillK_frame : m.fillK g e = { g with k := (m.fillK g e).k, ke := (m.fillK g e).ke } := by
  unfold MemSide.fillK
  dsimp only
  split
  · rw [Regs.writeK_frame]
  · rw [Regs.mark_kRef_frame, Regs.writeK_frame]

theorem MemSide.readK_fillK (q : BitVec 6) : (m.fillK g e).readK q = (g.writeK e.1 e.2).readK q := by
  unfold MemSide.fillK
  dsimp only
  split
  · rfl
  · rw [Regs.mark_kRef_frame]
    rfl

theorem MemSide.isEmpty_fillK (q : BitVec 6) :
    (m.fillK g e).isEmpty (kRef q) = (g.isEmpty (kRef q) && (decide (q ≠ e.1) || m.owesK e.1.toNat)) := by
  unfold MemSide.fillK
  dsimp only
  split
  · rename_i owed
    rw [Regs.isEmpty_writeK, owed, Bool.or_true, Bool.and_true]
  · rename_i owed
    rw [Regs.isEmpty_mark_full, Regs.isEmpty_writeK, Bool.eq_false_of_not_eq_true owed, Bool.or_false]

end

/-- Writes of k registers one after another. -/
def MemSide.fillAllK (m : MemSide) (es : List (BitVec 6 × Dom)) (g : Regs) : Regs := es.foldl m.fillK g

section
variable (m : MemSide)

theorem MemSide.fillAllK_frame (es : List (BitVec 6 × Dom)) (g : Regs) :
    m.fillAllK es g = { g with k := (m.fillAllK es g).k, ke := (m.fillAllK es g).ke } := by
  induction es generalizing g with
  | nil => rfl
  | cons e es ih =>
    obtain ⟨k, ke, first⟩ : ∃ k ke, m.fillK g e = { g with k := k, ke := ke } := ⟨_, _, m.fillK_frame g e⟩
    have step : m.fillAllK (e :: es) g = m.fillAllK es (m.fillK g e) := rfl
    rw [step, first]
    exact ih _

/-- The last write of a register is the one that it keeps. -/
theorem MemSide.readK_fillAllK (es : List (BitVec 6 × Dom)) (g : Regs) {q : BitVec 6} (h : q ≠ 0) :
    (m.fillAllK es g).readK q = ((es.reverse.find? fun e => e.1 = q).map (·.2)).getD (g.readK q) := by
  induction es generalizing g with
  | nil => rfl
  | cons e es ih =>
    have later : (m.fillAllK (e :: es) g).readK q = ((es.reverse.find? fun e => e.1 = q).map (·.2)).getD ((m.fillK g e).readK q) :=
      ih (m.fillK g e)
    rw [later, MemSide.readK_fillK, List.reverse_cons, List.find?_append]
    cases es.reverse.find? fun e => e.1 = q with
    | some later => rfl
    | none =>
      by_cases he : e.1 = q
      · simp [he, Regs.readK_writeK_self, show q ≠ 0#6 from h]
      · simp [he, Regs.readK_writeK_ne g e.2 (Ne.symm he)]

theorem MemSide.isEmpty_fillAllK (es : List (BitVec 6 × Dom)) (g : Regs) (q : BitVec 6) :
    (m.fillAllK es g).isEmpty (kRef q) = (g.isEmpty (kRef q) && ((es.all fun e => e.1 ≠ q) || m.owesK q.toNat)) := by
  induction es generalizing g with
  | nil => simp [MemSide.fillAllK]
  | cons e es ih =>
    have later : (m.fillAllK (e :: es) g).isEmpty (kRef q) =
        ((m.fillK g e).isEmpty (kRef q) && ((es.all fun e => e.1 ≠ q) || m.owesK q.toNat)) := ih (m.fillK g e)
    rw [later, MemSide.isEmpty_fillK, Bool.and_assoc]
    congr 1
    by_cases he : e.1 = q
    · subst he
      cases m.owesK e.1.toNat <;> simp
    · simp [he, Ne.symm he]

end

/-! ### Scratchpad: bytes after writes (R56, R219, R343) -/

/-- One byte of scratchpad. -/
def scrByte (m : Tbl (BitVec 512)) (off : Nat) : Byte := (scrWord m (off / 64)).extractLsb' (8 * (off % 64)) 8

theorem scrBytes_one (m : Tbl (BitVec 512)) (off : Nat) : scrBytes m off 1 = [scrByte m off] := rfl

/-- A byte of a bank word into which a byte has been put. -/
theorem extractByte_putByte (w : BitVec 512) (b : Byte) {i j : Nat} (hi : i < 64) (hj : j < 64) :
    ((w &&& ~~~((0xFF : BitVec 512) <<< (8 * i))) ||| (b.zeroExtend 512 <<< (8 * i))).extractLsb' (8 * j) 8 =
      if j = i then b else w.extractLsb' (8 * j) 8 := by
  have ones (k : Nat) (h : k < 512) : (0xFF#512)[k] = decide (k < 8) := by
    have bit : (0xFF#512).getLsbD k = (decide (k < 512) && Nat.testBit 0xFF k) := BitVec.getLsbD_ofNat 512 0xFF k
    rw [decide_eq_true h, Bool.true_and] at bit
    exact (BitVec.getLsbD_eq_getElem h).symm.trans (bit.trans (Nat.testBit_two_pow_sub_one 8 k))
  apply BitVec.eq_of_getLsbD_eq
  intro k hk
  have inside : 8 * j + k < 512 := by omega
  by_cases h : j = i
  · subst h
    simp [hk, inside, ones]
  · rcases Nat.lt_or_gt_of_ne h with h | h
    · have below : 8 * j + k < 8 * i := by omega
      simp [h.ne, hk, inside, below]
    · have above : ¬8 * j + k < 8 * i := by omega
      have far : ¬8 * j + k - 8 * i < 8 := by omega
      simp [h.ne', hk, inside, above, ones, far, BitVec.getLsbD_of_ge b _ (Nat.not_lt.1 far)]

theorem scrByte_scrPutByte (m : Tbl (BitVec 512)) (off x : Nat) (b : Byte) :
    scrByte (scrPutByte m off b) x = if x = off then b else scrByte m x := by
  by_cases word : x / 64 = off / 64
  · have same : x = off ↔ x % 64 = off % 64 := by omega
    rw [scrByte, scrPutByte, word, scrWord, Tbl.get_set_self, extractByte_putByte _ _ (Nat.mod_lt _ (by decide)) (Nat.mod_lt _ (by decide)),
      scrByte, word]
    simp only [same]
  · have other : x ≠ off := fun h => word (h ▸ rfl)
    rw [if_neg other, scrByte, scrPutByte, scrWord, Tbl.get_set_ne _ _ _ word]
    rfl

theorem scrByte_scrPut_outside (m : Tbl (BitVec 512)) {off x : Nat} (bs : List Byte) (h : x < off ∨ off + bs.length ≤ x) :
    scrByte (scrPut m off bs) x = scrByte m x := by
  induction bs generalizing m off with
  | nil => rfl
  | cons b bs ih =>
    rw [List.length_cons] at h
    have other : x ≠ off := by omega
    rw [scrPut, ih _ (by omega), scrByte_scrPutByte, if_neg other]

theorem scrBytes_scrPut (m : Tbl (BitVec 512)) (off : Nat) (bs : List Byte) : scrBytes (scrPut m off bs) off bs.length = bs := by
  induction bs generalizing m off with
  | nil => rfl
  | cons b bs ih =>
    have first : scrByte (scrPut (scrPutByte m off b) (off + 1) bs) off = b := by
      rw [scrByte_scrPut_outside _ _ (.inl (Nat.lt_succ_self off)), scrByte_scrPutByte, if_pos rfl]
    exact congrArg₂ List.cons first (ih ..)

theorem mem_insertNat {n x : Nat} {xs : List Nat} : x ∈ insertNat n xs ↔ x = n ∨ x ∈ xs := by
  induction xs with
  | nil => simp [insertNat]
  | cons m t ih =>
    unfold insertNat
    split
    · exact List.mem_cons
    · split
      · rename_i same
        simp [same]
      · simp [ih, or_left_comm]

theorem mem_foldl_insertNat {x : Nat} {ls xs : List Nat} : x ∈ ls.foldl (fun p l => insertNat l p) xs ↔ x ∈ ls ∨ x ∈ xs := by
  induction ls generalizing xs with
  | nil => simp
  | cons l ls ih => simp [ih, mem_insertNat, or_assoc, or_left_comm]

/-- A marked datum marks every bank word that it touches. -/
theorem MemSide.mem_scrPoison_scrWrite (m : MemSide) (off : Nat) (bs : List Byte) {l : Nat} (h : l ∈ linesOf off bs.length) :
    l ∈ (m.scrWrite off bs true).scrPoison :=
  mem_foldl_insertNat.2 (.inl h)

theorem MemSide.scrBytes_scrWrite (m : MemSide) (off : Nat) (bs : List Byte) (bad : Bool) :
    scrBytes (m.scrWrite off bs bad).scr off bs.length = bs := scrBytes_scrPut m.scr off bs

theorem MemSide.scrBytes_scrWrite_outside (m : MemSide) {off x : Nat} (bs : List Byte) (bad : Bool) (h : x < off ∨ off + bs.length ≤ x) :
    scrBytes (m.scrWrite off bs bad).scr x 1 = scrBytes m.scr x 1 :=
  congrArg (fun b => [b]) (scrByte_scrPut_outside m.scr bs h)

theorem leBytes_length (n x : Nat) : (leBytes n x).length = n := by
  induction n generalizing x with
  | zero => rfl
  | succ n ih => rw [leBytes, List.length_cons, ih]

/-! ### System registers (R138, R192) -/

/-- What MOVG writes: the register of its number, in the bits that the register has, and no other (R138, R192). -/
theorem Sys.movg_eq (y : Sys) (n : BitVec 12) (x : W64) : y.movg n x =
    { y with
      tvec := if n.toNat = 0x008 then low32 x else y.tvec
      tcause := if n.toNat = 0x009 then low32 x &&& 0xFF else y.tcause
      tpc := if n.toNat = 0x00A then x &&& 0x0000FFFFFFFFFFFF else y.tpc
      tinfo := if n.toNat = 0x00B then x else y.tinfo
      tslot := if n.toNat = 0x00C then low32 x &&& 7 else y.tslot
      pbudget := if n.toNat = 0x010 then low32 x else y.pbudget
      qctl := if n.toNat = 0x018 then low32 x &&& 1 else y.qctl
      qprog := if n.toNat = 0x019 then low32 x else y.qprog
      qempty := if n.toNat = 0x01A then low32 x else y.qempty
      drp := if n.toNat = 0x030 then low32 x else y.drp
      vovf := if n.toNat = 0x032 then low32 x else y.vovf
      qbsz := if n.toNat = 0x03B then x else y.qbsz
      dupw := if n.toNat = 0x040 then low32 x &&& 0x3F else y.dupw
      driftt := if n.toNat = 0x048 then low32 x else y.driftt
      fmt := if 0x020 ≤ n.toNat ∧ n.toNat ≤ 0x02F then Tbl.set 0 y.fmt (n.toNat - 0x020) (low32 x &&& 0x000FFFFF) else y.fmt } := by
  unfold Sys.movg
  split
  case h_15 => split <;> simp [*]
  all_goals simp [*]

theorem zext64_low32_and (x : W64) (m : W32) : zext64 (low32 x &&& m) = x &&& zext64 m := by
  apply BitVec.eq_of_getLsbD_eq
  intro i hi
  by_cases h : i < 32
  · simp [zext64, low32, h, hi]
  · simp [zext64, low32, hi, BitVec.getLsbD_of_ge _ _ (Nat.not_lt.1 h)]

theorem zext64_ofNat (k : Nat) : zext64 (BitVec.ofNat 32 k) = BitVec.ofNat 64 (k % 2 ^ 32) := by
  apply BitVec.eq_of_toNat_eq
  simp [zext64]

theorem zext64_low32 (x : W64) : zext64 (low32 x) = x &&& 0xFFFFFFFF := by
  have all : low32 x &&& BitVec.allOnes 32 = low32 x := BitVec.and_allOnes
  rw [← all, zext64_low32_and]
  rfl

section
variable (c : Context) (n : BitVec 12) (x mcc : W64)

theorem Context.readSys_movg_ne {n' : BitVec 12} (listed : sysReads n' = true) (other : n' ≠ n) :
    ({ c with sys := c.sys.movg n x } : Context).readSys mcc n' = c.readSys mcc n' := by
  have ne : n.toNat ≠ n'.toNat := (BitVec.toNat_ne.1 other).symm
  rw [Sys.movg_eq]
  unfold Context.readSys
  dsimp only
  split
  case h_30 =>
    have format : 0x020 ≤ n'.toNat ∧ n'.toNat ≤ 0x02F := by
      simp_all [sysReads]
    split
    · rename_i range
      have cell : n'.toNat - 0x020 ≠ n.toNat - 0x020 :=
        fun same => ne ((tsub_left_inj range.1 format.1).1 same.symm)
      rw [Tbl.get_set_ne _ _ _ cell]
    · rfl
  all_goals
    rename_i number
    simp only [number] at ne
    simp [ne, Context.wdc, Context.drainedTo]

theorem Context.readSys_movg_self (listed : sysWrites n = true) :
    ({ c with sys := c.sys.movg n x } : Context).readSys mcc n =
      if n = 0x00B ∨ n = 0x03B then x
      else if n = 0x00A then x &&& 0x0000FFFFFFFFFFFF
      else if n = 0x009 then x &&& 0xFF
      else if n = 0x00C then x &&& 7
      else if n = 0x018 then x &&& 1
      else if n = 0x040 then x &&& 0x3F
      else if 0x020 ≤ n.toNat ∧ n.toNat ≤ 0x02F then x &&& 0x000FFFFF
      else x &&& 0xFFFFFFFF := by
  rw [Sys.movg_eq]
  unfold Context.readSys
  dsimp only
  split
  case h_30 =>
    have format : 0x020 ≤ n.toNat ∧ n.toNat ≤ 0x02F := by
      simp_all [sysWrites]
    have named (k : BitVec 12) (h : k.toNat < 0x020 ∨ 0x02F < k.toNat) : n ≠ k := BitVec.toNat_ne.2 (by omega)
    rw [if_pos format, Tbl.get_set_self, zext64_low32_and, if_pos format]
    simp [named, zext64_ofNat]
  -- a register that is read only is no destination
  all_goals
    rename_i number
    simp [sysWrites, number] at listed
  all_goals
    rename_i number
    simp [number, BitVec.toNat_eq, zext64_low32, zext64_low32_and, zext64_ofNat]

end

/-! ### Interval registers under a contractor (R213) -/

/-- The lanes of one q register written. -/
def Regs.mergeOneQ (lanes : W32) (g : Regs) (w : BitVec 5 × VecV) : Regs := g.writeQ w.1 (mergeQ lanes (g.readQ w.1) w.2)

/-- The lanes of some q registers written one register after another. -/
def Regs.mergeAllQ (lanes : W32) (ws : List (BitVec 5 × VecV)) (g : Regs) : Regs := ws.foldl (Regs.mergeOneQ lanes) g

section
variable (lanes : W32) (ws : List (BitVec 5 × VecV)) (g : Regs)

theorem Regs.readQ_mergeOneQ_self (w : BitVec 5 × VecV) : (g.mergeOneQ lanes w).readQ w.1 = mergeQ lanes (g.readQ w.1) w.2 :=
  Regs.readQ_writeQ_self ..

theorem Regs.readQ_mergeOneQ_ne (w : BitVec 5 × VecV) {q : BitVec 5} (h : q ≠ w.1) : (g.mergeOneQ lanes w).readQ q = g.readQ q :=
  Regs.readQ_writeQ_ne g _ h

theorem Regs.mergeAllQ_cons (w : BitVec 5 × VecV) : g.mergeAllQ lanes (w :: ws) = (g.mergeOneQ lanes w).mergeAllQ lanes ws := by
  unfold Regs.mergeAllQ
  exact List.foldl_cons ..

theorem Regs.mergeAllQ_frame : g.mergeAllQ lanes ws = { g with q := (g.mergeAllQ lanes ws).q } := by
  induction ws generalizing g with
  | nil => rfl
  | cons w ws ih =>
    obtain ⟨q, first⟩ : ∃ q, g.mergeOneQ lanes w = { g with q := q } := ⟨_, rfl⟩
    rw [Regs.mergeAllQ_cons, first]
    exact ih _

theorem Regs.readQ_mergeAllQ_ne {q : BitVec 5} (h : q ∉ ws.map (·.1)) : (g.mergeAllQ lanes ws).readQ q = g.readQ q := by
  induction ws generalizing g with
  | nil => rfl
  | cons w ws ih =>
    rw [List.map_cons, List.mem_cons, not_or] at h
    obtain ⟨first, others⟩ := h
    rw [Regs.mergeAllQ_cons, ih _ others, Regs.readQ_mergeOneQ_ne _ _ _ first]

theorem Regs.readQ_mergeAllQ (distinct : (ws.map (·.1)).Nodup) {e : BitVec 5 × VecV} (h : e ∈ ws) :
    (g.mergeAllQ lanes ws).readQ e.1 = mergeQ lanes (g.readQ e.1) e.2 := by
  induction ws generalizing g with
  | nil => exact absurd h List.not_mem_nil
  | cons w ws ih =>
    rw [List.map_cons, List.nodup_cons] at distinct
    obtain ⟨once, others⟩ := distinct
    rw [Regs.mergeAllQ_cons]
    rcases List.mem_cons.1 h with rfl | later
    · rw [Regs.readQ_mergeAllQ_ne _ _ _ once, Regs.readQ_mergeOneQ_self]
    · have other : e.1 ≠ w.1 := fun same => once (same ▸ List.mem_map_of_mem later)
      rw [ih _ others later, Regs.readQ_mergeOneQ_ne _ _ _ other]

end

/-- A contractor has written its registers, QPROG and QEMPTY, and has not yet raised its FAIL. -/
def Context.contracted (c : Context) (ws : List (BitVec 5 × VecV)) (lanes prog emptied : W32) : Context :=
  { c with
    regs := c.regs.mergeAllQ lanes ws
    sys := { c.sys with qprog := c.sys.qprog ||| prog, qempty := c.sys.qempty ||| emptied } }

section
variable (c : Context) (bclk : W64) (off emptied : W32) (first : BitVec 5)

theorem Context.contractFail_frame :
    c.contractFail bclk off emptied first = { c with flow := { c.flow with causes := (c.contractFail bclk off emptied first).flow.causes } } := by
  unfold Context.contractFail
  split <;> rfl

theorem Context.contractFail_raises (on : bitOf c.sys.qctl 0 = true) (some_ : emptied ≠ 0) (alone : ∀ y ∈ c.flow.causes, y.code ≠ 0x01) :
    c.contractFail bclk off emptied first = c.blame (causeAt bclk 0x01 4 off (contractInfo emptied first)) := by
  have none_ : hasContractFail c.flow.causes = false := by
    rw [hasContractFail, List.any_eq_false]
    intro y hy
    simp [show y.code ≠ 1#8 from alone y hy]
  rw [Context.contractFail, if_pos]
  simp [on, none_, show emptied ≠ 0#32 from some_]

theorem Context.contractFail_silent (h : bitOf c.sys.qctl 0 = false ∨ emptied = 0) : c.contractFail bclk off emptied first = c := by
  rw [Context.contractFail, if_neg]
  rcases h with off_ | none_
  · simp [off_]
  · simp [none_]

end

/-! ### Tables under registers' numbers (R60, R124, R128) -/

theorem Tbl.get_put_toNat {α : Type} {n : Nat} (d : α) (t : Tbl α) (b b' : BitVec n) (x : α) :
    Tbl.get d (Tbl.put t b.toNat x) b'.toNat = if b' = b then x else Tbl.get d t b'.toNat := by
  split
  · rename_i same
    rw [same, Tbl.get_put_self]
  · rename_i other
    exact Tbl.get_put_ne _ _ _ (BitVec.toNat_ne.1 other)

/-- A copy puts its result into an entry of its own, but for the bits that belong to the program (R61, R245). -/
theorem getLsbD_teMerge (old x : W32) (i : Nat) :
    ((old &&& 0xF8000004) ||| (x &&& 0x07FFFFFB)).getLsbD i = if i = 2 ∨ 27 ≤ i then old.getLsbD i else x.getLsbD i := by
  by_cases h : i < 32
  · have kept : (0xF8000004 : W32).getLsbD i = decide (i = 2 ∨ 27 ≤ i) ∧ (0x07FFFFFB : W32).getLsbD i = decide (¬(i = 2 ∨ 27 ≤ i)) := by
      revert h
      revert i
      decide
    rw [BitVec.getLsbD_or, BitVec.getLsbD_and, BitVec.getLsbD_and, kept.1, kept.2]
    by_cases program : i = 2 ∨ 27 ≤ i <;> simp [program]
  · simp [BitVec.getLsbD_of_ge _ i (Nat.not_lt.1 h)]

/-! ### What each result does (R119) -/

section
variable {c : Context} {mcc : W64} {f : Flight}

theorem Context.land_k {r : BitVec 6} {x : Dom} (h : f.eff = .k r x) : c.land mcc f = { c with regs := c.mem.fillK c.regs (r, x) } := by
  rw [Context.land, h]
  rfl

theorem Context.land_roll {h n : Nat} {rest : List (Nat × Nat)} (roll : f.eff = .roll) (top : c.swage.ckpts = (h, n) :: rest) :
    c.land mcc f = { c with
      regs := c.mem.fillAllK (c.swage.trail.take (c.swage.trail.length - n)) c.regs
      swage := { c.swage with trail := c.swage.trail.drop (c.swage.trail.length - n), store := c.swage.store.take h, queue := [] } } := by
  rw [Context.land, roll]
  dsimp only
  unfold Context.roll
  split
  case h_1 none_ => exact nomatch top.symm.trans none_
  case h_2 some_ =>
    obtain ⟨⟨rfl, rfl⟩, rfl⟩ := List.cons.inj (top.symm.trans some_)
    rfl

theorem Context.land_contract {ws : List (BitVec 5 × VecV)} {lanes prog emptied : W32} {first : BitVec 5}
    (h : f.eff = .contract ws lanes prog emptied first) :
    c.land mcc f = (c.contracted ws lanes prog emptied).contractFail f.bclk f.off emptied first := by
  rw [Context.land, h]
  rfl

end

theorem toNat_satAdd (c : W32) (n : Nat) : (satAdd c n).toNat = min 0xFFFFFFFF (c.toNat + n) := by
  rw [satAdd, BitVec.toNat_ofNat, Nat.mod_eq_of_lt (by omega)]

/-- Settles O51: each clause unfolds the landing of one result and reads the registers, tables or bytes that it wrote. -/
theorem registerLanding : Obligations.RegisterLanding := by
  unfold Obligations.RegisterLanding
  intro c mcc f
  dsimp only
  refine ⟨?k, ?a, ?p, ?m, ?v, ?q, ?fixed, ?narrow, ?fail, ?post, ?ckpt, ?commit, ?roll, ?prep, ?arm, ?loop, ?ldelta, ?sys, ?scr, ?te,
    ?vovf, ?ovfc, ?epi, ?qprog, ?qempty, ?contract, ?myw, ?mywSub, ?qdi⟩
  case k =>
    intro r x h
    rw [Context.land_k h]
    refine ⟨?_, ?_, fun q other => ?_, fun q => c.mem.isEmpty_fillK c.regs (r, x) q⟩
    · rw [MemSide.fillK_frame]
    · rw [MemSide.readK_fillK, Regs.readK_writeK_self]
    · rw [MemSide.readK_fillK, Regs.readK_writeK_ne _ _ other]
  case a =>
    intro r x h
    rw [Context.land, h]
    refine ⟨?_, Regs.readA_writeA_self .., fun q other => Regs.readA_writeA_ne _ _ other⟩
    dsimp only
    rw [Regs.writeA_frame]
  case p =>
    intro r x h
    rw [Context.land, h]
    refine ⟨?_, Regs.readP_writeP_self .., fun q other => Regs.readP_writeP_ne _ _ other⟩
    dsimp only
    rw [Regs.writeP_frame]
  case m =>
    intro r ls x h
    rw [Context.land, h]
    refine ⟨?_, Regs.readM_writeM_self .., fun q other => Regs.readM_writeM_ne _ _ other⟩
    dsimp only
    rw [Regs.writeM_frame]
  case v =>
    intro r ls x h
    rw [Context.land, h]
    refine ⟨?_, c.regs.readV_writeV_self r _, fun q other => c.regs.readV_writeV_ne _ other⟩
    dsimp only
    rw [Regs.writeV_frame]
  case q =>
    intro r ls x h
    rw [Context.land, h]
    refine ⟨?_, c.regs.readQ_writeQ_self r _, fun q other => c.regs.readQ_writeQ_ne _ other⟩
    dsimp only
    rw [Regs.writeQ_frame]
  case fixed => exact fun b => ⟨rfl, rfl, rfl, rfl⟩
  case narrow =>
    intro ws h
    rw [Context.land, h]
    exact ⟨fun v ok => by simp only [ok], fun r error => by simp only [error]⟩
  case fail =>
    rintro r (h | h) <;> rw [Context.land, h]
  case post =>
    intro rel h
    rw [Context.land, h]
    exact ⟨rfl, rfl⟩
  case ckpt =>
    intro h
    rw [Context.land, h]
    exact ⟨rfl, rfl⟩
  case commit =>
    intro h
    rw [Context.land, h]
    refine ⟨rfl, fun top rest stack => ?_⟩
    simp [Swage.commit, stack]
  case roll =>
    intro h height n rest stack
    rw [Context.land_roll h stack]
    refine ⟨?_, fun q => c.mem.isEmpty_fillAllK _ c.regs q, ?_, fun q other => c.mem.readK_fillAllK _ c.regs other⟩
    · rw [MemSide.fillAllK_frame]
    · rfl
  case prep =>
    intro b kind target h
    rw [Context.land, h]
    exact ⟨rfl, fun b' => Tbl.get_put_toNat ..⟩
  case arm =>
    intro b taken h
    rw [Context.land, h]
    refine ⟨rfl, fun b' => ?_⟩
    dsimp only
    rw [Tbl.get_put_toNat]
    split
    · rename_i same
      rw [same]
      rfl
    · rfl
  case loop =>
    intro lv start last count h
    rw [Context.land, h]
    exact ⟨rfl, fun lv' => Tbl.get_put_toNat ..⟩
  case ldelta =>
    intro lv r x h
    rw [Context.land, h]
    refine ⟨rfl, fun lv' r' => ?_⟩
    dsimp only
    rw [Tbl.get_put_toNat]
    by_cases level : lv' = lv
    · subst level
      by_cases register : r' = r
      · simp [register, Tbl.get_set_self]
      · simp [register, Tbl.get_set_ne _ _ _ (BitVec.toNat_ne.1 register)]
    · simp [level]
  case sys =>
    intro n x h
    rw [Context.land, h]
    refine ⟨rfl, ?_, fun n' listed other => Context.readSys_movg_ne c n x mcc listed other,
      fun listed => Context.readSys_movg_self c n x mcc listed⟩
    by_cases tpc : n = 0x00A
    · simp [tpc]
    · simp [show n ≠ 0x00A#12 from tpc]
  case scr =>
    intro off bytes poisoned h
    rw [Context.land, h]
    refine ⟨rfl, MemSide.scrBytes_scrWrite .., fun x outside => MemSide.scrBytes_scrWrite_outside _ _ _ outside, ?_⟩
    rintro rfl l touched
    exact c.mem.mem_scrPoison_scrWrite off bytes touched
  case te =>
    intro n x h
    rw [Context.land, h]
    refine ⟨rfl, fun n' other => Tbl.get_set_ne _ _ _ (BitVec.toNat_ne.1 other), fun slot => ?_, fun slot i => ?_⟩
    · exact (Tbl.get_set_self ..).trans (if_neg slot)
    · dsimp only
      rw [Tbl.get_set_self, if_pos slot, getLsbD_teMerge]
  case vovf =>
    intro n h
    rw [Context.land, h]
    exact ⟨rfl, rfl, toNat_satAdd ..⟩
  case ovfc =>
    intro n h
    rw [Context.land, h]
    exact ⟨rfl, rfl, toNat_satAdd ..⟩
  case epi =>
    intro off h
    rw [Context.land, h]
    have word : (leBytes 4 c.sys.ovfc.toNat).length = 4 := leBytes_length ..
    refine ⟨rfl, ?_, fun x outside => MemSide.scrBytes_scrWrite_outside _ _ _ (by rwa [word])⟩
    have read := c.mem.scrBytes_scrWrite off (leBytes 4 c.sys.ovfc.toNat) false
    rwa [word] at read
  case qprog =>
    intro mask h
    rw [Context.land, h]
    exact ⟨rfl, rfl⟩
  case qempty =>
    intro mask h
    rw [Context.land, h]
    exact ⟨rfl, rfl⟩
  case contract =>
    intro ws lanes prog emptied first h
    let v := c.contracted ws lanes prog emptied
    rw [Context.land_contract h, Context.contractFail_frame]
    refine ⟨?_, rfl, fun q other => Regs.readQ_mergeAllQ_ne _ _ _ other, fun distinct e listed => Regs.readQ_mergeAllQ _ _ _ distinct listed,
      fun on lost alone => ?_, fun silent => ?_⟩
    · unfold Context.contracted
      dsimp only
      rw [Regs.mergeAllQ_frame]
    · exact congrArg (·.flow.causes) (Context.contractFail_raises v f.bclk f.off emptied first on lost alone)
    · exact congrArg (·.flow.causes) (Context.contractFail_silent v f.bclk f.off emptied first silent)
  case myw =>
    intro x h
    rw [Context.land, h]
    exact ⟨rfl, rfl⟩
  case mywSub =>
    intro x h
    rw [Context.land, h]
    exact ⟨rfl, rfl⟩
  case qdi =>
    intro x h
    rw [Context.land, h]
    exact ⟨rfl, rfl⟩

end Sys2Proof.Machine
end

section
/-! PROOFS. The control slot where an operation looks beyond its context: barriers, launches and domains (R41, R43, R145, R147, R152, R153).
The theorems settle O33, O34 and O36. -/

namespace Sys2Proof.Machine

section
variable {s u : State} {e y x : BitVec 1} {t : BitVec 2}

theorem State.noWait_of_full {rs : List RegRef} (full : s.full rs = true) : firstOf [s.waitRegs rs] = none := by
  rw [State.waitRegs_full.2 full]
  rfl

/-- A CTL operation whose tail bits are ready and whose own checks hold performs, whatever it changes. -/
theorem State.ctlOp_performs {waits : List (Option Nat)} {late : List (Option Cause)} {act : State → State} (ready : s.tailReady x t)
    (sound : e = 1 → s.homeSound) (noWait : firstOf waits = none) (noCause : firstOf late = none) :
    s.ctlOp e y x t waits late act = .next (((act s).mapLive fun c => c.tailAct (s.buf t) e y x t).judge .performed) := by
  obtain ⟨noTxWait, noTailCause⟩ := State.tailReady_checks ready
  have noHomeCause : s.homeCheck (decide (e = 1)) = none := by
    by_cases ends : e = 1
    · exact State.homeCheck_none _ (sound ends)
    · rw [decide_eq_false ends, State.homeCheck_false]
  refine State.issueOp_performs rfl rfl ?_ ?_
  · simp [noWait, noTxWait]
  · rw [firstOf_append, firstOf_append, noCause, noTailCause, noHomeCause]
    rfl

/-! ### Barriers (R41, R145) -/

section
variable {sc : BitVec 2}

theorem execSync_waits (fits : s.gangFits sc = true) (ready : s.tailReady x t)
    (held : s.issue.flow.barrier = .none ∨ s.issue.flow.barrier = .arrived) (last : s.lastToArrive = false) :
    execSync e y x t sc s = .next (s.arrive.judge (.waits 5)) := by
  obtain ⟨noTxWait, _⟩ := State.tailReady_checks ready
  rw [execSync, if_pos]
  simp [fits, held, last, noTxWait]

/-- A SYNC of s has performed with its tail bits, u being s with the gang released or as it was (log 59). -/
def State.synced (s u : State) (e y x : BitVec 1) (t : BitVec 2) : State :=
  ((u.mapLive fun c => { c with flow := { c.flow with barrier := if s.issue.flow.barrier = .late then .none else .issued } }).mapLive fun c =>
    c.tailAct (s.buf t) e y x t).judge .performed

/-- A SYNC that is held no longer, or that no other member of its gang is still to make, performs. -/
theorem execSync_performs (fits : s.gangFits sc = true) (ready : s.tailReady x t) (sound : e = 1 → s.homeSound)
    (goes : (s.issue.flow.barrier = .none ∨ s.issue.flow.barrier = .arrived) → s.lastToArrive = true) :
    execSync e y x t sc s =
      .next (s.synced (if s.issue.flow.barrier = .none ∨ s.issue.flow.barrier = .arrived then s.releaseGang else s) e y x t) := by
  rw [execSync, if_neg]
  · exact State.ctlOp_performs ready sound rfl (by simp [fits])
  · rintro ⟨_, held, notLast, _⟩
    simp [goes held] at notLast

end

/-- Settles O33: a held SYNC waits or, as the last to arrive, releases the gang; one that is held no longer performs alone. -/
theorem syncResults : Obligations.SyncResults := by
  unfold Obligations.SyncResults
  intro s e y x t sc b held done fits ready sound
  refine ⟨fun waits last => execSync_waits fits ready waits last, fun arrives last => ?_, fun released => ?_⟩
  · rw [exec_sync, execSync_performs fits ready sound fun _ => last, if_pos arrives]
    rfl
  · rw [exec_sync, execSync_performs fits ready sound fun h => absurd h released, if_neg released]
    rfl

/-! ### Launches (R31, R147) -/

/-- Settles O34: the checks hold of a well-formed record, and the branch that SPAWN takes is the one of its case. -/
theorem spawnResults : Obligations.SpawnResults := by
  unfold Obligations.SpawnResults
  intro s e y x t p q r off rec_ w spills good sound
  have checks (home : Option Cause) (h : good) (noHome : home = none) : firstOf
      [s.check 0 (off % 64 ≠ 0 || s.issue.scrSize < off + 64) 0x09 (s.a r),
       if (s.issue.viewMarked? s.tick off 64).isSome then some (s.sysCause 0 0x30 2 (BitVec.ofNat 64 (2 ^ 63 + off)) 0 4) else none,
       s.context7 0 (spawnBad rec_) (encode (.spawn e y x t p r q)),
       if ((s.bind? s.issue.id.pasid).map (·.objn)).getD 0 ≤ (recField rec_ 0 16 : BitVec 16).toNat then
         some (s.sysCause 0 0x22 2 (BitVec.ofNat 64 (recField rec_ 0 16 : BitVec 16).toNat) 0 4) else none,
       home] = none := by
    obtain ⟨aligned, inside, wellFormed, unmarked, object⟩ := h
    simp [aligned, Nat.not_lt.2 inside, wellFormed, unmarked, Nat.not_le.2 object, noHome]
  have noHome (h : s.takesSpawn q = false ∨ sound) : s.homeCheck (decide (w = 1) && s.takesSpawn q) = none := by
    rcases h with refused | home
    · rw [refused, Bool.and_false, State.homeCheck_false]
    · by_cases borrows : w = 1
      · exact State.homeCheck_none _ (home borrows)
      · rw [decide_eq_false borrows, Bool.false_and, State.homeCheck_false]
  have overflow : (s.issue.inDomain && decide (w = 1) && overflows w s.issue.sys.qbsz) = true ↔ spills := by
    simp only [Bool.and_eq_true, decide_eq_true_eq, and_assoc, spills]
  refine ⟨?offered, ?refused, ?range⟩
  case offered =>
    refine acts_ctlOp (exec_spawn ..) (fun full _ => State.noWait_of_full full) (fun ⟨h, _, home, _⟩ => checks _ h (noHome (.inr home))) ?_
    rintro ⟨_, takes, _, fits⟩
    exact (if_neg (by simp [takes])).trans (if_neg (mt overflow.1 fits))
  case refused =>
    refine acts_ctlOp (exec_spawn ..) (fun full _ => State.noWait_of_full full) (fun ⟨h, full⟩ => checks _ h (noHome (.inl full))) ?_
    rintro ⟨_, refused⟩
    exact if_pos (by simp [refused])
  case range =>
    refine acts_ctlOp (exec_spawn ..) (fun full _ => State.noWait_of_full full) (fun ⟨h, _, home, _⟩ => checks _ h (noHome (.inr home))) ?_
    rintro ⟨_, takes, _, exceeds⟩
    exact (if_neg (by simp [takes])).trans (if_pos (overflow.2 exceeds))

/-! ### Domains (R43, R152, R153) -/

/-- An operation on a domain whose block can be named goes on with that block. -/
theorem State.withDomain_block {aq : W64} {peerOk : Bool} {waits : List (Option Nat)} {go : State → Nat → Nat → Out} {b : Bind} {key va : Nat}
    (ready : s.tailReady x t) (noWait : firstOf waits = none) (bound : s.bind? s.issue.id.pasid = some b) (listed : aq.toNat < b.qdn)
    (named : s.nameDomain (s.issue.asks s.uid) aq.toNat = (u, .block key va)) (device : s.isHost key = false)
    (peer : peerOk = true ∨ s.isPeer key = false) : s.withDomain x t aq peerOk waits go = go u key va := by
  obtain ⟨noTxWait, _⟩ := State.tailReady_checks ready
  have allowed : (s.isHost key || (!peerOk && s.isPeer key)) = false := by
    rcases peer with peer | peer <;> simp [device, peer]
  simp [State.withDomain, noWait, noTxWait, bound, Nat.not_le.2 listed, named, allowed]

end

/-- Settles O36: the walk of the domain table changes nothing that an operation reads of its own context, so the operation performs from the state
that the walk has left. -/
theorem domainOperationResults : Obligations.DomainOperationResults := by
  unfold Obligations.DomainOperationResults
  intro s u e y x t q w b key va ready fullQ bound listed named device home
  have walked : s.SameButWalks u := by
    have walks := s.nameDomain_frame (s.issue.asks s.uid) (s.a q).toNat
    rwa [named] at walks
  have issue : u.issue = s.issue := walked.issue
  have reads (r : BitVec 5) : u.a r = s.a r := by
    rw [State.a, State.rd, issue]
    rfl
  have readyU : u.tailReady x t := by
    obtain ⟨_, _, _, same⟩ := walked
    rw [same]
    exact ready
  have noHome : firstOf [u.homeCheck true] = none := by
    rw [State.homeCheck_none true home]
    rfl
  have performs (e : BitVec 1) (act : State → State) : u.ctlOp e y x t [] [u.homeCheck true] act =
      .next (((act u).mapLive fun c => c.tailAct (u.buf t) e y x t).judge .performed) :=
    State.ctlOp_performs readyU (fun _ => home) rfl noHome
  have reaches {rs : List RegRef} {peerOk : Bool} {go : State → Nat → Nat → Out} (full : s.full rs = true)
      (peer : peerOk = true ∨ s.isPeer key = false) : s.withDomain x t (s.a q) peerOk [s.waitRegs rs] go = go u key va :=
    State.withDomain_block ready (State.noWait_of_full full) bound listed named device peer
  have both (fullW : s.full [aRef w] = true) : s.full [aRef q, aRef w] = true := by
    rw [← List.singleton_append, State.full_append, fullQ, fullW]
    rfl
  refine ⟨fun fullW least most => ?_, fun fullW bad => ?_, fun own => ?_⟩
  · have good : ¬((u.a w).toNat = 0 ∨ 2 ^ 62 < (u.a w).toNat) := by
      rw [reads]
      omega
    rw [exec_qnew, execQnew, reaches (both fullW) (.inl rfl), performs, if_neg good, reads, reads, issue]
    rfl
  · have outside : (u.a w).toNat = 0 ∨ 2 ^ 62 < (u.a w).toNat := by rwa [reads]
    rw [exec_qnew, execQnew, reaches (both fullW) (.inl rfl), performs, if_pos outside, reads]
    rfl
  · rw [exec_qwait, execQwait, reaches fullQ (.inr own), performs]
    rfl

end Sys2Proof.Machine
end

section
/-! PROOFS. A step of the machine that issues a bundle (R22, R108, R110, R250, R303, R304): the bundle that its words hold, the operations one after
another, and the first trap before the wait. The theorem at the end settles O55. -/

namespace Sys2Proof.Machine

/-! ### The operations that the words of a bundle hold (R108, R139) -/

section
variable {x : BitVec 256} {ops : List Instr}

theorem slotInstr_of_holds (h : bundleHolds x ops) {n : Nat} (hn : n < ops.length) : slotInstr n (slotWord x n) = .ok ops[n] := by
  obtain ⟨_, _, slots⟩ := h
  obtain ⟨decoded, wellFormed⟩ := slots n ops[n] (List.getElem?_eq_getElem hn)
  rw [WellFormed, Option.isNone_iff_eq_none] at wellFormed
  simp only [slotInstr, decoded, wellFormed]

theorem unassignedSlot_of_holds (h : bundleHolds x ops) : unassignedSlot x = none := by
  obtain ⟨eight, _, slots⟩ := h
  rw [unassignedSlot, List.find?_eq_none]
  intro n below
  have hn : n < ops.length := by simpa [eight] using below
  obtain ⟨decoded, _⟩ := slots n ops[n] (List.getElem?_eq_getElem hn)
  simp [decoded]

theorem decodeFrom_of_holds (h : bundleHolds x ops) {k : Nat} (hk : k ≤ 8) : decodeFrom x k = .ok (ops.drop (8 - k)) := by
  have eight : ops.length = 8 := h.1
  have noArm : txArms (slotWord x 0) (decodeSlot 2 (slotWord x 2)) = false := h.2.1
  induction k with
  | zero => rw [decodeFrom, Nat.sub_zero, ← eight, List.drop_length]
  | succ k ih =>
    have hn : 7 - k < ops.length := by omega
    have transfers : (decide (7 - k = 0) && txArms (slotWord x (7 - k)) (decodeSlot 2 (slotWord x 2))) = false := by
      by_cases first : 7 - k = 0
      · rw [first, noArm, Bool.and_false]
      · rw [decide_eq_false first, Bool.false_and]
    have rest : 7 - k + 1 = 8 - k := by omega
    have here : 8 - (k + 1) = 7 - k := by omega
    rw [here, List.drop_eq_getElem_cons hn, rest]
    simp only [decodeFrom, slotInstr_of_holds h hn, transfers, ih (by omega), Bool.false_eq_true, if_false]

theorem decodeBundle_of_holds (h : bundleHolds x ops) : decodeBundle x = .ok ops := by
  simp only [decodeBundle, unassignedSlot_of_holds h]
  exact decodeFrom_of_holds h le_rfl

end

/-! ### What the results of the operations come to (R304) -/

section
variable {s t : State} {ops : List Instr}

theorem Verdict.done.not_trapped {v : Verdict} (h : v.done) (stage : Nat) : v ≠ .trapped stage := by
  rcases h with rfl | rfl <;> simp

theorem firstTrap_of_done (stage : Nat) (h : ∀ i ∈ ops, ∃ t, exec i s = .next t ∧ t.verdict.done) :
    firstTrap stage (outcomes s ops) = none := by
  induction ops with
  | nil => rfl
  | cons i is ih =>
    obtain ⟨t, answers, done⟩ := h i List.mem_cons_self
    have others := ih fun j hj => h j (List.mem_cons_of_mem i hj)
    simp only [outcomes, List.map_cons, answers, firstTrap, if_neg (done.not_trapped stage)]
    exact others

theorem waitsOf_of_done (h : ∀ i ∈ ops, ∃ t, exec i s = .next t ∧ t.verdict.done) : waitsOf (outcomes s ops) = [] := by
  induction ops with
  | nil => rfl
  | cons i is ih =>
    obtain ⟨t, answers, done⟩ := h i List.mem_cons_self
    have others := ih fun j hj => h j (List.mem_cons_of_mem i hj)
    rcases done with done | done <;> simpa only [outcomes, List.map_cons, answers, waitsOf, done] using others

/-- The first operation that traps in a stage is the one that the bundle's trap names. -/
theorem firstTrap_of_first {stage : Nat} {before after : List Instr} {i : Instr}
    (none_ : ∀ j ∈ before, ∃ q, exec j s = .next q ∧ q.verdict ≠ .trapped stage) (answers : exec i s = .next t)
    (traps : t.verdict = .trapped stage) :
    firstTrap stage (outcomes s (before ++ i :: after)) = some t := by
  induction before with
  | nil => simp only [List.nil_append, outcomes, List.map_cons, answers, firstTrap, if_pos traps]
  | cons j js ih =>
    obtain ⟨q, answersJ, notJ⟩ := none_ j List.mem_cons_self
    simp only [List.cons_append, outcomes, List.map_cons, answersJ, firstTrap, if_neg notJ]
    exact ih fun k hk => none_ k (List.mem_cons_of_mem j hk)

theorem performAll_of_performs (h : Performs s ops t) : performAll s ops = .next t := by
  induction h with
  | nil s => rfl
  | cons answers done _ ih => rcases done with done | done <;> simp only [performAll, answers, done, ih]

/-- Some operations that have performed leave a verdict that is done. -/
theorem Performs.done (h : Performs s ops t) (some_ : ops ≠ []) : t.verdict.done := by
  induction h with
  | nil s => exact absurd rfl some_
  | cons _ done rest ih =>
    cases rest with
    | nil => exact done
    | cons _ _ _ => exact ih (List.cons_ne_nil _ _)

theorem State.issueOps_issues {x : BitVec 256} {i0 : Instr} {is : List Instr} (drained : s.issue.drainWait = none)
    (punctual : s.issue.overdue = false) (each : ∀ i ∈ i0 :: is, ∃ t, exec i s = .next t ∧ t.verdict.done)
    (together : Performs s (is ++ [i0]) t) :
    s.issueOps x (i0 :: is) = .issued x t := by
  have noStall : stallOf (waitsOf (outcomes s (i0 :: is)) ++ s.issue.drainWait.toList ++ if s.issue.overdue then [10] else []) = none := by
    rw [waitsOf_of_done each, drained, punctual]
    rfl
  have performs : performAll s ((i0 :: is).drop 1 ++ (i0 :: is).take 1) = .next t := performAll_of_performs together
  simp only [State.issueOps, firstTrap_of_done _ each, noStall, performs]
  rcases together.done (List.append_ne_nil_of_right_ne_nil _ (List.cons_ne_nil _ _)) with done | done <;> simp only [done]

theorem State.issueOps_traps {x : BitVec 256} (h : firstTrap 2 (outcomes s ops) = some t) : s.issueOps x ops = .trapped t := by
  simp only [State.issueOps, h]

end

/-! ### The attempt, the core's move and the step (R22) -/

section
variable {s r u : State} {n : Nat} {x : BitVec 256} {ops : List Instr}

/-- The context checked out on a core. -/
theorem State.checkout_core (h : r.checkout n = some u) : u.core = n := by
  unfold State.checkout at h
  split at h
  · cases h
  · rw [Option.map_eq_some_iff] at h
    obtain ⟨_, _, rfl⟩ := h
    rfl

theorem State.coreOf_mapCore_self (s : State) (n : Nat) (f : Core → Core) : (s.mapCore n f).coreOf n = f (s.coreOf n) :=
  Tbl.get_put_self ..

/-- A context that is ready attempts its bundle, whose operations are issued from the state that `issuing` names. -/
theorem State.attempt_of_readyFor (core : u.core = n) (ready : u.readyFor n x) (holds : bundleHolds x ops) :
    (u.mapCore u.core fun k => { k with tried := some u.mcc }).attempt = (u.issuing ops).issueOps x ops := by
  obtain ⟨_, ⟨_, _, _, _, notIssued, _, noBreak⟩, fetched⟩ := ready
  subst core
  have lookup : ((u.mapCore u.core fun k => { k with tried := some u.mcc }).coreOf u.core).lookup u.live = .bundle x := by
    rw [State.coreOf_mapCore_self]
    exact fetched
  have hits : (u.mapCore u.core fun k => { k with tried := some u.mcc }).hits u.live = none := noBreak
  simp only [State.attempt, State.mapCore_live, State.mapCore_core, if_neg notIssued, hits, lookup, decodeBundle_of_holds holds]
  rfl

/-- A context that is ready moves by attempting its bundle. -/
theorem State.coreMove_of_readyFor (out : r.checkout n = some u) (ready : u.readyFor n x) : r.coreMove n = u.afterAttempt := by
  obtain ⟨⟨running, calm, noCause, noStop, noYield, goes⟩, ⟨credit, switched, _, unspent, _, noRestart, _⟩, _⟩ := ready
  have stays : u.live.stopsNow = false := by simp [Context.stopsNow, noStop]
  simp [State.coreMove, out, running, calm, noCause, stays, noYield, goes, Nat.not_lt.2 credit, switched, unspent, noRestart]

/-- A step whose next move is a core's makes that move, where it answers a next state. -/
theorem step_of_coreMove {t : State} (next : s.nextIsCore n r) (moves : r.coreMove n = .next t) : step s = .next t.afterMove := by
  have made : r.make (.core n) = .next t := moves
  rcases next with ⟨rest, script, rfl⟩ | ⟨script, chosen, rfl⟩
  · simp [step, State.advance, script, State.scripted, Move.toNext, made]
  · simp only [step, State.advance, script, chosen, made]

end

/-- Settles O55: the step is the move of the core, the move is the attempt of a context that is ready, and the attempt comes to what the
results of the operations say, each from the state from which all of them issue. -/
theorem stepRunsDecoded : Obligations.StepRunsDecoded := by
  unfold Obligations.StepRunsDecoded
  intro s r u n x i0 is next out ready holds v
  have core : u.core = n := State.checkout_core out
  have attempt := State.attempt_of_readyFor core ready holds
  refine ⟨fun w drained each together => ?issues, fun before i after t split none_ answers traps => ?traps⟩
  case issues =>
    have punctual : v.issue.overdue = false := ready.2.1.2.2.1
    have issued := attempt.trans (State.issueOps_issues drained punctual each together)
    refine step_of_coreMove next ((State.coreMove_of_readyFor out ready).trans ?_)
    simp only [State.afterAttempt, issued, decodeBundle_of_holds holds]
  case traps =>
    have first : firstTrap 2 (outcomes v (i0 :: is)) = some t := by
      rw [split]
      exact firstTrap_of_first none_ answers traps
    have trapped := attempt.trans (State.issueOps_traps first)
    refine step_of_coreMove next ((State.coreMove_of_readyFor out ready).trans ?_)
    simp only [State.afterAttempt, trapped]
    rw [← core]
    rfl

end Sys2Proof.Machine
end

section
/-! PROOFS. Events of the schedulers (R22, R37 to R41, R51, R319): dispatch of an entry and of a gang, parking, spent slices, gang restarts. The
theorem at the end settles O40. -/

namespace Sys2Proof.Machine

section
variable {s t u : State} {n g q uid : Nat} {c : Context}

theorem execDispatch_gives {x : Ranked} (idle : (s.coreOf n).cur = none) (core : n < 1024) (up : s.mail.failed = false) (pick : s.pickFor n = some x)
    (given : (s.mapCore n fun k => { k with room := none }).give n x = some t) : execDispatch n s = .next t := by
  simp [execDispatch, idle, Nat.not_le.2 core, up, pick, given]

theorem execPark_parks (runs : (s.coreOf n).cur = some uid) (listed : s.ctx? uid = some c) (waited : 256 ≤ (s.coreOf n).waited)
    (noCause : c.flow.causes = []) (unspent : c.budget.spent = false) (calm : c.swage.busy = false) (stays : c.stopsNow = false) :
    execPark n s = .next ((s.mapCtx uid fun c => { c with id := { c.id with status := .parked } }).mapCore n fun k =>
      { k with cur := none, waited := 0, source := 0 }) := by
  have due : s.parkDue n = true := by simp [State.parkDue, runs, listed, waited, noCause, unspent, calm, stays]
  simp [execPark, runs, due]

theorem execBudgetovr_overruns (runs : (s.coreOf n).cur = some uid) (listed : s.ctx? uid = some c) (running : c.id.status = .running)
    (spent : c.budget.spent = true) (calm : c.swage.busy = false) (slice : c.sliceOver = false) :
    execBudgetovr n s = .next (s.mapCtx uid Context.overrun) := by
  have due : c.overrunDue = true := by simp [Context.overrunDue, running, spent, calm, slice]
  simp [execBudgetovr, runs, listed, due]

theorem execBarrierRestart_restarts {k : Gang} {at_ : W64} (listed : Tbl.find s.gangs g = some k) (restart : k.restart = some at_)
    (due : s.mcc.ult at_ = false)
    (released : u = k.members.foldl
      (fun s m => s.mapCtx m fun c => { c with flow := { c.flow with barrier := c.flow.barrier.restart } }) s) :
    execBarrierRestart g s = .next { u with gangs := Tbl.put u.gangs g { k with arrived := [], restart := none } } := by
  subst released
  simp [execBarrierRestart, listed, restart, due]

end

/-! ### Gangs (R39, R51) -/

/-- Every gang of a queue has as many entries as it has cores. -/
theorem length_of_mem_gangsFrom {n k : Nat} {xs w : List Entry} (h : w ∈ gangsFrom n k xs) : w.length = n := by
  induction k generalizing xs with
  | zero => exact absurd h List.not_mem_nil
  | succ k ih =>
    unfold gangsFrom at h
    dsimp only at h
    split at h
    · exact absurd h List.not_mem_nil
    · rename_i whole
      have full : (xs.take n).length = n := le_antisymm (List.length_take_le n xs) (Nat.not_lt.1 whole)
      split at h
      · rcases List.mem_cons.1 h with rfl | later
        · exact full
        · exact ih later
      · exact ih h

theorem length_of_mem_gangsIn {n : Nat} {es w : List Entry} (h : w ∈ gangsIn es n) : w.length = n := length_of_mem_gangsFrom h

theorem gangCores_length (g : Nat) (stack : Bool) : (gangCores g stack).length = if stack then 128 else 16 := by
  cases stack <;> simp [gangCores]

section
variable {s u : State} {g q : Nat} {ms : List (Nat × Entry)}

/-- No member of a gang without a deadline has an entry with one before it. -/
theorem State.gangMayGo_of_free {rank : Option Ranked}
    (free : ∀ m ∈ ms, m.2.finite = false → (s.bestFor m.1).any Ranked.finite = false ∧ s.finiteGangOn m.1 = false) :
    s.gangMayGo rank ms = true := by
  have alone : s.givesWay ms = false := by
    rw [State.givesWay, List.any_eq_false]
    intro m hm
    cases finite : m.2.finite with
    | true => simp
    | false => simp [(free m hm finite).1]
  have noGang (m : Nat × Entry) (hm : m ∈ ms) (finite : m.2.finite = false) (k : Option Ranked × List (Nat × Entry))
      (hk : k ∈ s.gangsNear m.1) :
      (!s.givesWay k.2 && k.2.any fun x => x.1 = m.1 && x.2.finite) = false := by
    have none_ := (free m hm finite).2
    rw [State.finiteGangOn, List.any_eq_false] at none_
    exact Bool.eq_false_of_not_eq_true (none_ k hk)
  have others : (ms.any fun m => !m.2.finite && (s.gangsNear m.1).any fun k =>
      !s.givesWay k.2 && (k.2.any fun x => x.1 = m.1 && x.2.finite) && ((k.2.all fun x => x.2.finite) || rankedBefore k.1 rank)) = false := by
    rw [List.any_eq_false]
    intro m hm
    cases finite : m.2.finite with
    | true => simp
    | false =>
      have near : ((s.gangsNear m.1).any fun k =>
          !s.givesWay k.2 && (k.2.any fun x => x.1 = m.1 && x.2.finite) && ((k.2.all fun x => x.2.finite) || rankedBefore k.1 rank)) = false := by
        rw [List.any_eq_false]
        intro k hk
        rw [noGang m hm finite k hk]
        simp
      simp [near]
  rw [State.gangMayGo, alone, others]
  rfl

/-- The one gang of a queue that may go is the one that the queue dispatches. -/
theorem State.gangOfQueue_of_only {es : List Entry} {cores : List Nat} (mode : Tbl.get 0 (s.clusterOf g).mode q ≠ 0) (queue : q < 16)
    (hc : cores = gangCores g (Tbl.get 0 (s.clusterOf g).mode q = 2)) (only : gangsIn ((s.clusterOf g).queue q) cores.length = [es])
    (ready : s.gangReady (cores.zip es) false = true) (goes : s.gangMayGo (gangRank g q (cores.zip es)) (cores.zip es) = true) :
    s.gangOfQueue g q = some (cores.zip es) := by
  have gangs : s.gangsOfQueue g q = [cores.zip es] := by
    simp only [State.gangsOfQueue]
    rw [if_neg (not_or.2 ⟨mode, Nat.not_le.2 queue⟩), ← hc, only]
    simp [ready]
  simp only [State.gangOfQueue, gangs]
  simp [goes]

theorem execGangDispatch_dispatches (goes : s.gangOfQueue g q = some ms) (room : s.gangLacks ms = none) (read : s.gangTables g q ms = (u, true))
    {v : State} (started : v = u.startGang g q u.freshGang ms) (all_ : ∀ m ∈ ms, m.2 ∉ (v.clusterOf g).queue q) :
    execGangDispatch g q s = .next { v with
      gangs := Tbl.put v.gangs u.freshGang
        { stack := decide (128 ≤ ms.length), members := v.gangMembers u.freshGang, arrived := [], restart := none } } := by
  subst started
  have none_ : (ms.any fun m => (((u.startGang g q u.freshGang ms).clusterOf g).queue q).contains m.2) = false := by
    rw [List.any_eq_false]
    intro m hm
    simpa using all_ m hm
  simp only [execGangDispatch, goes, room, read, Bool.not_true, none_, Bool.false_eq_true, if_false]

/-- The members of a gang of a queue, each with its core: 128 of a stack gang, 16 of a cluster gang. -/
theorem gang_length {es : List Entry} {stack : Bool} (only : gangsIn ((s.clusterOf g).queue q) (gangCores g stack).length = [es]) :
    decide (128 ≤ ((gangCores g stack).zip es).length) = stack := by
  have whole : es.length = (gangCores g stack).length := length_of_mem_gangsIn (only ▸ List.mem_singleton_self es)
  rw [List.length_zip, whole, min_self, gangCores_length]
  cases stack <;> rfl

end

/-- Settles O40: each clause is one of the lemmas above; of a gang, that it is the one its queue dispatches. -/
theorem schedulingEventResults : Obligations.SchedulingEventResults := by
  unfold Obligations.SchedulingEventResults
  intro s t n g q uid c x k
  refine ⟨execDispatch_gives, ?gang, execPark_parks, execBudgetovr_overruns,
    fun at_ listed restart due => execBarrierRestart_restarts listed restart due rfl⟩
  case gang =>
    intro es u stack cores ms mode queue only ready free room read v left
    have goes : s.gangOfQueue g q = some ms := State.gangOfQueue_of_only mode queue rfl only ready (State.gangMayGo_of_free free)
    have members : decide (128 ≤ ms.length) = stack := gang_length only
    rw [exec_gangDispatch, execGangDispatch_dispatches goes room read rfl left, members]

end Sys2Proof.Machine
end

section
/-! PROOFS. Ends of runs, pre-emption, eviction and resumption (R19, R33, R49, R283, R302, R330, R335, R336). The theorem at the end settles O41. -/

namespace Sys2Proof.Machine

section
variable {s t u : State} {n uid : Nat} {c : Context} {p : Preempt}

/-! ### The end of a run (R33) -/

/-- What is left of a run that has ended, c' being its context after the last operation of its own. -/
def State.finished (s : State) (uid : Nat) (c c' : Context) : State :=
  if c'.id.killed then s.machineEnd uid c 1 else (s.lastSamples c).retire uid { c with dbg := { c.dbg with tags := [] } } c'

section
variable (listed : s.ctx? uid = some c) (running : c.id.status = .running) (engines : c.enginesEmpty = true) (noCause : c.flow.causes = [])
  (calm : c.swage.busy = false)
include listed running engines noCause calm

theorem execEnginesEmpty_ends (stop : c.flow.stop = .ending) : execEnginesEmpty uid s = .next (s.finished uid c c.endWeight) := by
  simp [execEnginesEmpty, listed, running, engines, noCause, calm, stop, State.finished]

theorem execEnginesEmpty_suspends {d : W64} {q : BitVec 6} {next : W32} (stop : c.flow.stop = .susp d q next) :
    execEnginesEmpty uid s = .next (s.finished uid c (c.suspOffer d q next)) := by
  simp [execEnginesEmpty, listed, running, engines, noCause, calm, stop, State.finished]

end

/-! ### PREEMPT (R49, R283) -/

theorem execPreemptHalt_halts (listed : s.ctx? uid = some c) (preempt : s.mail.preempt = some p) (core : p.cores.contains n = true)
    (runs : (s.coreOf n).cur = some uid) (covered : targets p.target c = true) (running : c.id.status = .running)
    (held : c.flow.barrier = .none ∨ c.flow.barrier = .arrived)
    (boundary : c.swage.busy = true ∨ (c.flow.causes = [] ∧ c.budget.spent = false ∧ s.fetchStands uid c = none)) :
    execPreemptHalt n s =
      .next (({ s with mail := { s.mail with
        preempt := some { p with cores := removeNat n p.cores, waiting := insertNat uid p.waiting } } } : State).beginEvict uid 1 none) := by
  have atBoundary : ((!c.flow.causes.isEmpty || c.budget.spent || (s.fetchStands uid c).isSome) && !c.swage.busy) = false := by
    rcases boundary with busy | ⟨noCause, unspent, noFetch⟩
    · rw [busy, Bool.not_true, Bool.and_false]
    · simp [noCause, unspent, noFetch]
  have goes : ¬(c.id.status ≠ .running ∨ (!decide (c.flow.barrier = .none ∨ c.flow.barrier = .arrived)) = true ∨
      ((!c.flow.causes.isEmpty || c.budget.spent || (s.fetchStands uid c).isSome) && !c.swage.busy) = true) := by
    simp [running, held, atBoundary]
  simp only [execPreemptHalt, preempt, core, runs, listed, covered, if_neg goes, Bool.not_true, Bool.false_eq_true, if_false]
  rfl

theorem execPreemptCompletion_completes (preempt : s.mail.preempt = some p) (cores : p.cores = []) (waiting : p.waiting.any s.preempting = false)
    (forgot : t = { s with mail := { s.mail with
      preempt := none
      queue := s.mail.queue.drop 1
      unlisted := s.mail.unlisted ++ p.pending.map fun a => (p.target, a) } }) :
    execPreemptCompletion s = .next (State.runMail 64 (t.complete 0x02 (if p.pending.isEmpty then stOk else stMore) p.listed)) := by
  subst forgot
  simp [execPreemptCompletion, preempt, cores, waiting]

/-! ### Eviction and resumption (R19, R335, R336) -/

section
variable (listed : s.ctx? uid = some c)
include listed

section
variable {why : Nat} {report : Option (BitVec 512)} {base : Nat} (evicting : c.id.status = .evicting why report)
  (settled : s.settled uid c = true) (place : base = if c.id.atQwait then c.savedBase else s.recordAddr c)
include evicting settled place

theorem execEvictionCompletes_saves {keys : List Nat}
    (pages : s.reachPages (c.reads (.image uid)) .write (c.savePages base) = (t, .at_ keys)) :
    execEvictionCompletes uid s = .next (t.saveImage uid why base keys report c) := by
  subst place
  simp [execEvictionCompletes, listed, evicting, settled, pages]

theorem execEvictionCompletes_halts {code r : Byte} {unit va : Nat}
    (pages : s.reachPages (c.reads (.image uid)) .write (c.savePages base) = (t, .fail code r unit va)) :
    execEvictionCompletes uid s = .next (t.haltUnsaved uid why code r unit va c) := by
  subst place
  simp [execEvictionCompletes, listed, evicting, settled, pages]

end

theorem execImageRestored_resumes {b : Bind} {keys : List Nat} {k x : Nat} (restoring : c.id.status = .restoring)
    (pages : s.reachPages (c.reads (.image uid)) .read ((c.savePages c.savedBase).drop 1) = (t, .at_ keys)) (sound : c.id.unresumable = false)
    (bound : t.bind? c.id.pasid = some b) (object : t.readTable (c.reads (.image uid)) (b.objectAt c.id.obj.toNat) 32 = (u, .at_ k, x))
    (unmarked : u.isPoisoned k 32 = false) (same : (objOf x).hash = c.id.hash) :
    execImageRestored uid s = .next (u.resumed uid (u.readArea c keys) (objOf x)) := by
  rw [List.drop_one] at pages
  simp [execImageRestored, listed, restoring, pages, sound, bound, object, unmarked, same]

end
end

/-- Settles O41: each clause is one of the lemmas above. -/
theorem runEventResults : Obligations.RunEventResults := by
  unfold Obligations.RunEventResults
  intro s n uid c p listed empty ends
  refine ⟨?ending, ?suspended, execPreemptHalt_halts listed, fun preempt cores waiting => execPreemptCompletion_completes preempt cores waiting rfl,
    ?evicted, ?resumed⟩
  case ending =>
    rintro ⟨running, engines, noCause, calm⟩ stop
    exact execEnginesEmpty_ends listed running engines noCause calm stop
  case suspended =>
    rintro d q next ⟨running, engines, noCause, calm⟩ stop
    exact execEnginesEmpty_suspends listed running engines noCause calm stop
  case evicted =>
    intro why report t evicting settled
    exact ⟨fun keys pages => execEvictionCompletes_saves listed evicting settled rfl pages,
      fun code r unit va pages => execEvictionCompletes_halts listed evicting settled rfl pages⟩
  case resumed =>
    intro t u b keys k x restoring pages sound bound object unmarked same
    exact execImageRestored_resumes listed restoring pages sound bound object unmarked same

end Sys2Proof.Machine
end

section
/-! PROOFS. Operations at the Hearth, accepted records and queue deliveries (R34, R44, R45, R150, R151, R153, R229, R259). The theorem at the end
settles O42. -/

namespace Sys2Proof.Machine

/-! ### The first Hearth operation of a context (R44, R150, R151, R153) -/

section
variable {s : State} {uid : Nat} {c : Context} {block w stamp m total waiter : W64} {home : Option W64} {faulted split : Bool}

theorem execHearthQnew_performs (first : s.nextOp? uid = some (c, .qnew block total)) :
    execHearthQnew uid s = .next ((s.initBlock block.toNat total).opDone uid) := by
  simp only [execHearthQnew, first]

theorem execHearthBorrow_performs (first : s.nextOp? uid = some (c, .borrow block m split)) :
    execHearthBorrow uid s = .next ((s.borrowInto block.toNat m).opDone uid) := by
  simp only [execHearthBorrow, first]

theorem execHearthReturn_performs (first : s.nextOp? uid = some (c, .ret block w faulted stamp)) (drained : c.wdc.ult stamp = false) :
    execHearthReturn uid s = .next ((s.giveBack block.toNat w faulted).opDone uid) := by
  simp [execHearthReturn, first, drained]

theorem execHearthQwait_performs (first : s.nextOp? uid = some (c, .qwait home w block stamp waiter)) (drained : c.wdc.ult stamp = false) :
    execHearthQwait uid s =
      .next ((s.mapCtx uid fun c => { c with mem := { c.mem with hearth := c.mem.hearth.drop 1 } }).waitOn uid home w block.toNat waiter) := by
  simp [execHearthQwait, first, drained]

theorem execSpawnAcceptance_offer {k : BitVec 6} {r : BitVec 512} (first : s.nextOp? uid = some (c, .offer k r stamp)) :
    execSpawnAcceptance uid s = .next ((s.acceptFresh c.id.home k.toNat r (some (uid, stamp))).opDone uid) := by
  simp only [execSpawnAcceptance, first]

theorem execSpawnAcceptance_push {p : Push} (first : s.nextOp? uid = some (c, .push p stamp)) :
    execSpawnAcceptance uid s = .next ((s.acceptPush c.id.home c.id.pasid p (uid, stamp)).opDone uid) := by
  simp only [execSpawnAcceptance, first]

end

/-! ### Entries that come back to the chip (R34) -/

section
variable {s : State} {g q : Nat} {v : VQueue}

theorem execEntryReturn_scheduling {e : Entry} (queue : q < 16) (spilled : firstSpilled ((s.clusterOf g).queue q) = some e)
    (room : spillsSched ((s.clusterOf g).queue q) = false) :
    execEntryReturn g q s = .next (s.mapCluster g fun k =>
      k.setQueue q (((s.clusterOf g).queue q).map fun x => if x = e then { x with spilled := false } else x)) := by
  simp [execEntryReturn, queue, spilled, room]

theorem execEntryReturn_value (hv : v = (s.clusterOf g).values q) (queue : 16 ≤ q) (spilled : (v.entries.any fun e => e.spilled) = true)
    (room : (v.entries.filter fun e => !e.spilled).length < chipSize) :
    execEntryReturn g q s = .next (s.mapCluster g fun k => k.setValues q { v with entries := unspillFirst v.entries }) := by
  subst hv
  simp only [execEntryReturn, if_neg (Nat.not_lt.2 queue), spilled, room, decide_true, Bool.and_true, if_true]

/-! ### Deliveries (R229, R353) -/

/-- A POP no longer waits at a queue. -/
def State.unwait (s : State) (g q : Nat) (v : VQueue) (w : Waiter) : State :=
  s.mapCluster g fun k => k.setValues q { v with waiters := v.waiters.erase w }

theorem execQueueDelivery_again {w : Waiter} {d : Delivery} (hv : v = (s.clusterOf g).values q) (again : s.redelivery? q v = some (w, d)) :
    execQueueDelivery g q s = .next
      (((s.unwait g q v w).mapCtx w.ctx fun c => { c with run := { c.run with again := c.run.again.erase d } }).deliver w d.payload d.weight) := by
  subst hv
  simp only [execQueueDelivery, again]
  rfl

theorem execQueueDelivery_next {w : Waiter} {ws : List Waiter} {e : VEntry} (hv : v = (s.clusterOf g).values q) (first : v.waiters = w :: ws)
    (noAgain : s.redelivery? q v = none) (own : s.again? w.ctx q = none) (next : v.next? = some e) (met : s.stampMet e.stamp = true)
    (free : s.popHeld w = false) (sound : w.failed = false) (unmarked : e.poisoned = false) :
    execQueueDelivery g q s = .next
      (((s.unwait g q (v.take e) w).mapCtx w.ctx fun c =>
        c.journal { qid := q, payload := e.payload, weight := e.weight }).deliver w e.payload e.weight) := by
  subst hv
  have head : ((s.clusterOf g).values q).waiters.head? = some w := by rw [first, List.head?_cons]
  have goes : (!s.stampMet e.stamp || s.popHeld w || w.failed || (s.again? w.ctx q).isSome) = false := by simp [met, free, sound, own]
  simp only [execQueueDelivery, noAgain, head, next, goes, unmarked, Bool.false_eq_true, if_false]
  rfl

end

/-- Settles O42: each clause is one of the lemmas above. -/
theorem queueAndHearthEventResults : Obligations.QueueAndHearthEventResults := by
  unfold Obligations.QueueAndHearthEventResults
  intro s uid g q c v
  exact ⟨fun block total => execHearthQnew_performs, fun block m split => execHearthBorrow_performs,
    fun block w faulted stamp => execHearthReturn_performs, fun home w block stamp waiter => execHearthQwait_performs,
    fun k r stamp => execSpawnAcceptance_offer, fun p stamp => execSpawnAcceptance_push, fun e => execEntryReturn_scheduling,
    execEntryReturn_value rfl, fun w d => execQueueDelivery_again rfl, fun w ws e => execQueueDelivery_next rfl⟩

end Sys2Proof.Machine
end

section
/-! PROOFS. Gathers and scatters of the scratchpad (R58, R220). The theorem settles O23. -/

namespace Sys2Proof.Machine

/-- An aligned base and lanes that all lie in the partition raise no RANGE. -/
theorem State.laneCheck_none {s : State} {b : BitVec 5} {offs : List Nat} (aligned : (s.a b).toNat % 4 = 0)
    (inside : ∀ o ∈ offs, o + 4 ≤ s.issue.scrSize) : s.laneCheck b offs = none := by
  have noLane : offs.find? (fun o => decide (s.issue.scrSize < o + 4)) = none :=
    List.find?_eq_none.2 fun o ho => by simpa using inside o ho
  simp [State.laneCheck, aligned, noLane]

/-- Settles O23: with every register that an indexed access names full, the check of its lanes is the only one it has. -/
theorem indexedScratchpadResults : Obligations.IndexedScratchpadResults := by
  unfold Obligations.IndexedScratchpadResults
  intro s g r i b offs ok go
  have noCause (h : ok) : firstOf [s.laneCheck b offs] = none := by
    rw [State.laneCheck_none h.1 h.2]
    rfl
  have load := exec_ldsVx g r b i s
  have store := exec_stsVx g r b i s
  rw [execLdsVx] at load
  rw [execStsVx] at store
  exact ⟨acts_form load id (fun _ _ => rfl) noCause, acts_form store id (fun _ _ => rfl) noCause⟩

end Sys2Proof.Machine
end

section
/-! PROOFS. The commands of the array (R63, R65, R231 to R240): each check where the Anvil is free for the command, then the command. The
theorem at the end settles O28. -/

namespace Sys2Proof.Machine

/-! ### Checks that hold -/

section
variable {s : State} {o : BitVec 5}

@[simp] theorem State.slotCheck_false : s.slotCheck false o = none := rfl

theorem State.rowCheck_none {last limit : Nat} : s.rowCheck last limit = none ↔ last ≤ limit := by
  simp [State.rowCheck, State.check_none]

theorem State.fmtCheck_none {slot : Nat} {f : BitVec 4} : s.fmtCheck slot f = none ↔ fmtValid (s.fmtReg f) = true := by
  simp [State.fmtCheck, State.check_none]

theorem State.boundCheck_none : s.boundCheck o = none ↔ fmtValid (s.boundFmt o) = true := State.fmtCheck_none

theorem State.classCheck_none {word : Nat} : s.classCheck o word = none ↔ classOf (s.boundFmt o) = s.issue.anvil.act.cls := by
  simp [State.classCheck, State.check_none]

theorem State.schedule_none (idle : s.issue.anvil.run = none) : s.schedule = none := by simp only [State.schedule, idle]

theorem State.portBusy_none (port : s.issue.anvil.ldw = none) : s.portBusy = none := by simp only [State.portBusy, port]

theorem State.drainHazard_none {row n : Nat} (landed : s.issue.anvil.pendingRow row n = none) : s.drainHazard row n = none := by
  simp only [State.drainHazard, landed]

theorem State.readyWait_none (ready : teSt (s.issue.te o.toNat) = teReady) : s.readyWait o = none := if_pos ready

end

/-! ### Commands -/

section
variable {s : State} {o : BitVec 5} {n : BitVec 7} {r : BitVec 9} {m : BitVec 2} (idle : s.issue.anvil.run = none)
include idle

theorem execClaim_claims {f : BitVec 4} (notHeld : s.holds o = false) (mine : (s.coreOf s.core).owner = none ∨ s.ownsAnvil = true)
    (valid : fmtValid (s.fmtReg f) = true) :
    execClaim o f s = .next ((s.performed fun c => c.fly 1 6 (.te (o.zeroExtend 6) (mkTe true f 0 0 teEmpty))).mapCore s.core
      fun k => { k with owner := some s.uid }) := by
  have notTaken : ((s.coreOf s.core).owner.isSome && !s.ownsAnvil) = false := by
    rcases mine with free | owns
    · simp [free]
    · simp [owns]
  rw [execClaim]
  refine State.issueOp_performs rfl ?early rfl ?late
  case early => simp [notHeld, notTaken]
  case late => simp [State.fmtCheck_none.2 valid, State.schedule_none idle]

theorem execRelease_notHeld (notHeld : s.holds o = false) : execRelease o s = .next (s.performed id) := by
  rw [execRelease, State.issueOp_performs rfl rfl rfl (by simp [notHeld, State.schedule_none idle])]
  simp only [notHeld, Bool.false_eq_true, if_false]
  rfl

/-- A slot that no copy fills or drains and that the array no longer reads is given up, and with the last one the Anvil. -/
theorem execRelease_releases (held : s.holds o = true) (notFilling : teSt (s.issue.te o.toNat) ≠ teFilling)
    (notDraining : teSt (s.issue.te o.toNat) ≠ teDraining) (unread : s.issue.anvil.reads o.toNat = false) :
    execRelease o s =
      let x := s.issue.te o.toNat
      let t := s.performed fun c => c.fly 1 6 (.te (o.zeroExtend 6) (mkTe false (teFmt x) (teRem x) (tePh x) teEmpty))
      .next (if s.holdsOther o then t else t.mapCore s.core fun k => { k with owner := none }) := by
  have noCause : (s.holds o && (decide (teSt (s.issue.te o.toNat) = teFilling) || decide (teSt (s.issue.te o.toNat) = teDraining))) = false := by
    simp [notFilling, notDraining]
  rw [execRelease, State.issueOp_performs rfl rfl rfl (by simp [noCause, unread, State.schedule_none idle])]
  simp only [held, if_true]
  cases s.holdsOther o <;> rfl

theorem execSwpw_swaps (owns : s.ownsAnvil = true) (port : s.issue.anvil.ldw = none) :
    execSwpw s = .next (s.performed fun c => { c with anvil := { c.anvil with act := c.anvil.shadow, shadow := c.anvil.act } }) := by
  refine State.issueOp_performs rfl ?early rfl ?late
  case early => simp [owns]
  case late => simp [State.schedule_none idle, State.portBusy_none port]

section
variable (held : s.holds o = true) (ready : teSt (s.issue.te o.toNat) = teReady) (valid : fmtValid (s.boundFmt o) = true)
include held ready valid

theorem execLdw_streams (port : s.issue.anvil.ldw = none) (rows : r.toNat + (n.toNat + 1) ≤ 128) :
    execLdw n o r s = .next (s.performed fun c => { c with anvil := { c.anvil with
      shadow := if c.anvil.shadow.cls = classOf (s.boundFmt o) then c.anvil.shadow else { cls := classOf (s.boundFmt o), lines := [] }
      ldw := some { om := o, fmt := s.boundFmt o, line := r.toNat, left := n.toNat + 1 } } }) := by
  refine State.issueOp_performs rfl ?early ?waits ?late
  case early => simp [held]
  case waits => simp [State.readyWait_none ready]
  case late => simp [State.boundCheck_none.2 valid, State.schedule_none idle, State.portBusy_none port, Nat.add_assoc, State.rowCheck_none.2 rows]

theorem State.accumulate_beats {zero : Bool} {word : Nat} (cls : classOf (s.boundFmt o) = s.issue.anvil.act.cls)
    (rows : r.toNat + (n.toNat + 1) ≤ s.issue.accRows) :
    s.accumulate zero n o r m word = .next (s.performed fun c => { c with anvil := { c.anvil with
      run := some (.acc o r.toNat zero m (s.boundFmt o), n.toNat + 1) } }) := by
  refine State.issueOp_performs rfl ?early ?waits ?late
  case early => simp [held]
  case waits => simp [State.readyWait_none ready]
  case late => simp [State.boundCheck_none.2 valid, State.classCheck_none.2 cls, State.schedule_none idle, Nat.add_assoc, State.rowCheck_none.2 rows]

end

theorem State.drainRows_beats {f32 : Bool} {fmt : W32} {check : List (Option Cause)} {e : BitVec 1} {next : Nat}
    (hnext : next = s.issue.sys.drp.toNat + (n.toNat + 1) * drainBytes f32 fmt + (if e = 1 then 4 else 0)) (checked : firstOf check = none)
    (landed : s.issue.anvil.pendingRow r.toNat (n.toNat + 1) = none) (rows : r.toNat + (n.toNat + 1) ≤ s.issue.accRows)
    (aligned : s.issue.sys.drp.toNat % 4 = 0) (inside : next ≤ s.issue.scrSize) :
    s.drainRows n f32 fmt check r m e = .next (s.performed fun c =>
      let c := c.fly 1 6 (.sys 0x030 (BitVec.ofNat 64 next))
      { c with anvil := { c.anvil with
        run := some (.drain r.toNat f32 fmt m s.issue.sys.drp.toNat (e = 1) true, n.toNat + 1) } }) := by
  simp only [State.drainRows, ← hnext]
  refine State.issueOp_performs rfl rfl rfl ?late
  rw [firstOf_append, checked]
  simp [State.schedule_none idle, State.drainHazard_none landed, State.rowCheck_none.2 rows, aligned, Nat.not_lt.2 inside]

end

/-- Settles O28: each clause is one of the lemmas above. -/
theorem anvilCommandResults : Obligations.AnvilCommandResults := by
  unfold Obligations.AnvilCommandResults
  intro s o f n r m e x fmt count held ready idle port anvil entry acc drain
  have accumulates (op : Instr) (zero : Bool) (word : Nat) (h : exec op s = s.accumulate zero n o r m word) : acc op zero :=
    fun ⟨holds, full, valid⟩ cls free rows => h.trans (State.accumulate_beats free holds full valid cls rows)
  have drains (op : Instr) (f32 : Bool) (fmt : W32) (m : BitVec 2) (check : List (Option Cause))
      (h : exec op s = s.drainRows n f32 fmt check r m e) (checked : firstOf check = none) : drain op f32 fmt m :=
    fun free landed rows aligned inside => h.trans (State.drainRows_beats free rfl checked landed rows aligned inside)
  refine ⟨fun notHeld mine valid free => execClaim_claims free (Bool.eq_false_iff.2 notHeld) mine valid,
    fun holds notFilling notDraining free unread => execRelease_releases free holds notFilling notDraining unread,
    fun notHeld free => execRelease_notHeld free (Bool.eq_false_iff.2 notHeld),
    fun ⟨holds, full, valid⟩ free noLdw rows => execLdw_streams free holds full valid noLdw rows,
    fun owns free noLdw => execSwpw_swaps free owns noLdw,
    accumulates _ _ _ rfl, accumulates _ _ _ rfl, fun valid => drains _ _ _ _ [s.fmtCheck 6 f] rfl ?formatCheck, drains _ _ _ _ [] rfl rfl⟩
  case formatCheck => simp [State.fmtCheck_none.2 valid]

end Sys2Proof.Machine
end

section
/-! PROOFS. Tile counts and gathers of the Tongs (R61, R239, R241, R245 to R247): each check of the copy slot that holds, then the commands. The
theorem at the end settles O30. -/

namespace Sys2Proof.Machine

/-! ### Checks that hold -/

section
variable {s : State} {t : BitVec 6} {l : BitVec 5}

theorem State.threadWait_none : s.threadWait = none ↔ s.sumCore Context.threads < 64 := by
  simp [State.threadWait]

theorem State.claimCheck_none : s.claimCheck t = none ↔ (t.toNat < 32 → teClaimed (s.issue.te t.toNat) = true) := by
  simp [State.claimCheck, State.check_none]

theorem State.tileCheck_none {bad : BitVec 2 → Bool} : s.tileCheck t bad = none ↔ bad (teSt (s.issue.te t.toNat)) = false :=
  State.check_none

theorem State.limitCheck_none {x lo hi : Nat} : s.limitCheck x lo hi = none ↔ lo ≤ x ∧ x ≤ hi := by
  simp [State.limitCheck, State.check_none]

theorem State.scrEnd_none {off : W64} {n : Nat} : s.scrEnd off n = none ↔ off.toNat + n ≤ s.issue.scrSize := by
  simp [State.scrEnd, State.check_none]

theorem State.unitCheck_none {x : W64} {unit : Nat} : s.unitCheck x unit = none ↔ x.toNat % unit = 0 := by
  simp [State.unitCheck, State.alignCheck]

theorem State.globalCheck_none {x : W64} {kind : Byte} : s.globalCheck x kind = none ↔ x.toNat % 64 = 0 := by
  simp [State.globalCheck]

theorem State.readHazard_none :
    s.readHazard t = none ↔ (t.toNat < 32 → s.issue.anvil.reads t.toNat = false ∧ s.beside ≠ some t.toNat) := by
  simp [State.readHazard, State.check_none]

/-- The bits of x from n on are zero where x lies below 2^n. -/
theorem extractLsb'_of_lt {x : W64} {n k : Nat} (h : x.toNat < 2 ^ n) : x.extractLsb' n k = 0 := by
  apply BitVec.eq_of_toNat_eq
  simp [BitVec.extractLsb'_toNat, Nat.shiftRight_eq_div_pow, Nat.div_eq_of_lt h]

/-- A count of R245 fits the low half of aL, as R241 asks of every length. -/
theorem State.lenCheck_none_of_count {dc : Bool} {word : Nat} (h : (s.a l).toNat ≤ 2 ^ 24 - 1) : s.lenCheck l dc word = none := by
  have low (n : Nat) (hn : 2 ^ 24 ≤ 2 ^ n) : (s.a l).extractLsb' n 16 = 0 := extractLsb'_of_lt (by omega)
  simp [State.lenCheck, low 32 (by decide), low 48 (by decide)]

end

/-! ### Commands -/

section
variable {s : State} {l : BitVec 5}

/-- TSET and TDRAIN: one operation, but for the states that they ask for and the state that they give. -/
theorem acts_setEntry {i : Instr} {op : Nat} {t : BitVec 6} {bad : BitVec 2 → Bool} {st : BitVec 2} {ok : Prop}
    (he : exec i s = s.setEntry op t l bad st)
    (free : ok → (t.toNat < 32 → teClaimed (s.issue.te t.toNat) = true ∧ s.issue.anvil.reads t.toNat = false ∧ s.beside ≠ some t.toNat) ∧
      1 ≤ (s.a l).toNat ∧ (s.a l).toNat ≤ 2 ^ 24 - 1)
    (fits : ok → bad (teSt (s.issue.te t.toNat)) = false) :
    Acts i s true [aRef l] ok (s.performed fun c => c.fly 1 7 (.te t (teTo (s.issue.te t.toNat) (s.a l).toNat 0 st))) := by
  refine acts_of_issueOp he rfl fun _ full h => ?_
  obtain ⟨slot, count⟩ := free h
  have claimed := State.claimCheck_none.2 fun below => (slot below).1
  have unread := State.readHazard_none.2 fun below => (slot below).2
  refine ⟨?early, State.noWait_of_full full, ?late⟩
  case early => simp only [claimed, firstOf_none, firstOf_nil]
  case late =>
    simp only [State.lenCheck_none_of_count count.2, State.tileCheck_none.2 (fits h), unread, State.limitCheck_none.2 count, firstOf_none,
      firstOf_nil]

end

/-- Settles O30: each operation's checks hold by the lemmas above. -/
theorem tileAndGatherResults : Obligations.TileAndGatherResults := by
  unfold Obligations.TileAndGatherResults
  intro s t d r l te x row rows free put mem
  refine ⟨acts_setEntry (exec_tset t l s) And.left ?startable, acts_setEntry (exec_tdrain t l s) And.left ?ready, ?gather, ?index, ?close⟩
  case startable =>
    rintro ⟨-, state⟩
    rcases state with h | h <;> rw [h] <;> rfl
  case ready =>
    rintro ⟨-, state⟩
    exact decide_eq_false (not_not.2 state)
  case gather =>
    have op := exec_gather t d r l s
    rw [execGather] at op
    refine acts_of_issueOp op rfl fun _ full ok => ⟨rfl, ?noWait, ?inLimits⟩
    case noWait => simp only [State.waitRegs_full.2 full, State.threadWait_none.2 ok.1, firstOf_none, firstOf_nil]
    case inLimits =>
      obtain ⟨-, closed, high, rowLow, rowHigh, rowUnit, rowsLow, inside, ringUnit, baseUnit⟩ := ok
      have rowsHigh : rows ≤ 65535 := Nat.le_of_lt_succ (x.extractLsb' 16 16).isLt
      have rowFits : (BitVec.ofNat 64 row).toNat % 64 = 0 := by
        rw [BitVec.toNat_ofNat, Nat.mod_mod_of_dvd row (by decide), rowUnit]
      have noneOpen : s.context7 7 (s.issue.gatherOpen || decide (x.extractLsb' 32 32 ≠ 0)) (cpyWord 10 t d r l false) = none := by
        simp [closed, high]
      rw [noneOpen, State.limitCheck_none.2 ⟨rowLow, rowHigh⟩, State.limitCheck_none.2 ⟨rowsLow, rowsHigh⟩, State.scrEnd_none.2 inside,
        State.globalCheck_none.2 baseUnit, State.unitCheck_none.2 ringUnit, State.unitCheck_none.2 rowFits]
      rfl
  case index =>
    have op := exec_gidx r s
    rw [execGidx] at op
    refine acts_of_issueOp op rfl fun _ full ok => ⟨rfl, State.noWait_of_full full, ?room⟩
    case room => simp [ok.1, Nat.not_le.2 ok.2]
  case close =>
    have op := exec_gend s
    rw [execGend] at op
    refine acts_of_issueOp op rfl fun _ _ isOpen => ⟨rfl, rfl, ?opened⟩
    case opened => simp [isOpen]

end Sys2Proof.Machine
end

section
/-! PROOFS. Walks, page responses and overlays (R66, R67, R71 to R73, R77, R284, R325, R348). The theorem at the end settles O39. -/

namespace Sys2Proof.Machine

/-! ### PAGE_WALK (R71 to R73, R325, R348) -/

section
variable {s : State} {pasid : BitVec 20} {va : BitVec 57} {kind : AccKind} {m : Need} {ms : List Need} {b : Bind}
  (needed : s.walkNeeds pasid (va.toNat / 4096) kind = m :: ms) (bound : s.bindingOf m.agent = some b) (sound : s.descPoisoned b = false)
include needed bound sound

theorem execPageWalk_holds {base size pa entry esize value apos dpos : Nat} {w nx : Bool}
    (found : s.walk b m.agent.world va.toNat kind = .page base size pa w nx entry esize value apos dpos) :
    execPageWalk pasid va kind s =
      .next ((s.holdPage m.agent kind base size pa w nx entry esize value apos dpos).walkDone m.agent va.toNat kind) := by
  simp [execPageWalk, needed, bound, sound, found]

theorem execPageWalk_absent (found : s.walk b m.agent.world va.toNat kind = .absent) :
    execPageWalk pasid va kind s = .next (s.walkFails (m :: ms) m.agent va.toNat kind none) := by
  simp [execPageWalk, needed, bound, sound, found]

theorem execPageWalk_denied {nx : Bool} (found : s.walk b m.agent.world va.toNat kind = .denied nx) :
    execPageWalk pasid va kind s = .next (s.walkFails (m :: ms) m.agent va.toNat kind (some nx)) := by
  simp [execPageWalk, needed, bound, sound, found]

theorem execPageWalk_cut {key : Nat} (found : s.walk b m.agent.world va.toNat kind = .cut key) :
    execPageWalk pasid va kind s = .next (s.failNeeds (m :: ms) (.same 0x31 0)) := by
  simp [execPageWalk, needed, bound, sound, found, State.barNeeds]

theorem execPageWalk_closed (found : s.walk b m.agent.world va.toNat kind = .closed) :
    execPageWalk pasid va kind s = .next (s.barNeeds (m :: ms) false) := by
  simp [execPageWalk, needed, bound, sound, found]

end

/-! ### PAGE_RESPONSE (R325, R327) -/

theorem execPageResponse_awaited {s : State} {pasid : BitVec 20} {va : BitVec 57} {kind : AccKind} {r : PageReq} (ok : Bool)
    (awaited : s.awaited pasid va.toNat kind = some r) :
    execPageResponse pasid va kind ok s = .next (if ok then s.answerPage r (s.waitingOn r) else s.refusePage r (s.waitingOn r)) := by
  simp only [execPageResponse, awaited]

/-! ### Overlays (R66, R67) -/

section
variable {s : State} {core uid i : Nat} {c : Context}

theorem execOverlayLoaded_resident (ready : s.fetchReady (s.coreOf core) = some (uid, i, c))
    (resident : ((s.coreOf core).overlay? c.id.hash i).isSome = true) :
    execOverlayLoaded core s = .next (s.mapCore core fun k => k.endFetch uid i) := by
  simp only [execOverlayLoaded, ready, resident, if_true]

/-- An overlay that is not resident under the hash of the context, nor under that of its entry, is fetched where the entry and its bytes can
be read. -/
theorem execOverlayLoaded_fetches {b : Bind} {t : State} {key : Nat} {x : Nat} {ps : List (Nat × Nat)}
    (ready : s.fetchReady (s.coreOf core) = some (uid, i, c)) (bound : s.bind? c.id.pasid = some b)
    (absent : (s.coreOf core).overlay? c.id.hash i = none) (fresh : (s.coreOf core).overlay? (objOf x).hash i = none)
    (entry : s.readTable (c.reads (.fetch core uid)) (b.objectAt c.id.obj.toNat) 32 = (t, .at_ key, x))
    (sound : t.isPoisoned key 32 = false) (spans : t.spans c.agent ((objOf x).base.toNat + 8192 * i) 8192 .fetch = some ps)
    (isOpen : t.fetchBars c ps = none) :
    execOverlayLoaded core s =
      let v := t.mapCtx uid fun c => { c with id := { c.id with base := (objOf x).base } }
      .next (v.mapCore core fun k => (k.endFetch uid i).hold (v.positionOn k) (v.overlayOf (objOf x).hash i ps)) := by
  simp [execOverlayLoaded, ready, bound, absent, fresh, entry, sound, spans, isOpen]

theorem execOverlayPrefetch_holds {t u : State} {o : ObjEntry} {ps : List (Nat × Nat)} (runs : (s.coreOf core).cur = some uid)
    (listed : s.ctx? uid = some c) (expected : c.prefetches.contains i = true) (absent : (s.coreOf core).overlay? c.id.hash i = none)
    (inside : 256 * i < c.id.clen) (found : s.findObject c = some (t, o)) (fresh : (s.coreOf core).overlay? o.hash i = none)
    (spans : t.findAll c.agent .fetch (piecesOf (o.base.toNat + 8192 * i) 8192) = some (u, ps)) (sound : u.spansPoisoned ps = false) :
    execOverlayPrefetch core i s = .next (u.mapCore core fun k => k.hold (u.positionOn k) (u.overlayOf o.hash i ps)) := by
  have offered : i ∈ c.prefetches := by simpa using expected
  simp [execOverlayPrefetch, runs, listed, offered, absent, Nat.not_le.2 inside, found, fresh, spans, sound]

end

/-- Settles O39: each clause is one of the lemmas above. -/
theorem translationEventResults : Obligations.TranslationEventResults := by
  unfold Obligations.TranslationEventResults
  intro s pasid va kind core i walks
  refine ⟨?walk, ?response, fun uid j c => execOverlayLoaded_resident, fun uid j c b t key x ps => execOverlayLoaded_fetches,
    fun uid c t u o ps => execOverlayPrefetch_holds⟩
  case walk =>
    intro m ms b needed bound sound found
    exact ⟨fun base size pa w nx entry esize value apos dpos => execPageWalk_holds needed bound sound,
      execPageWalk_absent needed bound sound, fun nx => execPageWalk_denied needed bound sound,
      fun key => execPageWalk_cut needed bound sound, execPageWalk_closed needed bound sound⟩
  case response =>
    exact fun r awaited => ⟨execPageResponse_awaited true awaited, execPageResponse_awaited false awaited⟩

end Sys2Proof.Machine
end

section
/-! PROOFS. The commands of the mailbox (R74, R262, R281 to R289, R322, R323, R352, R357): each checks its operands, and has its effect where they are
good. The theorem at the end settles O43. -/

namespace Sys2Proof.Machine

/-! ### Completion (R281) -/

/-- The state in which the one command of the mailbox has completed. -/
def State.ended (u : State) (code status : Byte) (results : Nat) : State :=
  (({ u with mail := { u.mail with queue := [] } } : State).forget .command).complete code status results

/-- A command for a mailbox that is full is turned away. -/
theorem State.command_full {s : State} (code : Byte) (o : CmdOps) (takes : s.takesHost = true) (full : 64 ≤ s.mail.queue.length) :
    s.command code o = { s with mail := { s.mail with overrun := true } } := by
  simp [State.command, takes, full]

section
variable {s : State} {o : CmdOps} {op : Instr} {code : Byte} (takes : s.takesHost = true) (empty : s.mail.queue = [])
  (noPreempt : s.mail.preempt = none) (means : exec op s = .next (s.command code o))
include takes empty noPreempt means

theorem exec_of_done {u : State} {status : Byte} {results : Nat}
    (does : (s.posted code o).perform { code := code, ops := o } = (u, .done status results)) :
    exec op s = .next (u.ended code status results) :=
  means.trans (congrArg _ (State.command_done takes empty noPreempt does))

theorem exec_of_waits {u : State} (does : (s.posted code o).perform { code := code, ops := o } = (u, .waits)) : exec op s = .next u :=
  means.trans (congrArg _ (State.command_waits takes empty noPreempt does))

/-- A command that turns bad operands away and has its effect at once with all others. -/
theorem exec_of_checked {bad good : Prop} {_ : Decidable bad} {results : Nat} {f : State → State}
    (does : (s.posted code o).perform { code := code, ops := o } =
      if bad then (s.posted code o, .done stBadArg 0) else (f (s.posted code o), .done stOk results)) (checks : bad ↔ ¬good) :
    (good → exec op s = .next ((f (s.posted code o)).ended code stOk results)) ∧
      (¬good → exec op s = .next ((s.posted code o).ended code stBadArg 0)) :=
  ⟨fun h => exec_of_done takes empty noPreempt means (does.trans (if_neg fun b => checks.1 b h)),
    fun h => exec_of_done takes empty noPreempt means (does.trans (if_pos (checks.2 h)))⟩

end

/-! ### PREEMPT (R49, R283) -/

/-- Operands that PREEMPT takes: a target in its range, an aligned buffer and a capacity of 1 to 65536 entries. -/
def preemptOk (o : CmdOps) : Prop :=
  targetOk o.b8 = true ∧ o.b16.extractLsb' 0 3 = 0 ∧ 1 ≤ o.b24.toNat ∧ o.b24.toNat ≤ 65536 ∧ o.b32 = 0

section
variable {s : State} {o : CmdOps}

theorem not_preemptOk_iff :
    ¬preemptOk o ↔ (!targetOk o.b8) = true ∨ o.b16.extractLsb' 0 3 ≠ 0 ∨ o.b24 = 0 ∨ 65536 < o.b24.toNat ∨ o.b32 ≠ 0 := by
  have zero : o.b24 = 0 ↔ ¬1 ≤ o.b24.toNat := by
    rw [← BitVec.toNat_inj, Nat.not_le, Nat.lt_one_iff]
    rfl
  simp only [preemptOk, not_and_or, zero, Bool.not_eq_true, Bool.not_eq_true', ne_eq, Nat.not_le]

theorem State.doPreempt_good (good : preemptOk o) : s.doPreempt o = (s.beginPreempt o, .waits) :=
  if_neg fun bad => not_preemptOk_iff.2 bad good

theorem State.doPreempt_bad (bad : ¬preemptOk o) : s.doPreempt o = (s, .done stBadArg 0) :=
  if_pos (not_preemptOk_iff.1 bad)

end

/-! ### Translations (R74) -/

section
variable {s : State} {o : CmdOps}

/-- The translations that INVAL names are dropped. -/
def State.dropNamed (s : State) (o : CmdOps) : State :=
  { s with mmu := { s.mmu with tlb := s.mmu.tlb.filter fun t => !invalNames o t.pasid t.base (2 ^ t.size) } }

theorem State.doInval_good (good : pasidOk o.b8 = true ∧ o.b32 = 0) :
    s.doInval o = (s.dropNamed o, if s.usesOld o then .waits else .done stOk 0) :=
  if_neg (by simp [good])

/-- Where no write by a named translation has still to perform, INVAL is like the commands that complete at once. -/
theorem State.doInval_checked (atOnce : s.usesOld o = false ∨ ¬(pasidOk o.b8 = true ∧ o.b32 = 0)) :
    s.doInval o = if !pasidOk o.b8 ∨ o.b32 ≠ 0 then (s, .done stBadArg 0) else (s.dropNamed o, .done stOk 0) := by
  by_cases bad : (!pasidOk o.b8) = true ∨ o.b32 ≠ 0
  · rw [if_pos bad]
    exact if_pos bad
  · have good : pasidOk o.b8 = true ∧ o.b32 = 0 := by simpa using bad
    have drained : s.usesOld o = false := atOnce.resolve_right (not_not.2 good)
    rw [if_neg bad, State.doInval_good good, drained]
    rfl

/-! ### Queue modes (R39, R227, R282) -/

/-- A queue that may change its mode: a scheduling queue, or a value queue that holds no entries and no POPs. -/
def State.modeFree (s : State) (o : CmdOps) : Prop :=
  16 ≤ o.b16.toNat → ((s.clusterOf o.b8.toNat).values o.b16.toNat).entries = [] ∧ ((s.clusterOf o.b8.toNat).values o.b16.toNat).waiters = []

/-- The mode that QMODE sets. -/
def Cluster.setMode (k : Cluster) (o : CmdOps) (v : VQueue) : Cluster :=
  if o.b16.toNat < 16 then { k with mode := Tbl.set 0 k.mode o.b16.toNat (BitVec.ofNat 2 o.b24.toNat) }
  else if o.b24 = 4 then k.setValues o.b16.toNat { v with ticketMode := true, nt := 0 }
  else k.setValues o.b16.toNat { v with ticketMode := false }

theorem State.doQmode_free (free : s.modeFree o) :
    s.doQmode o = if !qmodeOk o.b8.toNat o.b16.toNat o.b24.toNat ∨ o.b32 ≠ 0 then (s, .done stBadArg 0)
      else (s.mapCluster o.b8.toNat fun k => k.setMode o ((s.clusterOf o.b8.toNat).values o.b16.toNat), .done stOk 0) := by
  have ticket : o.b24 = 4 ↔ o.b24.toNat = 4 := by
    rw [← BitVec.toNat_inj]
    rfl
  rw [State.doQmode]
  refine if_congr Iff.rfl rfl ?_
  by_cases sched : o.b16.toNat < 16
  · simp only [Cluster.setMode, sched, if_true]
  · obtain ⟨noEntry, noPop⟩ := free (Nat.not_lt.1 sched)
    simp only [Cluster.setMode, ticket, sched, noEntry, noPop, List.isEmpty_nil, Bool.not_true, Bool.false_eq_true, or_self, if_false]
    split <;> rfl

theorem State.doQmode_busy (busy : ¬s.modeFree o) :
    s.doQmode o =
      (s, .done (if qmodeOk o.b8.toNat o.b16.toNat o.b24.toNat = true ∧ o.b32 = 0 then stBusy else stBadArg) 0) := by
  simp only [State.modeFree, Classical.not_imp] at busy
  obtain ⟨value, held⟩ := busy
  by_cases good : qmodeOk o.b8.toNat o.b16.toNat o.b24.toNat = true ∧ o.b32 = 0
  · have occupied : (!((s.clusterOf o.b8.toNat).values o.b16.toNat).entries.isEmpty) = true ∨
        (!((s.clusterOf o.b8.toNat).values o.b16.toNat).waiters.isEmpty) = true := by simpa [-not_and, not_and_or] using held
    rw [if_pos good, State.doQmode, if_neg (by simp [good]), if_neg (Nat.not_lt.2 value)]
    exact if_pos occupied
  · rw [if_neg good]
    exact if_pos (by simpa only [not_and_or, Bool.not_eq_true, Bool.not_eq_true'] using good)

/-! ### Routes (R287) -/

/-- The place of a route in the table: that of the entry of its BASE, or the first free one. -/
def State.routePlace (s : State) (o : CmdOps) : Nat :=
  ((s.fabric.routes.find? fun e => e.2.1 = o.b8).map (·.1)).getD s.fabric.routes.length

theorem State.doRoute_checked :
    s.doRoute o =
      if (o.b8.extractLsb' 0 39 ≠ 0 ∨ 65535 < o.b16.toNat ∨ o.b24 ≠ 0 ∨ o.b32 ≠ 0) ∨ 64 ≤ s.routePlace o then (s, .done stBadArg 0)
      else ({ s with fabric := { s.fabric with
          routes := Tbl.put s.fabric.routes (s.routePlace o) (o.b8, o.b16.extractLsb' 0 16) } }, .done stOk 0) :=
  (ite_or ..).symm

/-! ### KILL (R323) -/

theorem State.doKill_bad (bad : ¬(pasidOk o.b16 = true ∧ o.b24 = 0 ∧ o.b32 = 0)) : s.doKill o = (s, .done stBadArg 0) :=
  if_pos (by simpa only [not_and_or, Bool.not_eq_true, Bool.not_eq_true'] using bad)

section
variable (good : pasidOk o.b16 = true ∧ o.b24 = 0 ∧ o.b32 = 0)
include good

theorem State.doKill_none (unknown : s.killed? (pasidOf o.b16) o.b8.toNat = none) : s.doKill o = (s, .done stBadArg 0) := by
  simp [State.doKill, good, unknown]

variable {uid : Nat} {c : Context} {u : State} (killed : s.killed? (pasidOf o.b16) o.b8.toNat = some (uid, c))
include killed

theorem State.doKill_at {key : Nat} (reached : s.reachOpen (c.reads .command) o.b8.toNat .write = (u, .at_ key)) :
    s.doKill o = ((u.markFaulted key).endRun uid c c.homeNow c.sys.myw, .done stOk 0) := by
  simp [State.doKill, good, killed, reached]

theorem State.doKill_fail {code reason : Byte} (reached : s.reachOpen (c.reads .command) o.b8.toNat .write = (u, .fail code reason)) :
    s.doKill o = (u, .done stBadArg 0) := by
  simp [State.doKill, good, killed, reached]

theorem State.doKill_waits (reached : s.reachOpen (c.reads .command) o.b8.toNat .write = (u, .wait)) : s.doKill o = (u, .waits) := by
  simp [State.doKill, good, killed, reached]

end
end

/-! ### Codes that name no command (R282) -/

theorem State.perform_unnamed (s : State) {c : Cmd} (clean : c.ops.stray = false) (h : c.code = 0 ∨ 12 < c.code.toNat) :
    s.perform c = (s, .done stBadCmd 0) := by
  have noName : c.code.toNat = 0 ∨ 12 < c.code.toNat := h.imp_left fun zero => by rw [zero]; rfl
  simp only [State.perform, clean, Bool.false_eq_true, if_false]
  split
  case h_13 => rfl
  all_goals omega

/-! ### The statement -/

/-- Settles O43: each command checks its operands and has its effect as the lemmas above say, and the mailbox completes it at once, or keeps it at
its head where it waits. -/
theorem commandResults : Obligations.CommandResults := by
  unfold Obligations.CommandResults
  intro s o takes empty noPreempt clean posted ends cmd x desc route report n cluster values goodPreempt goodInval dropped goodQmode free
    goodKill
  have notStray : ¬o.stray = true := by simp [clean]
  have checked {op : Instr} {code : Byte} {bad good : Prop} {_ : Decidable bad} {results : Nat} {f : State → State}
      (means : exec op s = .next (s.command code o))
      (does : (posted code).perform { code := code, ops := o } =
        if bad then (posted code, .done stBadArg 0) else (f (posted code), .done stOk results))
      (checks : bad ↔ ¬good) : cmd op code good results f := exec_of_checked takes empty noPreempt means does checks
  -- From here on `cmd` is what `checked` proves: opaque, so that its arguments are read off the goal.
  clear_value cmd
  refine ⟨?bind, ?preempt, ?preemptBad, ?inval, ?invalWaits, ?qmode, ?qmodeBusy,
    ?descinv, ?temper, ?route, ?attest, ?fring, ?killBad, ?kill, ?reset, ?elog, ?full, ?badcmd⟩
  case bind =>
    have checks : (o.b24 ≠ 0 ∨ o.b32 ≠ 0 ∨ (!pasidOk o.b8) = true ∨ bindBad x = true) ↔
        ¬(o.b24 = 0 ∧ o.b32 = 0 ∧ pasidOk o.b8 = true ∧ bindBad x = false) := by
      simp only [not_and_or, Bool.not_eq_true, Bool.not_eq_true', Bool.not_eq_false, ne_eq]
    exact checked rfl (if_neg notStray) checks
  case preempt =>
    exact fun good => exec_of_waits (code := 2) takes empty noPreempt rfl ((if_neg notStray).trans (State.doPreempt_good good))
  case preemptBad =>
    exact fun bad => exec_of_done takes empty noPreempt rfl ((if_neg notStray).trans (State.doPreempt_bad bad))
  case inval =>
    intro atOnce
    refine checked rfl ((if_neg notStray).trans (State.doInval_checked atOnce)) ?_
    simp only [goodInval, not_and_or, Bool.not_eq_true, Bool.not_eq_true', ne_eq]
  case invalWaits =>
    intro uses good
    have waits : (posted 3).doInval o = (dropped (posted 3), .waits) :=
      (State.doInval_good good).trans (congrArg (Prod.mk _) (if_pos uses))
    exact exec_of_waits (code := 3) takes empty noPreempt rfl ((if_neg notStray).trans waits)
  case qmode =>
    intro isFree
    refine checked rfl ((if_neg notStray).trans (State.doQmode_free isFree)) ?_
    simp only [goodQmode, not_and_or, Bool.not_eq_true, Bool.not_eq_true', ne_eq]
  case qmodeBusy =>
    exact fun busy => exec_of_done takes empty noPreempt rfl ((if_neg notStray).trans (State.doQmode_busy busy))
  case descinv =>
    refine checked rfl (if_neg notStray) ?_
    simp only [not_and_or, Bool.not_eq_true, Bool.not_eq_true', ne_eq]
  case temper =>
    refine checked rfl (if_neg notStray) ?_
    simp only [not_and_or, Nat.not_le, ne_eq]
  case route =>
    refine checked rfl ((if_neg notStray).trans State.doRoute_checked) ?_
    simp only [or_assoc, not_and_or, Nat.not_le, Nat.not_lt, ne_eq]
    rfl
  case attest => exact checked (bad := False) rfl (if_neg notStray) (by simp)
  case fring =>
    exact checked rfl (if_neg notStray) (by simp)
  case reset =>
    refine checked rfl (if_neg notStray) ?_
    simp only [not_and_or, Nat.not_lt, ne_eq]
    rfl
  case elog =>
    exact checked rfl (if_neg notStray) (by simp)
  case killBad =>
    exact fun bad => exec_of_done takes empty noPreempt rfl ((if_neg notStray).trans (State.doKill_bad bad))
  case kill =>
    intro good
    refine ⟨fun unknown => exec_of_done takes empty noPreempt rfl ((if_neg notStray).trans (State.doKill_none good unknown)), ?_⟩
    intro uid c listed
    have killed : (posted 10).killed? (pasidOf o.b16) o.b8.toNat = some (uid, c) := listed
    exact ⟨fun u key reached => exec_of_done takes empty noPreempt rfl ((if_neg notStray).trans (State.doKill_at good killed reached)),
      fun u code reason reached => exec_of_done takes empty noPreempt rfl ((if_neg notStray).trans (State.doKill_fail good killed reached)),
      fun u reached => exec_of_waits (code := 10) takes empty noPreempt rfl
        ((if_neg notStray).trans (State.doKill_waits good killed reached))⟩
  case full =>
    intro t takes full op listed
    have away (code : Byte) : Host.Outcome.next (t.command code o) = (.next { t with mail := { t.mail with overrun := true } } : Out) :=
      congrArg _ (State.command_full code o takes full)
    simp only [List.mem_cons, List.not_mem_nil, or_false] at listed
    rcases listed with rfl | rfl | rfl | rfl | rfl | rfl | rfl | rfl | rfl | rfl | rfl | rfl <;> exact away _
  case badcmd =>
    intro code unnamed
    have emptied : ({ s.mail with queue := [], accepted := s.mail.accepted + 1 } : Mailbox) =
        { s.mail with accepted := s.mail.accepted + 1 } := by rw [← empty]
    rw [← emptied]
    exact exec_of_done takes empty noPreempt rfl (State.perform_unnamed _ rfl unnamed)

end Sys2Proof.Machine
end

section
/-! PROOFS. Narrowings by relations other than MUL and MULI (R85 to R87, R162, R166): the sets that a projection leaves keep the values of a
solution, and so do their intersections at a register and the hulls of these. The theorem at the end settles O52. -/

namespace Sys2Proof.Machine

/-! ### Sets left of a set -/

/-- ys is what a projection leaves of xs: it rises, it keeps x, and it has no member that xs has not. -/
structure Runs.Leaves (xs : Runs) (x : Int) (ys : Runs) : Prop where
  ok : Runs.Ok ys
  keeps : Runs.mem x ys = true
  within : ∀ v, Runs.mem v ys = true → Runs.mem v xs = true

section
variable {xs ys zs : Runs} {x y z : Int}

theorem Runs.leaves_self (ok : Runs.Ok xs) (hx : xs.mem x = true) : Runs.Leaves xs x xs := ⟨ok, hx, fun _ => id⟩

theorem Runs.leaves_inter (hx : xs.mem x = true) (hy : ys.mem x = true) : Runs.Leaves xs x (xs.inter ys) :=
  ⟨Runs.ok_of _, Runs.mem_inter.2 ⟨hx, hy⟩, fun _ h => (Runs.mem_inter.1 h).1⟩

theorem Runs.leaves_above (hx : xs.mem x = true) (h : y ≤ x) : Runs.Leaves xs x (xs.above y) :=
  ⟨Runs.ok_of _, Runs.mem_above.2 ⟨hx, h⟩, fun _ h => (Runs.mem_above.1 h).1⟩

theorem Runs.leaves_below (hx : xs.mem x = true) (h : x ≤ y) : Runs.Leaves xs x (xs.below y) :=
  ⟨Runs.ok_of _, Runs.mem_below.2 ⟨hx, h⟩, fun _ h => (Runs.mem_below.1 h).1⟩

theorem Runs.leaves_without (hx : xs.mem x = true) (h : x ≠ y) : Runs.Leaves xs x (xs.without y) :=
  ⟨Runs.ok_of _, Runs.mem_without.2 ⟨hx, h⟩, fun _ h => (Runs.mem_without.1 h).1⟩

/-- A projection made on the negated set. -/
theorem Runs.Leaves.neg (h : Runs.Leaves xs.neg (-x) ys) : Runs.Leaves xs x ys.neg where
  ok := Runs.ok_of _
  keeps := Runs.mem_neg.2 h.keeps
  within v hv := by simpa using Runs.mem_neg.1 (h.within _ (Runs.mem_neg.1 hv))

theorem Runs.mem_neg_neg (hx : xs.mem x = true) : xs.neg.mem (-x) = true := Runs.mem_neg.2 (by rwa [neg_neg])

theorem Runs.mem_singleton : Runs.mem x [(x, x)] = true := Runs.mem_cons.2 (.inl ⟨le_rfl, le_rfl⟩)

theorem Runs.mem_sum_of_eq (hx : xs.mem x = true) (hy : ys.mem y = true) (sum : z = x + y) : (xs.sum ys).mem z = true :=
  sum ▸ Runs.mem_sum_of hx hy

/-- A value whose absolute value is that of a member. -/
theorem Runs.mem_union_neg (hx : xs.mem x = true) (same : y = x ∨ y = -x) : (xs.union xs.neg).mem y = true := by
  rcases same with rfl | rfl
  · exact Runs.mem_union.2 (.inl hx)
  · exact Runs.mem_union.2 (.inr (Runs.mem_neg_neg hx))

/-- A member that differs from a member of ys is not the only member of ys (R162). -/
theorem Runs.leaves_apartFrom (okx : Runs.Ok xs) (oky : Runs.Ok ys) (hx : xs.mem x = true) (hy : ys.mem y = true) (differ : x ≠ y) :
    Runs.Leaves xs x (apartFrom xs ys) := by
  obtain ⟨least, isLeast, hl, -⟩ := Runs.min?_le oky hy
  obtain ⟨greatest, isGreatest, hg, -⟩ := Runs.le_max? oky hy
  simp only [apartFrom, isLeast, isGreatest]
  split
  · exact Runs.leaves_without hx (by omega)
  · exact Runs.leaves_self okx hx

/-- The least of two members is a minimum of members (R85). -/
theorem Runs.leaves_minResult (okx : Runs.Ok xs) (oky : Runs.Ok ys) (hz : zs.mem z = true) (hx : xs.mem x = true) (hy : ys.mem y = true)
    (least : z = min x y) : Runs.Leaves zs z (minResult zs xs ys) := by
  obtain ⟨topX, isTopX, belowX, -⟩ := Runs.le_max? okx hx
  obtain ⟨topY, isTopY, belowY, -⟩ := Runs.le_max? oky hy
  simp only [minResult, isTopX, isTopY]
  refine ⟨Runs.ok_of _, ?_, fun v hv => ?_⟩
  · simp only [Runs.mem_union, Runs.mem_below, Runs.mem_inter]
    rcases le_total x y with h | h
    · rw [min_eq_left h] at least
      exact .inl ⟨⟨hz, least ▸ hx⟩, by omega⟩
    · rw [min_eq_right h] at least
      exact .inr ⟨⟨hz, least ▸ hy⟩, by omega⟩
  · simp only [Runs.mem_union, Runs.mem_below, Runs.mem_inter] at hv
    exact hv.elim (fun h => h.1.1) fun h => h.1.1

/-- A source of a minimum is the minimum itself, or lies above one that the other source takes (R85). -/
theorem Runs.leaves_minSource (oky : Runs.Ok ys) (hz : zs.mem z = true) (hx : xs.mem x = true) (hy : ys.mem y = true)
    (least : z = min x y) : Runs.Leaves xs x (minSource xs ys zs) := by
  obtain ⟨top, isTop, below, -⟩ := Runs.le_max? oky hy
  have low (h : x ≤ y) : ((xs.inter zs).below top).mem x = true := by
    rw [min_eq_left h] at least
    exact Runs.mem_below.2 ⟨Runs.mem_inter.2 ⟨hx, least ▸ hz⟩, by omega⟩
  have lowWithin (v : Int) (hv : ((xs.inter zs).below top).mem v = true) : xs.mem v = true := (Runs.mem_inter.1 (Runs.mem_below.1 hv).1).1
  have common (h : y ≤ x) : (ys.inter zs).mem y = true := by
    rw [min_eq_right h] at least
    exact Runs.mem_inter.2 ⟨hy, least ▸ hz⟩
  simp only [minSource, isTop]
  split
  case h_1 c isLeast =>
    refine ⟨Runs.ok_of _, Runs.mem_union.2 ?_, fun v hv => ?_⟩
    · rcases le_total x y with h | h
      · exact .inl (low h)
      · obtain ⟨c', isLeast', le, -⟩ := Runs.min?_le (Runs.ok_of _) (common h)
        obtain rfl : c = c' := Option.some.inj (isLeast.symm.trans isLeast')
        exact .inr (Runs.mem_above.2 ⟨hx, le.trans h⟩)
    · exact (Runs.mem_union.1 hv).elim (lowWithin v) fun h => (Runs.mem_above.1 h).1
  case h_2 isNone =>
    refine ⟨Runs.ok_of _, low (le_of_not_ge fun h => ?_), lowWithin⟩
    obtain ⟨c, isLeast, -⟩ := Runs.min?_le (Runs.ok_of _) (common h)
    cases isNone.symm.trans isLeast

end

/-! ### Projections -/

/-- A set of 32-bit values within bounds that has x: its hull exists and has x (R82). -/
structure PSet.Keeps (s : PSet) (x : Int) : Prop where
  has : s.Has x
  range : ∀ v, s.mem v = true → -2 ^ 31 ≤ v ∧ v < 2 ^ 31

theorem PSet.Keeps.hull {s : PSet} {x : Int} (h : s.Keeps x) : ∃ d, hull s = some d ∧ Runs.mem x (domRuns d) = true :=
  mem_hull h.has h.range

theorem PSet.Keeps.inter {s t : PSet} {x : Int} (h : s.Keeps x) (k : t.Keeps x) : (s.inter t).Keeps x :=
  ⟨PSet.has_inter h.has k.has, fun v hv => h.range v (PSet.mem_inter hv).1⟩

/-- What is left of a domain is a set of 32-bit values. -/
theorem Runs.Leaves.keeps_ofRuns {d : Dom} {x : Int} {ys : Runs} (h : Runs.Leaves (domRuns d) x ys) : (PSet.ofRuns ys).Keeps x :=
  ⟨PSet.has_ofRuns h.ok h.keeps, fun v hv => domRuns_range (h.within v (PSet.mem_ofRuns hv))⟩

/-- Each projection of a relation other than MUL and MULI keeps the value of its operand (R85, R162). -/
theorem project_keeps {op : RelOp} {D A B : Dom} {d a b imm : Int} (notMul : op ≠ .mul) (notMuli : op ≠ .muli) (holds : op.holds d a b imm)
    (hd : op.operands.1 = true → (domRuns D).mem d = true) (ha : op.operands.2.1 = true → (domRuns A).mem a = true)
    (hb : op.operands.2.2 = true → (domRuns B).mem b = true) :
    (op.operands.1 = true → (project op D A B imm).1.Keeps d) ∧ (op.operands.2.1 = true → (project op D A B imm).2.1.Keeps a) ∧
      (op.operands.2.2 = true → (project op D A B imm).2.2.Keeps b) := by
  cases op with
  | mul => exact absurd rfl notMul
  | muli => exact absurd rfl notMuli
  | add =>
    have sum : d = a + b := holds
    specialize hd rfl; specialize ha rfl; specialize hb rfl
    exact ⟨fun _ => (Runs.leaves_inter hd (Runs.mem_sum_of_eq ha hb sum)).keeps_ofRuns,
      fun _ => (Runs.leaves_inter ha (Runs.mem_sum_of_eq hd (Runs.mem_neg_neg hb) (by omega))).keeps_ofRuns,
      fun _ => (Runs.leaves_inter hb (Runs.mem_sum_of_eq hd (Runs.mem_neg_neg ha) (by omega))).keeps_ofRuns⟩
  | sub =>
    have difference : d = a - b := holds
    specialize hd rfl; specialize ha rfl; specialize hb rfl
    exact ⟨fun _ => (Runs.leaves_inter hd (Runs.mem_sum_of_eq ha (Runs.mem_neg_neg hb) (by omega))).keeps_ofRuns,
      fun _ => (Runs.leaves_inter ha (Runs.mem_sum_of_eq hd hb (by omega))).keeps_ofRuns,
      fun _ => (Runs.leaves_inter hb (Runs.mem_sum_of_eq ha (Runs.mem_neg_neg hd) (by omega))).keeps_ofRuns⟩
  | min =>
    have least : d = Min.min a b := holds
    specialize hd rfl; specialize ha rfl; specialize hb rfl
    exact ⟨fun _ => (Runs.leaves_minResult (ok_domRuns A) (ok_domRuns B) hd ha hb least).keeps_ofRuns,
      fun _ => (Runs.leaves_minSource (ok_domRuns B) hd ha hb least).keeps_ofRuns,
      fun _ => (Runs.leaves_minSource (ok_domRuns A) hd hb ha (least.trans (min_comm a b))).keeps_ofRuns⟩
  | max =>
    have least : -d = Min.min (-a) (-b) := (congrArg Neg.neg holds).trans (min_neg_neg a b).symm
    have negD := Runs.mem_neg_neg (hd rfl)
    have negA := Runs.mem_neg_neg (ha rfl)
    have negB := Runs.mem_neg_neg (hb rfl)
    exact ⟨fun _ => (Runs.leaves_minResult (Runs.ok_of _) (Runs.ok_of _) negD negA negB least).neg.keeps_ofRuns,
      fun _ => (Runs.leaves_minSource (Runs.ok_of _) negD negA negB least).neg.keeps_ofRuns,
      fun _ => (Runs.leaves_minSource (Runs.ok_of _) negD negB negA (least.trans (min_comm _ _))).neg.keeps_ofRuns⟩
  | abs =>
    have magnitude : d = if a < 0 then -a else a := holds
    specialize hd rfl; specialize ha rfl
    have signed : 0 ≤ d ∧ (a = d ∨ a = -d) := by split at magnitude <;> omega
    obtain ⟨notNegative, same⟩ := signed
    refine ⟨fun _ => (Runs.leaves_inter hd (magnitude ▸ Runs.mem_abs_of ha)).keeps_ofRuns,
      fun _ => (Runs.leaves_inter ha (Runs.mem_inter.2 ⟨Runs.mem_union_neg hd same, ?_⟩)).keeps_ofRuns, nofun⟩
    exact Runs.mem_union_neg (Runs.mem_above.2 ⟨hd, notNegative⟩) same
  | neg =>
    obtain rfl : d = -a := holds
    specialize hd rfl; specialize ha rfl
    exact ⟨fun _ => (Runs.leaves_inter hd (Runs.mem_neg_neg ha)).keeps_ofRuns,
      fun _ => (Runs.leaves_inter ha (Runs.mem_neg.2 hd)).keeps_ofRuns, nofun⟩
  | mov =>
    obtain rfl : d = a := holds
    specialize hd rfl; specialize ha rfl
    exact ⟨fun _ => (Runs.leaves_inter hd ha).keeps_ofRuns, fun _ => (Runs.leaves_inter ha hd).keeps_ofRuns, nofun⟩
  | addi =>
    have sum : d = a + imm := holds
    specialize hd rfl; specialize ha rfl
    exact ⟨fun _ => (Runs.leaves_inter hd (Runs.mem_sum_of_eq ha Runs.mem_singleton sum)).keeps_ofRuns,
      fun _ => (Runs.leaves_inter ha (Runs.mem_sum_of_eq hd (Runs.mem_neg_neg Runs.mem_singleton) (by omega))).keeps_ofRuns, nofun⟩
  | eq =>
    obtain rfl : a = b := holds
    specialize ha rfl; specialize hb rfl
    exact ⟨nofun, fun _ => (Runs.leaves_inter ha hb).keeps_ofRuns, fun _ => (Runs.leaves_inter hb ha).keeps_ofRuns⟩
  | ne =>
    have differ : a ≠ b := holds
    specialize ha rfl; specialize hb rfl
    exact ⟨nofun, fun _ => (Runs.leaves_apartFrom (ok_domRuns A) (ok_domRuns B) ha hb differ).keeps_ofRuns,
      fun _ => (Runs.leaves_apartFrom (ok_domRuns B) (ok_domRuns A) hb ha differ.symm).keeps_ofRuns⟩
  | lt =>
    have less : a < b := holds
    specialize ha rfl; specialize hb rfl
    obtain ⟨top, isTop, below, -⟩ := Runs.le_max? (ok_domRuns B) hb
    obtain ⟨low, isLow, above, -⟩ := Runs.min?_le (ok_domRuns A) ha
    simp only [project, isTop, isLow]
    exact ⟨nofun, fun _ => (Runs.leaves_below ha (by omega)).keeps_ofRuns, fun _ => (Runs.leaves_above hb (by omega)).keeps_ofRuns⟩
  | le =>
    have atMost : a ≤ b := holds
    specialize ha rfl; specialize hb rfl
    obtain ⟨top, isTop, below, -⟩ := Runs.le_max? (ok_domRuns B) hb
    obtain ⟨low, isLow, above, -⟩ := Runs.min?_le (ok_domRuns A) ha
    simp only [project, isTop, isLow]
    exact ⟨nofun, fun _ => (Runs.leaves_below ha (by omega)).keeps_ofRuns, fun _ => (Runs.leaves_above hb (by omega)).keeps_ofRuns⟩
  | eqi =>
    obtain rfl : a = imm := holds
    exact ⟨nofun, fun _ => (Runs.leaves_inter (ha rfl) Runs.mem_singleton).keeps_ofRuns, nofun⟩
  | nei => exact ⟨nofun, fun _ => (Runs.leaves_without (ha rfl) holds).keeps_ofRuns, nofun⟩
  | lti => exact ⟨nofun, fun _ => (Runs.leaves_below (ha rfl) (Int.le_sub_one_of_lt holds)).keeps_ofRuns, nofun⟩
  | lei => exact ⟨nofun, fun _ => (Runs.leaves_below (ha rfl) holds).keeps_ofRuns, nofun⟩
  | gti => exact ⟨nofun, fun _ => (Runs.leaves_above (ha rfl) (Int.add_one_le_of_lt holds)).keeps_ofRuns, nofun⟩
  | gei => exact ⟨nofun, fun _ => (Runs.leaves_above (ha rfl) holds).keeps_ofRuns, nofun⟩

/-! ### One application of a relation -/

section
variable {sol : BitVec 6 → Int} {ps : List (BitVec 6 × PSet)} {r : BitVec 6}

/-- The positions of one register meet in a set that keeps what each of them keeps (R87). -/
theorem meetAt_keeps {s : PSet} (keep : ∀ p ∈ ps, p.2.Keeps (sol p.1)) (met : meetAt r ps = some s) : s.Keeps (sol r) := by
  induction ps generalizing s with
  | nil => cases met
  | cons p rest ih =>
    obtain ⟨keepHead, keepRest⟩ := List.forall_mem_cons.1 keep
    simp only [meetAt] at met
    split at met
    · rename_i same
      subst same
      split at met
      · rename_i t metRest
        cases met
        exact keepHead.inter (ih keepRest metRest)
      · cases met
        exact keepHead
    · exact ih keepRest met

/-- A register that has a position has a set where its positions meet. -/
theorem meetAt_of_mem (named : r ∈ ps.map (·.1)) : ∃ s, meetAt r ps = some s := by
  induction ps with
  | nil => cases named
  | cons p rest ih =>
    simp only [meetAt]
    split
    · cases meetAt r rest <;> exact ⟨_, rfl⟩
    · rename_i differ
      exact ih ((List.mem_cons.1 named).resolve_left (Ne.symm differ))

end

section
variable {rel : Rel} {read : BitVec 6 → Dom} {sol : BitVec 6 → Int}

/-- The positions of a relation are at registers that it names. -/
theorem Rel.names_of_position {p : BitVec 6 × PSet} (h : p ∈ rel.positions read) : rel.names p.1 = true := by
  simp only [Rel.positions, List.mem_append, List.mem_ite_nil_right, List.mem_singleton] at h
  simp only [Rel.names, Bool.or_eq_true, Bool.and_eq_true, decide_eq_true_eq]
  rcases h with (⟨has, rfl⟩ | ⟨has, rfl⟩) | ⟨has, rfl⟩ <;> simp [has]

/-- Each position of a relation other than MUL and MULI keeps the value that a solution gives its register. -/
theorem Rel.position_keeps (notMul : rel.op ≠ .mul) (notMuli : rel.op ≠ .muli) (holds : rel.HoldsFor sol)
    (within : ∀ r, rel.names r = true → (domRuns (read r)).mem (sol r) = true) :
    ∀ p ∈ rel.positions read, p.2.Keeps (sol p.1) := by
  obtain ⟨keepD, keepA, keepB⟩ := project_keeps (D := read rel.d) (A := read rel.a) (B := read rel.b) notMul notMuli holds
    (fun has => within _ (by simp [Rel.names, has])) (fun has => within _ (by simp [Rel.names, has]))
    fun has => within _ (by simp [Rel.names, has])
  intro p h
  simp only [Rel.positions, List.mem_append, List.mem_ite_nil_right, List.mem_singleton] at h
  rcases h with (⟨has, rfl⟩ | ⟨has, rfl⟩) | ⟨has, rfl⟩
  · exact keepD has
  · exact keepA has
  · exact keepB has

/-- Where each position keeps the value of its register, the application succeeds, and it writes sets that have these values. -/
theorem Rel.apply_keeps (keep : ∀ p ∈ rel.positions read, p.2.Keeps (sol p.1)) :
    ∃ ws, rel.apply read = .ok ws ∧ ∀ w ∈ ws, rel.names w.1 = true ∧ (domRuns w.2).mem (sol w.1) = true := by
  have noneEmpty : (rel.positions read).find? (fun p => (hull p.2).isNone) = none := by
    simp only [List.find?_eq_none]
    intro p hp
    obtain ⟨x, isHull, -⟩ := (keep p hp).hull
    simp [isHull]
  have hulls (r : BitVec 6) (named : r ∈ ((rel.positions read).map (·.1)).eraseDups) :
      ∃ x, (meetAt r (rel.positions read)).bind hull = some x ∧ (domRuns x).mem (sol r) = true := by
    obtain ⟨s, met⟩ := meetAt_of_mem (List.mem_eraseDups.1 named)
    obtain ⟨x, isHull, hasSol⟩ := (meetAt_keeps keep met).hull
    exact ⟨x, by rw [met, Option.bind_some, isHull], hasSol⟩
  have noneLeftEmpty : (((rel.positions read).map (·.1)).eraseDups.map fun r => (r, (meetAt r (rel.positions read)).bind hull)).find?
      (fun n => n.2.isNone) = none := by
    simp only [List.find?_eq_none, List.forall_mem_map]
    intro r named
    obtain ⟨x, isHull, -⟩ := hulls r named
    simp [isHull]
  simp only [Rel.apply, noneEmpty, noneLeftEmpty]
  refine ⟨_, rfl, fun w hw => ?_⟩
  simp only [List.mem_filterMap, List.mem_map] at hw
  obtain ⟨-, ⟨r, named, rfl⟩, written⟩ := hw
  obtain ⟨x, isHull, hasSol⟩ := hulls r named
  obtain ⟨p, atPosition, rfl⟩ := List.mem_map.1 (List.mem_eraseDups.1 named)
  simp only [isHull] at written
  split at written
  · cases written
  · cases written
    exact ⟨Rel.names_of_position atPosition, hasSol⟩

end

/-- Settles O52: the projections keep a solution's values, so the application does. -/
theorem narrowingLosesNoSolution : Obligations.NarrowingLosesNoSolution := by
  unfold Obligations.NarrowingLosesNoSolution
  intro rel read sol notMul notMuli holds within
  exact Rel.apply_keeps (Rel.position_keeps notMul notMuli holds within)

end Sys2Proof.Machine
end

section
/-! PROOFS. Results of narrow forms and of operations of slot 3 (R85, R90 to R92, R106, R195 to R203). Each operation is the shared form
that its equation names, and the lemma of the form says the rest. Here `(… :)` elaborates that lemma from the equation alone; that its registers are
those of the statement is then a computation. The theorems settle O3, O11, O14 and O16. -/

namespace Sys2Proof.Machine

/-! ### The domain slot -/

/-- Settles O3: every narrow form is the shared form, with its relation. -/
theorem intNarrowResults : Obligations.IntNarrowResults := by
  unfold Obligations.IntNarrowResults
  intro s g d a b f h i put three two pair one
  exact ⟨(acts_intNarrow (exec_addN ..) :), (acts_intNarrow (exec_subN ..) :), (acts_intNarrow (exec_mulN ..) :),
    (acts_intNarrow (exec_minN ..) :), (acts_intNarrow (exec_maxN ..) :),
    (acts_intNarrow (exec_absN ..) :), (acts_intNarrow (exec_negN ..) :), (acts_intNarrow (exec_movN ..) :),
    (acts_intNarrow (exec_addiN ..) :), (acts_intNarrow (exec_muliN ..) :),
    (acts_intNarrow (exec_eqN ..) :), (acts_intNarrow (exec_neN ..) :), (acts_intNarrow (exec_ltN ..) :),
    (acts_intNarrow (exec_leN ..) :),
    (acts_intNarrow (exec_eqiN ..) :), (acts_intNarrow (exec_neiN ..) :), (acts_intNarrow (exec_ltiN ..) :),
    (acts_intNarrow (exec_leiN ..) :), (acts_intNarrow (exec_gtiN ..) :), (acts_intNarrow (exec_geiN ..) :)⟩

/-! ### The vector slot -/

section
variable {i : Instr} {s : State} {d a : BitVec 6} {f : BitVec 1}

/-- A lane-wise operation (R195). -/
theorem acts_vecLanes {g : BitVec 5} {lat : Nat} {srcs : List (BitVec 6 × BitVec 1)} {x : Nat → W32}
    (means : exec i s = s.vecLanes g lat d srcs x) :
    Acts i s (s.runs64 g) (vRef d :: srcs.map fun r => vRef r.1) True
      (s.performed fun c => c.fly lat 3 (.v d (s.guard5 g) (mkV x))) := by
  have acts := acts_vecOp means
  rwa [List.map_map] at acts

/-- A reduction (R203). -/
theorem acts_vecReduce {g : BitVec 5} {x : List W32 → W32} (means : exec i s = s.vecReduce g d a f x) :
    Acts i s (s.runsAny g) [vRef d, vRef a] True
      (s.performed fun c => c.fly 8 3 (.v d (BitVec.allOnes 64) ((x (s.lanesOf g a)).zeroExtend 2048))) :=
  acts_vecOp means

/-- A conversion by a format register: a valid format passes its check after the wait (R94, R201). -/
theorem acts_byFormat {g n : BitVec 4} {act : State → State}
    (means : exec i s = s.issueOp (s.guard4 g) [s.emptyRead 3 f (vRef a)] [s.waitRegs [vRef d, vRef a]] [s.fmtCheck 3 n] act) :
    Acts i s (s.guard4 g) [vRef d, vRef a] (fmtValid (s.fmtReg n) = true) ((act s).judge .performed) := by
  refine acts_form means id (fun full _ => ?_) fun valid => ?_
  · simp only [State.full_cons, Bool.and_eq_true, Bool.not_eq_true'] at full
    obtain ⟨-, sourceFull, -⟩ := full
    rw [State.emptyRead_full sourceFull, firstOf_none, firstOf_nil]
  · rw [State.fmtCheck, valid, Bool.not_true, State.check_false, firstOf_none, firstOf_nil]

end

/-- Settles O11: every FP32 operation is lane-wise, with its latency and its function of the lanes. -/
theorem vecFloatResults : Obligations.VecFloatResults := by
  unfold Obligations.VecFloatResults
  intro s g d a b f h put two one fma
  exact ⟨(acts_vecLanes (exec_vaddF ..) :), (acts_vecLanes (exec_vsubF ..) :), (acts_vecLanes (exec_vmulF ..) :),
    (acts_vecLanes (exec_vfmaF ..) :), (acts_vecLanes (exec_vfmsF ..) :), (acts_vecLanes (exec_vminF ..) :),
    (acts_vecLanes (exec_vmaxF ..) :), (acts_vecLanes (exec_vabsF ..) :), (acts_vecLanes (exec_vnegF ..) :),
    (acts_vecLanes (exec_vrcpF ..) :), (acts_vecLanes (exec_vrsqF ..) :), (acts_vecLanes (exec_vexp2F ..) :),
    (acts_vecLanes (exec_vlog2F ..) :)⟩

/-- Settles O14: the conversions without VOVF are lane-wise, the counting ones put two results on their way, and VCVTN and VCVTW go by a format
register. -/
theorem vecConversionResults : Obligations.VecConversionResults := by
  unfold Obligations.VecConversionResults
  intro s g g4 d a b f h k n x y put one fmt
  exact ⟨(acts_vecOp (exec_vcvtFi ..) :), (acts_vecLanes (exec_vcvtIf ..) :), (acts_vecOp (exec_vpkbf ..) :),
    (acts_vecLanes (exec_vunbf ..) :), acts_byFormat (exec_vcvtn ..), acts_byFormat (exec_vcvtw ..)⟩

/-- Settles O16: every reduction is the shared form, with its function of the lanes that execute. -/
theorem vecReductionResults : Obligations.VecReductionResults := by
  unfold Obligations.VecReductionResults
  intro s g d a f red
  exact ⟨acts_vecReduce (exec_vsumx ..), acts_vecReduce (exec_vmaxr ..), acts_vecReduce (exec_vminr ..), acts_vecReduce (exec_vsumi ..)⟩

end Sys2Proof.Machine
end

section
/-! PROOFS. Words and operations (R108, R122, R123, R139, R311, R312). A word that is put together reads back field by field, which gives that decoding
undoes encoding; a word is the sum of its fields, which gives that encoding undoes decoding. The theorems settle O56, O57 and O58. -/

namespace Sys2Proof

/-! ### Fields of a word (R4, R108) -/

/-- What the fields of a list add to a word. -/
def placed (fs : List (Nat × Nat)) : Nat := (fs.map fun f => f.1 * 2 ^ f.2).sum

theorem placed_cons (v lo : Nat) (fs : List (Nat × Nat)) : placed ((v, lo) :: fs) = v * 2 ^ lo + placed fs := by
  rw [placed, List.map_cons, List.sum_cons, placed]

theorem place_eq (w : Nat) (fs : List (Nat × Nat)) : place w fs = w + placed fs := by
  induction fs generalizing w with
  | nil => rfl
  | cons f fs ih => rw [place, ih, placed_cons, Nat.add_assoc]

/-- The order in which fields are put in place is no matter. -/
theorem place_perm {w : Nat} {fs gs : List (Nat × Nat)} (h : fs.Perm gs) : place w fs = place w gs := by
  rw [place_eq, place_eq, placed, placed, (h.map _).sum_eq]

/-- The fields lie below bit hi, each below the one before it, where the word b holds zeros. -/
def Fits (b : Nat) : Nat → List (Nat × Nat) → Prop
  | _, [] => True
  | hi, (v, lo) :: fs => (∃ n, v < 2 ^ n ∧ lo + n ≤ hi ∧ b / 2 ^ lo % 2 ^ n = 0) ∧ Fits b lo fs

section
variable {b v k lo n hi : Nat} {fs : List (Nat × Nat)}

@[simp] theorem fits_nil : Fits b hi [] := trivial

@[simp] theorem fits_cons (x : BitVec n) (below : lo + n ≤ hi) (zero : b / 2 ^ lo % 2 ^ n = 0) :
    Fits b hi ((x.toNat, lo) :: fs) ↔ Fits b lo fs := ⟨fun h => h.2, fun h => ⟨⟨n, x.isLt, below, zero⟩, h⟩⟩

/-- A digit c on top of what lies below it. -/
theorem mod_add_lt {w r c : Nat} (digit : w / 2 ^ lo % 2 ^ n + c < 2 ^ n) (rest : w % 2 ^ lo + r < 2 ^ lo) :
    w % 2 ^ (lo + n) + (c * 2 ^ lo + r) < 2 ^ (lo + n) := by
  rw [Nat.pow_add, Nat.mod_mul]
  calc _ = 2 ^ lo * (w / 2 ^ lo % 2 ^ n + c) + (w % 2 ^ lo + r) := by ring
    _ < 2 ^ lo * (w / 2 ^ lo % 2 ^ n + c) + 2 ^ lo := Nat.add_lt_add_left rest _
    _ = 2 ^ lo * (w / 2 ^ lo % 2 ^ n + c + 1) := by ring
    _ ≤ 2 ^ lo * 2 ^ n := Nat.mul_le_mul_left _ digit

/-- Fields that fit below a bit carry nothing into it. -/
theorem Fits.lt : ∀ {hi : Nat} {fs : List (Nat × Nat)}, Fits b hi fs → b % 2 ^ hi + placed fs < 2 ^ hi
  | hi, [], _ => by simpa [placed] using Nat.mod_lt b (Nat.two_pow_pos hi)
  | hi, (v, lo) :: fs, h => by
    obtain ⟨⟨n, small, below, zero⟩, rest⟩ := h
    obtain ⟨k, rfl⟩ := Nat.exists_eq_add_of_le below
    have field := mod_add_lt (by rwa [zero, Nat.zero_add]) rest.lt
    simpa [placed_cons] using mod_add_lt (c := 0) (Nat.mod_lt (b / 2 ^ (lo + n)) (Nat.two_pow_pos k)) field

/-- Fields that fit below a place change nothing from there on. -/
theorem Fits.place_div (h : Fits b lo fs) : place b fs / 2 ^ lo = b / 2 ^ lo := by
  have split := Nat.div_add_mod b (2 ^ lo)
  rw [place_eq, ← split, Nat.add_assoc, Nat.mul_add_div (Nat.two_pow_pos lo), Nat.mul_add_div (Nat.two_pow_pos lo),
    Nat.div_eq_of_lt h.lt, Nat.mod_div_self]

/-- A field changes nothing below its place. -/
theorem place_div_mod_of_le (h : lo + n ≤ k) : place b ((v, k) :: fs) / 2 ^ lo % 2 ^ n = place b fs / 2 ^ lo % 2 ^ n := by
  obtain ⟨j, rfl⟩ := Nat.exists_eq_add_of_le h
  have word : place b ((v, lo + n + j) :: fs) = place b fs + 2 ^ lo * (2 ^ n * (v * 2 ^ j)) := by
    rw [place_eq, place_eq, placed_cons]; ring
  rw [word, Nat.add_mul_div_left _ _ (Nat.two_pow_pos lo), Nat.add_mul_mod_self_left]

/-- A field reads as its value. -/
theorem Fits.place_div_mod_field (x : BitVec n) (zero : b / 2 ^ lo % 2 ^ n = 0) (rest : Fits b lo fs) :
    place b ((x.toNat, lo) :: fs) / 2 ^ lo % 2 ^ n = x.toNat := by
  have word : place b ((x.toNat, lo) :: fs) = place b fs + 2 ^ lo * x.toNat := by rw [place_eq, place_eq, placed_cons]; ring
  rw [word, Nat.add_mul_div_left _ _ (Nat.two_pow_pos lo), rest.place_div, Nat.add_mod, zero, Nat.zero_add, Nat.mod_mod,
    Nat.mod_eq_of_lt x.isLt]

theorem fld_toNat (w lo n : Nat) : (fld w lo n).toNat = w / 2 ^ lo % 2 ^ n := BitVec.toNat_ofNat ..

@[simp] theorem fld_place_of_le (h : lo + n ≤ k) : fld (place b ((v, k) :: fs)) lo n = fld (place b fs) lo n :=
  BitVec.eq_of_toNat_eq (by rw [fld_toNat, fld_toNat, place_div_mod_of_le h])

@[simp] theorem fld_place_field (x : BitVec n) (zero : b / 2 ^ lo % 2 ^ n = 0) (rest : Fits b lo fs) :
    fld (place b ((x.toNat, lo) :: fs)) lo n = x :=
  BitVec.eq_of_toNat_eq (by rw [fld_toNat, Fits.place_div_mod_field x zero rest])

@[simp] theorem fld_place_fits (h : Fits b lo fs) : fld (place b fs) lo n = fld b lo n := by rw [fld, h.place_div, fld]

@[simp] theorem rsv_place_of_le (h : lo + n ≤ k) : rsv (place b ((v, k) :: fs)) lo n = rsv (place b fs) lo n := by
  rw [rsv, place_div_mod_of_le h, rsv]

@[simp] theorem rsv_place_field (x : BitVec n) (zero : b / 2 ^ lo % 2 ^ n = 0) (rest : Fits b lo fs) :
    rsv (place b ((x.toNat, lo) :: fs)) lo n = (x != 0) := by
  rw [rsv, Fits.place_div_mod_field x zero rest]
  exact Bool.eq_iff_iff.2 (by simp [← BitVec.toNat_inj])

@[simp] theorem rsv_place_fits (h : Fits b lo fs) : rsv (place b fs) lo n = (b / 2 ^ lo % 2 ^ n != 0) := by rw [rsv, h.place_div]

end

/-! ### Rows of the decoder (R139) -/

/-- The bits that select a row or a form of a word, where no field stands. -/
theorem selects {w b lo n m : Nat} {fs : List (Nat × Nat)} (size : m = 2 ^ n) (word : w = place b fs)
    (apart : fld (place b fs) lo n = fld b lo n) : w / 2 ^ lo % m = b / 2 ^ lo % m := by
  subst size
  rw [word, ← fld_toNat, apart, fld_toNat]

/-- A word is decoded by the row of its opcode, which stands in the n bits from lo upward. -/
theorem row_word {row : Nat → Nat → Except Reject Instr} {i : Instr} {b lo n m : Nat} {fs : List (Nat × Nat)} (size : m = 2 ^ n)
    (word : encode i = place b fs) (apart : fld (place b fs) lo n = fld b lo n)
    (reads : ∀ w, w = place b fs → row (b / 2 ^ lo % m) w = .ok i) : row (encode i / 2 ^ lo % m) (encode i) = .ok i := by
  rw [selects size word apart, reads _ word]

/-- A row whose check finds nothing. -/
theorem of_clear {α : Type} {c : Prop} [Decidable c] {x y z e : α} (row : x = if c then e else y) (clear : ¬c) (same : y = z) : x = z := by
  rw [row, if_neg clear, same]

/-- A row of the form that a bit selects. -/
theorem of_chosen {α : Type} {c : Prop} [Decidable c] {x y z e : α} (row : x = if c then y else e) (chosen : c) (same : y = z) : x = z := by
  rw [row, if_pos chosen, same]

/-! ### Decoding what an operation encodes to (R108, R139)

In each slot the operations whose row has no check come with those that have one, or two, and with those whose form some bits of the word select. -/

theorem decodeInt_encode {i : Instr} (h : slotOf i = some 1) : decodeInt (encode i) = .ok i := by
  cases i
  all_goals cases h
  all_goals
    refine row_word (n := 8) rfl rfl (by simp) fun w word => ?_
    simp only [Nat.reducePow, Nat.reduceDiv, Nat.reduceMod]
  case nopInt | abs | absN | absP | neg | negN | negP | mov | movN | movP | eqN | eqP | neN | neP | ltN | ltP | leN | leP | eqiN | eqiP | neiN |
      neiP | ltiN | ltiP | leiN | leiP | gtiN | gtiP | geiN | geiP | dlo | dhi | dsize | dmid | single | dfull | ckpt | roll | commit =>
    exact of_clear rfl (by simp [word]) (by simp [word])
  all_goals
    refine (rfl : _ = Except.ok _).trans ?_
    simp only [word, fld_place_of_le, fld_place_field, fits_cons, fits_nil, Nat.reduceAdd, Nat.reducePow, Nat.reduceDiv, Nat.reduceMod,
      Nat.reduceLeDiff]

theorem decodeAdr_encode {i : Instr} (h : slotOf i = some 2) : decodeAdr (encode i) = .ok i := by
  cases i
  all_goals cases h
  all_goals
    refine row_word (n := 6) rfl rfl (by simp) fun w word => ?_
    simp only [Nat.reducePow, Nat.reduceDiv, Nat.reduceMod]
  case addai | li | cmpai | sela => exact (rfl : _ = Except.ok _).trans (by simp [word])
  all_goals exact of_clear rfl (by simp [word]) (by simp [word])

theorem decodeVec_encode {i : Instr} (h : slotOf i = some 3) : decodeVec (encode i) = .ok i := by
  cases i
  all_goals cases h
  all_goals
    refine row_word (n := 7) rfl rfl (by simp) fun w word => ?_
    simp only [Nat.reducePow, Nat.reduceDiv, Nat.reduceMod]
  case nopVec | vabsF | vnegF | vrcpF | vrsqF | vexp2F | vlog2F | vcmpeqF | vcmpltF | vcmpleF | vcmpeqI | vcmpltI | vcvtFi | vcvtIf | vmov | vsel |
      viota | vsumx | vmaxr | vminr | vsumi => exact of_clear rfl (by simp [word]) (by simp [word])
  case vunbf | vcvtn | vcvtw | vbca | vbck | vext | vins => exact of_clear rfl (by simp [word]) (of_clear rfl (by simp [word]) (by simp [word]))
  all_goals
    refine (rfl : _ = Except.ok _).trans ?_
    simp only [word, fld_place_of_le, fld_place_field, fits_cons, fits_nil, Nat.reduceAdd, Nat.reducePow, Nat.reduceDiv, Nat.reduceMod,
      Nat.reduceLeDiff]

theorem decodeIvl_encode {i : Instr} (h : slotOf i = some 4) : decodeIvl (encode i) = .ok i := by
  cases i
  all_goals cases h
  all_goals
    refine row_word (n := 7) rfl rfl (by simp) fun w word => ?_
    simp only [Nat.reducePow, Nat.reduceDiv, Nat.reduceMod]
  case qfma | qtest | qfmaC => exact (rfl : _ = Except.ok _).trans (by simp [word])
  case qpoint | qlo | qhi | qstat => exact of_clear rfl (by simp [word]) (of_clear rfl (by simp [word]) (by simp [word]))
  all_goals exact of_clear rfl (by simp [word]) (by simp [word])

theorem decodeMem_encode {i : Instr} (h : slotOf i = some 5) : decodeMem (encode i) = .ok i := by
  cases i
  all_goals cases h
  all_goals
    refine row_word (n := 6) rfl rfl (by simp) fun w word => ?_
    simp only [Nat.reducePow, Nat.reduceDiv, Nat.reduceMod]
  case ldsV | stsV | ldsK | stsK | ldgV | stgV => exact (rfl : _ = Except.ok _).trans (by simp [word])
  case ldgK =>
    have narrows := selects (lo := 0) (n := 1) (m := 2) rfl word (by simp)
    exact of_chosen rfl (by omega) (by simp [word])
  case ldgKN =>
    have narrows := selects (lo := 0) (n := 1) (m := 2) rfl word (by simp)
    exact of_clear rfl (by omega) (by simp [word])
  case fenceAcq =>
    have kind := selects (lo := 3) (n := 2) (m := 4) rfl word (by simp)
    exact of_chosen rfl (by omega) (of_clear rfl (by simp [word]) (by simp [word]))
  case fenceRel =>
    have kind := selects (lo := 3) (n := 2) (m := 4) rfl word (by simp)
    exact of_clear rfl (by omega) (of_chosen rfl (by omega) (of_clear rfl (by simp [word]) (by simp [word])))
  case fenceFull =>
    have kind := selects (lo := 3) (n := 2) (m := 4) rfl word (by simp)
    exact of_clear rfl (by omega) (of_clear rfl (by omega) (of_chosen rfl (by omega)
      (of_clear rfl (by simp [word]) (by simp [word]))))
  all_goals exact of_clear rfl (by simp [word]) (by simp [word])

theorem decodeMtx_encode {i : Instr} (h : slotOf i = some 6) : decodeMtx (encode i) = .ok i := by
  cases i
  all_goals cases h
  all_goals
    refine row_word (n := 6) rfl rfl (by simp) fun w word => ?_
    simp only [Nat.reducePow, Nat.reduceDiv, Nat.reduceMod]
  case claim | release | swpw => exact of_clear rfl (by simp [word]) (of_clear rfl (by simp [word]) (by simp [word]))
  case drain =>
    have single := selects (lo := 1) (n := 1) (m := 2) rfl word (by simp)
    exact of_chosen rfl (by omega) (of_clear rfl (by simp [word]) (of_clear rfl (by simp [word]) (by simp [word])))
  case drainF32 =>
    have single := selects (lo := 1) (n := 1) (m := 2) rfl word (by simp)
    exact of_clear rfl (by omega) (of_clear rfl (by simp [word]) (of_clear rfl (by simp [word]) (by simp [word])))
  all_goals exact of_clear rfl (by simp [word]) (by simp [word])

theorem decodeCpy_encode {i : Instr} (h : slotOf i = some 7) : decodeCpy (encode i) = .ok i := by
  cases i
  all_goals cases h
  case cg2o dest d s l | cs2o dest d s l =>
    obtain ⟨f, t⟩ := dest
    refine row_word (n := 5) rfl (place_perm (List.perm_append_singleton _ _).symm) (by simp) fun w word => ?_
    simp only [Nat.reducePow, Nat.reduceDiv, Nat.reduceMod]
    exact of_clear rfl (by simp [word]) (by simp [word])
  all_goals
    refine row_word (n := 5) rfl rfl (by simp) fun w word => ?_
    simp only [Nat.reducePow, Nat.reduceDiv, Nat.reduceMod]
  case cg2s | cs2g | cg2g | cxred =>
    have counts := selects (lo := 0) (n := 1) (m := 2) rfl word (by simp)
    exact of_chosen rfl (by omega) (of_clear rfl (by simp [word]) (by simp [word]))
  case cg2sDc | cs2gDc | cg2gDc | cxredDc =>
    have counts := selects (lo := 0) (n := 1) (m := 2) rfl word (by simp)
    exact of_clear rfl (by omega) (of_clear rfl (by simp [word]) (by simp [word]))
  case nopCpy => exact of_clear rfl (by simp [word]) rfl
  all_goals exact of_clear rfl (by simp [word]) (of_clear rfl (by simp [word]) (by simp [word]))

theorem decodeCtlRow_encode {i : Instr} (h : slotOf i = some 0) : decodeCtlRow (encode i / 2 ^ 21 % 32) (encode i) = .ok i := by
  cases i
  all_goals cases h
  all_goals
    refine row_word (n := 5) rfl rfl (by simp) fun w word => ?_
    simp only [Nat.reducePow, Nat.reduceDiv, Nat.reduceMod]
  case prep | prepc | prepi | loop | loopi | budget | mark => exact (rfl : _ = Except.ok _).trans (by simp [word])
  all_goals exact of_clear rfl (by simp [word]) (by simp [word])

/-! ### The tail bits of slot 0 (R122, R123, R312) -/

/-- The tail combinations of R123 and R312 in terms of the bits and fields they name: opcode, E, MK, X, T and the buffer of a PREP. -/
def tailRule (op : Nat) (e k x : BitVec 1) (t b : BitVec 2) : Bool :=
  (e != 0 && x != 0) || ((k != 0) != (op == 8)) || (!(x != 0) && t != 0) || (e != 0 && (op == 11 || op == 13)) || (x != 0 && op == 21) ||
  (x != 0 && (op == 1 || op == 2 || op == 3 || op == 4) && b == t)

theorem rsv_eq_fld (w lo n : Nat) : rsv w lo n = (fld w lo n != 0) := by
  rw [rsv, ← fld_toNat]
  exact Bool.eq_iff_iff.2 (by simp [← BitVec.toNat_inj])

/-- A word breaks a rule of the tail bits by its fields alone. -/
theorem tailBad_eq (w : Nat) :
    tailBad w = tailRule (w / 2 ^ 21 % 32) (fld w 31 1) (fld w 29 1) (fld w 28 1) (fld w 26 2) (fld w 19 2) := by
  have same : (w / 2 ^ 19 % 4 == w / 2 ^ 26 % 4) = (fld w 19 2 == fld w 26 2) := by
    exact Bool.eq_iff_iff.2 (by simp [← BitVec.toNat_inj, fld_toNat])
  simp only [tailBad, rsv_eq_fld, same, tailRule]

theorem tailRule_of_prepFault : ∀ (e x : BitVec 1) (t b : BitVec 2), prepFault e x t b = none →
  ∀ op ∈ [1, 2, 3, 4], tailRule op e 0 x t b = false := by decide

theorem tailRule_of_tailFault : ∀ (e x : BitVec 1) (t b : BitVec 2), tailFault e x t = none →
  (∀ op ∈ [0, 5, 6, 7, 9, 10, 12, 14, 15, 16, 17, 18, 19, 20], tailRule op e 0 x t b = false) ∧ tailRule 8 e 1 x t b = false ∧
    (e = 0 → tailRule 11 e 0 x t b = false ∧ tailRule 13 e 0 x t b = false) := by decide

theorem tailRule_rft : ∀ (e : BitVec 1) (b : BitVec 2), tailRule 21 e 0 0 0 b = false := by decide

/-- An operation breaks no rule of the tail bits where the fields that its word reads back do not. -/
theorem tail_word {i : Instr} {b : Nat} {fs : List (Nat × Nat)} (word : encode i = place b fs)
    (apart : fld (place b fs) 21 5 = fld b 21 5)
    (good : tailRule (b / 2 ^ 21 % 32) (fld (place b fs) 31 1) (fld (place b fs) 29 1) (fld (place b fs) 28 1) (fld (place b fs) 26 2)
      (fld (place b fs) 19 2) = false) : tailBad (encode i) = false := by
  rw [tailBad_eq, selects (m := 32) rfl word apart, word, good]

theorem firstFault_eq_none {a b : Option Nat} : firstFault a b = none ↔ a = none ∧ b = none := by cases a <;> simp [firstFault]

/-- A well-formed operation of slot 0 breaks no rule of the tail bits. -/
theorem tailBad_encode {i : Instr} (h : slotOf i = some 0) (ok : fieldFault i = none) : tailBad (encode i) = false := by
  cases i
  all_goals cases h
  all_goals
    refine tail_word rfl (by simp) ?_
    simp only [fld_place_of_le, fld_place_field, fld_place_fits, fits_cons, fits_nil, Nat.reduceAdd, Nat.reducePow, Nat.reduceDiv, Nat.reduceMod,
      Nat.reduceLeDiff]
  case prep | prepc | prepr | prepi => exact tailRule_of_prepFault _ _ _ _ ok _ (by decide)
  case rft => exact tailRule_rft _ _
  case mark => exact (tailRule_of_tailFault _ _ _ _ ok).2.1
  case susp => exact ((tailRule_of_tailFault _ _ _ _ (firstFault_eq_none.1 ok).2).2.2 rfl).1
  case qwait => exact ((tailRule_of_tailFault _ _ _ _ ok).2.2 rfl).2
  case sync | spawn => exact (tailRule_of_tailFault _ _ _ _ (firstFault_eq_none.1 ok).2).1 _ (by decide)
  all_goals exact (tailRule_of_tailFault _ _ _ _ ok).1 _ (by decide)

theorem decodeCtl_encode {i : Instr} (h : slotOf i = some 0) (ok : fieldFault i = none) : decodeCtl (encode i) = .ok i := by
  rw [decodeCtl, decodeCtlRow_encode h]
  exact if_neg (by rw [tailBad_encode h ok]; decide)

/-- There are eight slots (R108). -/
theorem slotOf_lt {i : Instr} {n : Nat} (h : slotOf i = some n) : n < 8 := by
  cases i
  all_goals cases h
  all_goals decide

/-! ### Words as sums of their fields (R108) -/

/-- The k low bits of a word. The bits from lo upward are a difference of two such values, and differences that meet add up. -/
def low (w k : Nat) : Int := (w % 2 ^ k : Nat)

theorem low_zero (w : Nat) : low w 0 = 0 := by simp [low, Nat.mod_one]

theorem low_word {w : Nat} (h : w < 2 ^ 32) : low w 32 = w := by rw [low, Nat.mod_eq_of_lt h]

theorem low_add (w lo n : Nat) : low w (lo + n) = low w lo + (w / 2 ^ lo % 2 ^ n * 2 ^ lo : Nat) := by
  rw [low, low, Nat.pow_add, Nat.mod_mul, Nat.mul_comm (2 ^ lo) (_ % _), Nat.cast_add]

theorem bits_low {w lo n m c : Nat} (size : m = 2 ^ n) : w / 2 ^ lo % m = c ↔ low w (lo + n) = low w lo + (c * 2 ^ lo : Nat) := by
  rw [low_add, size, add_right_inj, Nat.cast_inj, Nat.mul_left_inj (Nat.two_pow_pos lo).ne']

theorem fld_low (w lo n : Nat) : (((fld w lo n).toNat * 2 ^ lo : Nat) : Int) = low w (lo + n) - low w lo := by
  rw [low_add, fld_toNat, add_sub_cancel_left]

theorem rsv_low {w lo n : Nat} : rsv w lo n = false ↔ low w (lo + n) = low w lo := by
  rw [rsv, bne_eq_false_iff_eq, bits_low rfl, Nat.zero_mul, Nat.cast_zero, add_zero]

theorem placed_nil : placed [] = 0 := by rw [placed, List.map_nil, List.sum_nil]

/-- A word is the fixed bits of its row and its fields. -/
theorem encode_word {i : Instr} {b w : Nat} {fs : List (Nat × Nat)} (word : encode i = place b fs) (sum : (b : Int) + (placed fs : Nat) = w) :
    encode i = w := by
  rw [word, place_eq]
  exact_mod_cast sum

/-- Whatever a row accepts is the word of its operation. Its opcode n stands from bit lo upward. -/
def RowsFit (row : Nat → Nat → Except Reject Instr) (lo slot : Nat) : Prop :=
  ∀ (w n : Nat) (i : Instr), low w 32 = w → low w 32 = low w lo + (n * 2 ^ lo : Nat) → row n w = .ok i → encode i = w ∧ slotOf i = some slot

/-! ### The words that the rows accept (R139, R311)

Each row's fields, its opcode and the bits that its checks find clear are differences of low parts that meet, so their sum is the word. -/

theorem rows_fit : RowsFit decodeIntRow 24 1 ∧ RowsFit decodeAdrRow 26 2 ∧ RowsFit decodeVecRow 25 3 ∧ RowsFit decodeIvlRow 25 4 ∧
    RowsFit decodeMemRow 26 5 ∧ RowsFit decodeMtxRow 26 6 ∧ RowsFit decodeCpyRow 27 7 := by
  refine ⟨?int, ?adr, ?vec, ?ivl, ?mem, ?mtx, ?cpy⟩
  all_goals
    intro w n i top
    have bottom := low_zero w
  case' int => fun_cases decodeIntRow n w
  case' adr => fun_cases decodeAdrRow n w
  case' vec =>
    have lanes := low_add w 24 1
    fun_cases decodeVecRow n w
  case' ivl => fun_cases decodeIvlRow n w
  case' mem =>
    have narrows := low_add w 0 1
    have kind := low_add w 3 2
    fun_cases decodeMemRow n w
  case' mtx =>
    have single := low_add w 1 1
    fun_cases decodeMtxRow n w
  case' cpy =>
    have counts := low_add w 0 1
    fun_cases decodeCpyRow n w
  all_goals
    intro op row
    cases row
  all_goals
    refine ⟨encode_word rfl ?_, rfl⟩
    simp only [Bool.not_eq_true, Bool.not_eq_true', Bool.or_eq_false_iff, rsv_low, placed_cons, placed_nil, Nat.cast_add, fld_low,
      Nat.reduceAdd] at *
    omega

theorem tailRule_clear {op : Nat} {e k x : BitVec 1} {t b : BitVec 2} (h : tailRule op e k x t b = false) :
    k = (if op = 8 then 1 else 0) ∧ (op = 11 ∨ op = 13 → e = 0) ∧ (op = 21 → x = 0 ∧ t = 0) := by
  simp only [tailRule, Bool.or_eq_false_iff] at h
  obtain ⟨⟨⟨⟨⟨-, mark⟩, named⟩, ends⟩, returns⟩, -⟩ := h
  refine ⟨?_, fun h => ?_, fun h => ?_⟩
  · rcases BitVec.eq_zero_or_eq_one k with rfl | rfl <;> simp_all
  · rcases h with rfl | rfl <;> simpa using ends
  · have noTransfer : x = 0 := by simpa [h] using returns
    exact ⟨noTransfer, by simpa [noTransfer] using named⟩

/-- The tail bits of an accepted word of row n: MK is the mark of row 8, and E, X and T are clear where the row has no field for them (R122, R123). -/
structure TailFits (w n : Nat) : Prop where
  marked : n = 8 → low w 30 = low w 29 + (2 ^ 29 : Nat)
  unmarked : n ≠ 8 → low w 30 = low w 29
  noEnd : n = 11 ∨ n = 13 → low w 32 = low w 31
  noTransfer : n = 21 → low w 29 = low w 26

theorem tailFits {w : Nat} (good : tailBad w = false) : TailFits w (w / 2 ^ 21 % 32) := by
  rw [tailBad_eq] at good
  obtain ⟨mark, ends, returns⟩ := tailRule_clear good
  have e := fld_low w 31 1
  have k := fld_low w 29 1
  have x := fld_low w 28 1
  have t := fld_low w 26 2
  constructor
  · intro h
    rw [mark, if_pos h] at k
    exact eq_add_of_sub_eq' k.symm
  · intro h
    rw [mark, if_neg h] at k
    exact sub_eq_zero.1 k.symm
  · intro h
    rw [ends h] at e
    exact sub_eq_zero.1 e.symm
  · intro h
    obtain ⟨noTransfer, noBuffer⟩ := returns h
    rw [noTransfer] at x
    rw [noBuffer] at t
    exact (sub_eq_zero.1 x.symm).trans (sub_eq_zero.1 t.symm)

/-- A word that slot 0 accepts passes its row, then the rules of the tail bits. -/
theorem decodeCtl_ok {w : Nat} {i : Instr} (h : decodeCtl w = .ok i) : decodeCtlRow (w / 2 ^ 21 % 32) w = .ok i ∧ tailBad w = false := by
  unfold decodeCtl at h
  split at h
  · cases h
  · next j row =>
    split at h
    · cases h
    · next good => exact ⟨row.trans h, by simpa using good⟩

theorem encode_decodeCtl {w : Nat} {i : Instr} (top : low w 32 = w) (h : decodeCtl w = .ok i) : encode i = w ∧ slotOf i = some 0 := by
  have bottom := low_zero w
  obtain ⟨row, good⟩ := decodeCtl_ok h
  obtain ⟨n, op, tails, row⟩ : ∃ n, low w 26 = low w 21 + (n * 2 ^ 21 : Nat) ∧ TailFits w n ∧ decodeCtlRow n w = .ok i :=
    ⟨w / 2 ^ 21 % 32, low_add w 21 5, tailFits good, row⟩
  clear h good
  revert op tails row
  fun_cases decodeCtlRow n w
  all_goals
    intro op tails row
    cases row
  all_goals
    obtain ⟨marked, unmarked, noEnd, noTransfer⟩ := tails
    refine ⟨encode_word rfl ?_, rfl⟩
    simp only [Bool.not_eq_true, rsv_low, placed_cons, placed_nil, Nat.cast_add, fld_low, Nat.reduceAdd, true_or, or_true,
      forall_const] at *
    omega

end Sys2Proof

namespace Sys2Proof.Machine

/-- Settles O57: in each slot the fields of the word read back as the operation's. -/
theorem encodeThenDecode : Obligations.EncodeThenDecode := by
  unfold Obligations.EncodeThenDecode
  intro i n slot good
  match n, slotOf_lt slot with
  | 0, _ => exact decodeCtl_encode slot (Option.isNone_iff_eq_none.1 good)
  | 1, _ => exact decodeInt_encode slot
  | 2, _ => exact decodeAdr_encode slot
  | 3, _ => exact decodeVec_encode slot
  | 4, _ => exact decodeIvl_encode slot
  | 5, _ => exact decodeMem_encode slot
  | 6, _ => exact decodeMtx_encode slot
  | 7, _ => exact decodeCpy_encode slot

/-- Settles O58: in each slot an accepted word is the sum of its opcode and the fields that it was read as. -/
theorem decodeThenEncode : Obligations.DecodeThenEncode := by
  unfold Obligations.DecodeThenEncode
  intro w n i small decoded
  have top := low_word small
  obtain ⟨int, adr, vec, ivl, mem, mtx, cpy⟩ := rows_fit
  match n with
  | 0 => exact encode_decodeCtl top decoded
  | 1 => exact int w _ i top (low_add w 24 8) decoded
  | 2 => exact adr w _ i top (low_add w 26 6) decoded
  | 3 => exact vec w _ i top (low_add w 25 7) decoded
  | 4 => exact ivl w _ i top (low_add w 25 7) decoded
  | 5 => exact mem w _ i top (low_add w 26 6) decoded
  | 6 => exact mtx w _ i top (low_add w 26 6) decoded
  | 7 => exact cpy w _ i top (low_add w 27 5) decoded
  | n + 8 => cases decoded

/-- Settles O56: the decoder computes on each word. -/
theorem sampleWordsDecode : Obligations.SampleWordsDecode := by
  unfold Obligations.SampleWordsDecode
  exact ⟨rfl, rfl, rfl, rfl, rfl, rfl, rfl, rfl, rfl, rfl, rfl, rfl, rfl, rfl, rfl, rfl, rfl, rfl, rfl, rfl, rfl, rfl, rfl, rfl,
    rfl, rfl, rfl, rfl, rfl, rfl, rfl, rfl, rfl, rfl, rfl, rfl, rfl, rfl, rfl, rfl, rfl, rfl, rfl, rfl⟩

end Sys2Proof.Machine
end

section
/-! PROOFS. Operations by their shared forms: the NOPs, predicates, masks and armed buffers, transfer buffers and loop levels (R109, R124, R128,
R141, R142, R182 to R187). The theorems settle O7, O9 and O31. -/

namespace Sys2Proof.Machine

/-! ### The NOPs (R109) -/

/-- Settles O7: the NOP of slot 0 is a CTL operation without an effect of its own, each other NOP an operation without guard, wait or checks. -/
theorem nopsChangeNothing : Obligations.NopsChangeNothing := by
  unfold Obligations.NopsChangeNothing
  intro s e y x t
  refine ⟨acts_ctlOp (exec_nopCtl ..) (fun _ _ => rfl) (fun _ => rfl) (fun _ => rfl), ?_⟩
  intro i isNop
  fin_cases isNop
  · exact exec_plain (exec_nopInt s)
  · exact exec_plain (exec_nopAdr s)
  · exact exec_plain (exec_nopVec s)
  · exact exec_plain (exec_nopIvl s)
  · exact exec_plain (exec_nopMem s)
  · exact exec_plain (exec_nopMtx s)
  · exact exec_plain (exec_nopCpy s)

/-! ### Predicates, masks and armed buffers (R182 to R187) -/

/-- A buffer that holds a transfer passes TXEMPTY (R124). -/
theorem State.bufEmpty_none {s : State} {slot : Nat} {b : BitVec 2} : s.bufEmpty slot b = none ↔ (s.buf b).st ≠ .empty := by
  rw [State.bufEmpty, State.check_none, decide_eq_false_iff_not]

/-- Settles O9: each operation by its form; the checks of ARM and ARMM hold of the predicates and masks that they take. -/
theorem adrPredicateAndMaskResults : Obligations.AdrPredicateAndMaskResults := by
  unfold Obligations.AdrPredicateAndMaskResults
  intro s g m m1 m2 p a b c f i9 d p1 p2 v buf pol pred mask
  refine ⟨acts_form (exec_cmpa ..) id (fun _ _ => rfl) (fun _ => rfl), acts_form (exec_cmpai ..) id (fun _ _ => rfl) (fun _ => rfl),
    exec_plain (exec_plogic ..), exec_plain (exec_pset ..), (acts_adrMask (exec_mlogic ..) :), (acts_adrMask (exec_mfill ..) :),
    (acts_adrMask (exec_mfromp ..) :), fun holds => ⟨fun known => ?_, fun uniform => ?_⟩⟩
  · refine (exec_arm ..).trans (State.issueOp_performs rfl rfl rfl ?_)
    simp [State.bufEmpty_none.2 holds, known]
  · refine (exec_armm ..).trans (State.issueOp_performs rfl rfl rfl ?_)
    rcases uniform with zeros | ones
    · simp [State.bufEmpty_none.2 holds, zeros]
    · simp [State.bufEmpty_none.2 holds, ones]

/-! ### Transfer buffers and loop levels (R124, R128, R141, R142) -/

section
variable {s : State} {e y x : BitVec 1} {t v : BitVec 2}

/-- A body that keeps the nesting passes its check, and so does the body of a LOOP of count zero (R128). -/
theorem State.nestCheck_none {len : W32} {zero : Bool} {word : Nat} : s.nestCheck v len zero word = none ↔
    (zero = false → s.issue.flow.breaksNest v (s.issue.flow.pc + 1) (s.issue.flow.pc + len) = false) := by
  rw [State.nestCheck, State.context7_none]
  cases zero <;> simp

/-- A LOOP of a count that is not zero activates its level (R128, R142). -/
theorem acts_loop {r : BitVec 5} {l : BitVec 14} : ActsCtl (.loop e y x t v r l) s e y x t [aRef r]
    (low32 (s.a r) ≠ 0 ∧ s.issue.flow.breaksNest v (s.issue.flow.pc + 1) (s.issue.flow.pc + (l.zeroExtend 32 + 1)) = false)
    (fun c => c.fly 1 0 (.loop v (s.issue.flow.pc + 1) (s.issue.flow.pc + (l.zeroExtend 32 + 1)) (low32 (s.a r)))) := by
  refine acts_ctlOp (exec_loop ..) (fun full _ => State.noWait_of_full full) (fun ⟨_, nests⟩ => ?_) fun ⟨counts, _⟩ => ?_
  · rw [State.nestCheck_none.2 fun _ => nests, firstOf_none, firstOf_nil]
  · rw [decide_eq_false counts]
    rfl

/-- A LOOP of count zero goes on behind its body (R128, R142). -/
theorem acts_loop_zero {r : BitVec 5} {l : BitVec 14} : ActsCtl (.loop e y x t v r l) s e y x t [aRef r] (low32 (s.a r) = 0)
    (fun c => { c with flow := { c.flow with tail := { c.flow.tail with skip := some (c.flow.pc + 1 + (l.zeroExtend 32 + 1)) } } }) := by
  refine acts_ctlOp (exec_loop ..) (fun full _ => State.noWait_of_full full) (fun zero => ?_) fun zero => ?_
  · rw [State.nestCheck_none.2 fun h => absurd zero (of_decide_eq_false h), firstOf_none, firstOf_nil]
  · rw [decide_eq_true zero]
    rfl

/-- LOOPI activates its level with its own count (R128, R142). -/
theorem acts_loopi {n : BitVec 9} {l : BitVec 10} : ActsCtl (.loopi e y x t v n l) s e y x t []
    (s.issue.flow.breaksNest v (s.issue.flow.pc + 1) (s.issue.flow.pc + (l.zeroExtend 32 + 1)) = false)
    (fun c => c.fly 1 0 (.loop v (s.issue.flow.pc + 1) (s.issue.flow.pc + (l.zeroExtend 32 + 1)) (n.zeroExtend 32 + 1))) := by
  refine acts_ctlOp (exec_loopi ..) (fun _ _ => rfl) (fun nests => ?_) fun _ => rfl
  rw [State.nestCheck_none.2 fun _ => nests, firstOf_none, firstOf_nil]

/-- PREPR takes the top of a return stack that has one (R124). -/
theorem acts_prepr {b : BitVec 2} {top : W32} : ActsCtl (.prepr e y x t b) s e y x t [] (s.issue.flow.top = some top)
    (fun c => c.fly 1 0 (.prep b .prepr top)) := by
  refine acts_ctlOp (exec_prepr ..) (fun _ _ => rfl) (fun hasTop => ?_) fun hasTop => ?_
  · rw [hasTop]
    rfl
  · rw [hasTop]
    rfl

end

/-- Settles O31: PREP, PREPC and PREPI put their target from a state without checks, the others as their lemmas say. -/
theorem prepareAndLoopResults : Obligations.PrepareAndLoopResults := by
  unfold Obligations.PrepareAndLoopResults
  intro s e y x t b v o19 o14 l14 r c9 l10 top pc act prep loop nests n len14 len10
  exact ⟨acts_ctlOp (exec_prep ..) (fun _ _ => rfl) (fun _ => rfl) (fun _ => rfl),
    acts_ctlOp (exec_prepc ..) (fun _ _ => rfl) (fun _ => rfl) (fun _ => rfl), acts_prepr,
    acts_ctlOp (exec_prepi ..) (fun full _ => State.noWait_of_full full) (fun _ => rfl) (fun _ => rfl), acts_loop, acts_loop_zero, acts_loopi⟩

end Sys2Proof.Machine
end

section
/-! PROOFS. Global loads, stores and atomics at issue (R116, R218, R221, R222): each goes out as one more outstanding access of its context. The
theorem settles O24. -/

namespace Sys2Proof.Machine

section
variable {i : Instr} {s : State} {g : BitVec 4} {r : RegRef} {b d : BitVec 5} {o : BitVec 3} {va : BitVec 57} {align : Nat} {op : AccOp}

/-- What a global load leaves: the access among those outstanding, its destination empty where it asks for that. -/
def State.loading (s : State) (r : RegRef) (o : BitVec 3) (va : BitVec 57) (empties : Bool) (op : AccOp) : State :=
  s.performed fun c =>
    let c := c.launch va op o false
    if empties then { c with regs := c.regs.mark r true } else c

/-- A load of a, v or an unbound k: its base is full and its destination takes a result (R116, R117, R221). -/
theorem acts_ldg {names : List RegRef} {ok : Prop} {late : List (Option Cause)}
    (means : exec i s = s.ldg g r b o va align late false true op) (base : s.full names = true → s.full [aRef b] = true)
    (takes : s.full names = true → ok → s.waitDest r = none) (aligned : ok → va.toNat % align = 0) (passes : ok → firstOf late = none) :
    Acts i s (s.guard4 g) names ok (s.loading r o va true op) := by
  refine acts_of_issueOp means rfl fun _ full holds => ⟨rfl, ?_, ?_⟩
  · simp [State.waitRegs_full.2 (base full), takes full holds]
  · simp [State.gAlign_none.2 (aligned holds), passes holds]

/-- A load that narrows reads its destination, so it waits for it (R117, R221). -/
theorem acts_ldg_narrowing {empties : Bool} (means : exec i s = s.ldg g r b o va align [] true empties op) :
    Acts i s (s.guard4 g) [aRef b, r] (va.toNat % align = 0) (s.loading r o va empties op) := by
  refine acts_of_issueOp means rfl fun _ full aligned => ⟨rfl, ?_, ?_⟩
  · rw [← List.singleton_append, State.full_append, Bool.and_eq_true] at full
    obtain ⟨base, dest⟩ := full
    simp [State.waitRegs_full.2 base, State.waitRegs_full.2 dest]
  · rw [State.gAlign_none.2 aligned, firstOf_none, firstOf_nil]

/-- A store (R221). -/
theorem acts_stg {n data : Nat} (means : exec i s = s.stg g r b o va align n data) :
    Acts i s (s.guard4 g) [aRef b, r] (va.toNat % align = 0) (s.performed fun c => c.launch va (.store (leBytes n data)) o true) :=
  acts_form means id (fun _ _ => rfl) fun aligned => by rw [State.gAlign_none.2 aligned, firstOf_none, firstOf_nil]

/-- An atomic (R222). -/
theorem acts_atomic {src : Option (BitVec 5)} {kind : BitVec 3} (means : exec i s = s.atomic g d b src o align kind) :
    Acts i s (s.guard4 g) (aRef b :: aRef d :: (src.map aRef).toList) ((s.gva b 0 8).toNat % align = 0)
      (s.performed fun c =>
        let c := c.launch (s.gva b 0 8) (.atomic kind d ((src.map s.a).getD 0) (s.a d)) o true
        { c with regs := c.regs.mark (aRef d) true }) := by
  unfold State.atomic at means
  refine acts_form means id (fun _ _ => rfl) fun aligned => ?_
  rw [State.gAlign_none.2 aligned, firstOf_none, firstOf_nil]

/-- A full destination takes the result of a load. -/
theorem State.waitDest_of_full (full : s.full [r] = true) : s.waitDest r = none := by
  rw [State.full_cons, Bool.and_eq_true, Bool.not_eq_true'] at full
  obtain ⟨dest, _⟩ := full
  exact State.waitDest_full dest

theorem State.full_pair {q r : RegRef} : s.full [q, r] = true ↔ s.full [q] = true ∧ s.full [r] = true := by
  rw [← List.singleton_append, State.full_append, Bool.and_eq_true]

/-- A load of an a or a v register, both of its registers full. -/
theorem acts_ldg_full (means : exec i s = s.ldg g r b o va align [] false true op) :
    Acts i s (s.guard4 g) [aRef b, r] (va.toNat % align = 0) (s.loading r o va true op) :=
  acts_ldg means (fun full => (State.full_pair.1 full).1) (fun full _ => State.waitDest_of_full (State.full_pair.1 full).2) id fun _ => rfl

end

/-- Settles O24: every access by the lemma of its form. -/
theorem globalAccessResults : Obligations.GlobalAccessResults := by
  unfold Obligations.GlobalAccessResults
  intro s g r6 r b d o f8 f7 va aligned load store atomic
  refine ⟨acts_ldg_full (exec_ldgA ..), acts_ldg_full (exec_ldgV ..), ?plainK, acts_ldg_narrowing (exec_ldgKN ..), acts_stg (exec_stgA ..),
    acts_stg (exec_stgV ..), acts_atomic (exec_aadd ..), acts_atomic (exec_amax ..), acts_atomic (exec_amin ..), acts_atomic (exec_axch ..),
    acts_atomic (exec_acas ..), acts_atomic (exec_amaxf ..), acts_atomic (exec_amaxrst ..)⟩
  case plainK =>
    refine acts_ldg (exec_ldgK ..) id (fun _ ⟨_, _, takes⟩ => State.waitDest_k.2 takes) (fun ⟨holds, _⟩ => holds)
      fun ⟨_, unbound, _⟩ => ?_
    rw [State.loadBound, unbound, State.check_false, firstOf_none, firstOf_nil]

end Sys2Proof.Machine
end

section
/-! PROOFS. Empty sources (R117, R118): one lemma on an operation with two sources that have trap bits, one lemma for each of its forms. The theorem
settles O47. -/

namespace Sys2Proof.Machine

variable {i : Instr} {s : State}

/-- An operation with the sources a and b, whose trap bits are f and h: EMPTYREAD where a trap bit asks for it, of a before b, and the wait of an
empty source otherwise. -/
def TrapsOrHolds (i : Instr) (s : State) (slot : Nat) (a b : RegRef) (f h : BitVec 1) : Prop :=
  let trap (r : RegRef) : State := s.trapped 2 (s.cause slot 0x0A (regInfo r.1 r.2))
  let empty (r : RegRef) : Prop := s.rd.isEmpty r = true
  (empty a → f = 1 → exec i s = .next (trap a)) ∧
  (¬empty a ∨ f = 0 → empty b → h = 1 → exec i s = .next (trap b)) ∧
  (empty a ∨ empty b → (¬empty a ∨ f = 0) → (¬empty b ∨ h = 0) → exec i s = .next { s with verdict := .waits 1 })

/-- EMPTYREAD of a register that is empty, its trap bit set (R118). -/
theorem State.emptyRead_traps {slot : Nat} {r : RegRef} (empty : s.rd.isEmpty r = true) :
    s.emptyRead slot 1 r = some (s.cause slot 0x0A (regInfo r.1 r.2)) := by
  simp [State.emptyRead, State.check, empty]

/-- No EMPTYREAD of a register that is full or has no trap bit. -/
theorem State.emptyRead_none {slot : Nat} {f : BitVec 1} {r : RegRef} (good : ¬s.rd.isEmpty r = true ∨ f = 0) : s.emptyRead slot f r = none := by
  rcases good with full | rfl
  · exact State.emptyRead_full (by simpa using full)
  · exact State.emptyRead_zero ..

/-- A trap before the wait is the first that the checks there find (R303). -/
theorem State.issueOp_early {runs : Bool} {early late : List (Option Cause)} {waits : List (Option Nat)} {act : State → State} {x : Cause}
    (executes : runs = true) (finds : firstOf early = some x) : s.issueOp runs early waits late act = .next (s.trapped 2 x) := by
  simp [State.issueOp, executes, finds, State.issueTrap_eq]

/-- An operation with two sources whose wait is of source 1 where one of them is empty. -/
theorem emptySources {slot : Nat} {a b : RegRef} {f h : BitVec 1} {runs : Bool} {waits : List (Option Nat)} {late : List (Option Cause)}
    {act : State → State} (executes : runs = true)
    (means : exec i s = s.issueOp runs [s.emptyRead slot f a, s.emptyRead slot h b] waits late act)
    (held : s.rd.isEmpty a = true ∨ s.rd.isEmpty b = true → firstOf waits = some 1) : TrapsOrHolds i s slot a b f h := by
  refine ⟨?trapA, ?trapB, ?holds⟩
  case trapA =>
    rintro emptyA rfl
    rw [means, State.issueOp_early executes (by rw [State.emptyRead_traps emptyA, firstOf_some])]
  case trapB =>
    rintro goodA emptyB rfl
    rw [means, State.issueOp_early executes (by rw [State.emptyRead_none goodA, firstOf_none, State.emptyRead_traps emptyB, firstOf_some])]
  case holds =>
    intro empty goodA goodB
    rw [means, State.issueOp_waits executes (by rw [State.emptyRead_none goodA, State.emptyRead_none goodB]; rfl) (held empty)]
    rfl

/-- Registers among which an empty one is make an operation wait, by source 1 (R22, R117). -/
theorem State.waitRegs_holds {rs : List RegRef} {r : RegRef} (named : r ∈ rs) (empty : s.rd.isEmpty r = true) : s.waitRegs rs = some 1 :=
  if_pos (List.any_eq_true.2 ⟨r, named, empty⟩)

theorem State.waitRegs_pair {a b : RegRef} (rs : List RegRef) (empty : s.rd.isEmpty a = true ∨ s.rd.isEmpty b = true) :
    s.waitRegs (rs ++ [a, b]) = some 1 := by
  rcases empty with empty | empty
  · exact State.waitRegs_holds (r := a) (by simp) empty
  · exact State.waitRegs_holds (r := b) (by simp) empty

/-- A destination makes an operation wait by source 1, if it does. -/
theorem State.waitDest_cases (s : State) (r : RegRef) : s.waitDest r = none ∨ s.waitDest r = some 1 := by
  rw [State.waitDest]
  split <;> simp

/-! ### The forms of slots 1 and 3 -/

section
variable {g : BitVec 4} {d a b : BitVec 6} {f h : BitVec 1} {rel : Rel} {ds : List (BitVec 6)}

theorem emptySources_intAssign {x : Option Dom} (on : s.guard4 g = true) (means : exec i s = s.intAssign g d [(a, f), (b, h)] x) :
    TrapsOrHolds i s 1 (kRef a) (kRef b) f h := by
  refine emptySources on means fun empty => ?_
  have sources : s.waitRegs [kRef a, kRef b] = some 1 := State.waitRegs_pair [] empty
  rcases s.waitDest_cases (kRef d) with dest | dest
  · rw [dest, firstOf_none]
    exact congrArg (firstOf [·]) sources
  · rw [dest, firstOf_some]

theorem emptySources_intPred {x : BitVec 2} (on : s.guard4 g = true) (means : exec i s = s.intPred g d [(a, f), (b, h)] x) :
    TrapsOrHolds i s 1 (kRef a) (kRef b) f h :=
  emptySources on means fun empty => congrArg (firstOf [·]) (State.waitRegs_pair [] empty)

theorem emptySources_intNarrow (on : s.guard4 g = true) (means : exec i s = s.intNarrow g rel ds [(a, f), (b, h)]) :
    TrapsOrHolds i s 1 (kRef a) (kRef b) f h :=
  emptySources on means fun empty => congrArg (firstOf [·]) (State.waitRegs_pair (ds.map kRef) empty)

theorem emptySources_intPost (on : s.guard4 g = true) (means : exec i s = s.intPost g rel ds [(a, f), (b, h)]) :
    TrapsOrHolds i s 1 (kRef a) (kRef b) f h :=
  emptySources on means fun empty => congrArg (firstOf [·]) (State.waitRegs_pair (ds.map kRef) empty)

theorem emptySources_intDivide {op : Int → Int → Int} (on : s.guard4 g = true) (means : exec i s = s.intDivide g d a b f h op) :
    TrapsOrHolds i s 1 (kRef a) (kRef b) f h := by
  unfold State.intDivide at means
  refine emptySources on means fun empty => ?_
  have sources : s.waitRegs [kRef a, kRef b] = some 1 := State.waitRegs_pair [] empty
  rw [sources, firstOf_some]

theorem emptySources_vecOp {runs : Bool} {ds : List RegRef} {a b : RegRef} {act : State → State} (executes : runs = true)
    (means : exec i s = s.vecOp runs ds [(a, f), (b, h)] act) : TrapsOrHolds i s 3 a b f h :=
  emptySources executes means fun empty => congrArg (firstOf [·]) (State.waitRegs_pair ds empty)

theorem emptySources_vecLanes {g : BitVec 5} {lat : Nat} {x : Nat → W32} (executes : s.runs64 g = true)
    (means : exec i s = s.vecLanes g lat d [(a, f), (b, h)] x) : TrapsOrHolds i s 3 (vRef a) (vRef b) f h :=
  emptySources_vecOp executes means

theorem emptySources_vecCmp {g : BitVec 5} {lat : Nat} {m : BitVec 4} {op : W32 → W32 → Bool} (executes : s.runs64 g = true)
    (means : exec i s = s.vecCmp g lat m a b f h op) : TrapsOrHolds i s 3 (vRef a) (vRef b) f h :=
  emptySources_vecOp executes means

end

/-- Settles O47: every form with two sources is one of the shared forms. -/
theorem emptySourcesTrapOrHold : Obligations.EmptySourcesTrapOrHold := by
  unfold Obligations.EmptySourcesTrapOrHold
  intro s g e d a b m f h ints vecs one
  refine ⟨fun on => ?ints, fun on => ?vecs⟩
  case ints =>
    have all : ∀ i ∈ ints, TrapsOrHolds i s 1 (kRef a) (kRef b) f h := by
      simp only [ints, List.forall_mem_cons]
      exact ⟨emptySources_intAssign on (exec_add ..), emptySources_intNarrow on (exec_addN ..), emptySources_intPost on (exec_addP ..),
        emptySources_intAssign on (exec_sub ..), emptySources_intNarrow on (exec_subN ..), emptySources_intPost on (exec_subP ..),
        emptySources_intAssign on (exec_mul ..), emptySources_intNarrow on (exec_mulN ..), emptySources_intPost on (exec_mulP ..),
        emptySources_intAssign on (exec_min ..), emptySources_intNarrow on (exec_minN ..), emptySources_intPost on (exec_minP ..),
        emptySources_intAssign on (exec_max ..), emptySources_intNarrow on (exec_maxN ..), emptySources_intPost on (exec_maxP ..),
        emptySources_intAssign on (exec_and ..), emptySources_intAssign on (exec_or ..), emptySources_intAssign on (exec_xor ..),
        emptySources_intAssign on (exec_shl ..), emptySources_intAssign on (exec_shr ..), emptySources_intAssign on (exec_sar ..),
        emptySources_intAssign on (exec_dset ..), emptySources_intDivide on (exec_div ..), emptySources_intDivide on (exec_rem ..),
        emptySources_intPred on (exec_eq ..), emptySources_intNarrow on (exec_eqN ..), emptySources_intPost on (exec_eqP ..),
        emptySources_intPred on (exec_ne ..), emptySources_intNarrow on (exec_neN ..), emptySources_intPost on (exec_neP ..),
        emptySources_intPred on (exec_lt ..), emptySources_intNarrow on (exec_ltN ..), emptySources_intPost on (exec_ltP ..),
        emptySources_intPred on (exec_le ..), emptySources_intNarrow on (exec_leN ..), emptySources_intPost on (exec_leP ..),
        List.forall_mem_nil _⟩
    exact all
  case vecs =>
    have all : ∀ i ∈ vecs, TrapsOrHolds i s 3 (vRef a) (vRef b) f h := by
      simp only [vecs, List.forall_mem_cons]
      exact ⟨emptySources_vecLanes on (exec_vaddF ..), emptySources_vecLanes on (exec_vsubF ..), emptySources_vecLanes on (exec_vmulF ..),
        emptySources_vecLanes on (exec_vminF ..), emptySources_vecLanes on (exec_vmaxF ..), emptySources_vecCmp on (exec_vcmpeqF ..),
        emptySources_vecCmp on (exec_vcmpltF ..), emptySources_vecCmp on (exec_vcmpleF ..), emptySources_vecLanes on (exec_vaddI ..),
        emptySources_vecLanes on (exec_vsubI ..), emptySources_vecLanes on (exec_vmulI ..), emptySources_vecLanes on (exec_vminI ..),
        emptySources_vecLanes on (exec_vmaxI ..), emptySources_vecLanes on (exec_vand ..), emptySources_vecLanes on (exec_vor ..),
        emptySources_vecLanes on (exec_vxor ..), emptySources_vecLanes on (exec_vshl ..), emptySources_vecLanes on (exec_vshr ..),
        emptySources_vecLanes on (exec_vsar ..), emptySources_vecCmp on (exec_vcmpeqI ..), emptySources_vecCmp on (exec_vcmpltI ..),
        emptySources_vecLanes on (exec_vfmaF ..), emptySources_vecLanes on (exec_vfmsF ..), emptySources_vecOp on (exec_vpkbf ..),
        emptySources_vecLanes on (exec_vperm ..), emptySources_vecOp rfl (exec_vsel ..),
        List.forall_mem_nil _⟩
    exact all

end Sys2Proof.Machine
end

section
/-! PROOFS. Causes at issue (R124, R164, R165, R168, R174, R176, R177, R185, R188, R192, R230, R303, R304): where an operation neither traps before
its wait nor waits, the bundle traps for the first cause that the checks after the wait find. The theorem settles O48. -/

namespace Sys2Proof.Machine

variable {i : Instr} {s : State}

/-- A trap after the wait is the first that the checks there find (R303, R304). -/
theorem State.issueOp_late {runs : Bool} {early late : List (Option Cause)} {waits : List (Option Nat)} {act : State → State} {x : Cause}
    (executes : runs = true) (noEarly : firstOf early = none) (noWait : firstOf waits = none) (finds : firstOf late = some x) :
    s.issueOp runs early waits late act = .next (s.trapped 4 x) := by
  simp [State.issueOp, executes, noEarly, noWait, finds, State.issueTrap_eq]

/-- A check whose condition holds raises its cause. -/
theorem State.check_some {slot : Nat} {bad : Bool} {code : Byte} {info : W64} (holds : bad = true) :
    s.check slot bad code info = some (s.cause slot code info) := if_pos holds

/-- TINFO of BOUNDWRITE (R308). -/
def State.boundInfo (s : State) (d : BitVec 6) : W64 :=
  BitVec.ofNat 64 (s.issue.swage.firstNaming d % 65536 * 2 ^ 32) ||| regInfo .k d.toNat

/-- Registers among full ones are full. -/
theorem State.full_of_subset {qs rs : List RegRef} (full : s.full rs = true) (among : qs ⊆ rs) : s.full qs = true :=
  List.all_eq_true.2 fun r named => List.all_eq_true.1 full r (among named)

/-! ### The domain slot -/

section
variable {g : BitVec 4} {d a b : BitVec 6} {f h : BitVec 1} {srcs : List (BitVec 6 × BitVec 1)}

/-- BOUNDWRITE of an assign form (R165). -/
theorem intAssign_boundWrite {x : Option Dom} (on : s.guard4 g = true) (bound : s.issue.swage.bound d = true)
    (means : exec i s = s.intAssign g d srcs x) (full : s.full (kRef d :: srcs.map fun r => kRef r.1) = true) :
    exec i s = .next (s.trapped 4 (s.cause 1 0x07 (s.boundInfo d))) := by
  rw [State.full_cons, Bool.and_eq_true, Bool.not_eq_true'] at full
  obtain ⟨dest, sources⟩ := full
  rw [means]
  refine State.issueOp_late on (State.full_kSources sources) ?_ ?_
  · rw [State.waitDest_full dest, State.waitRegs_full.2 sources]
    rfl
  · rw [State.boundWrite, State.check_some bound, firstOf_some, State.boundInfo]

/-- STOREFULL of a post form (R168). -/
theorem intPost_storeFull {rel : Rel} {ds : List (BitVec 6)} (on : s.guard4 g = true) (filled : 512 ≤ s.issue.swage.store.length)
    (means : exec i s = s.intPost g rel ds srcs) (full : s.full (ds.map kRef ++ srcs.map fun r => kRef r.1) = true) :
    exec i s = .next (s.trapped 4 (s.cause 1 0x04 (BitVec.ofNat 64 s.issue.swage.store.length))) := by
  have sources : s.full (srcs.map fun r => kRef r.1) = true := by
    rw [State.full_append, Bool.and_eq_true] at full
    exact full.2
  rw [means]
  refine State.issueOp_late on (State.full_kSources sources) (State.noWait_of_full full) ?_
  rw [State.check_some (decide_eq_true filled), firstOf_some]

/-- NOTSINGLE of the dividend (R164). -/
theorem intDivide_notSingle {op : Int → Int → Int} (on : s.guard4 g = true) (many : domMember? (s.k a) = none)
    (means : exec i s = s.intDivide g d a b f h op) (full : s.full [kRef d, kRef a, kRef b] = true) :
    exec i s = .next (s.trapped 4 (s.cause 1 0x08 (regInfo .k a.toNat))) := by
  rw [State.full_cons, Bool.and_eq_true, Bool.not_eq_true'] at full
  obtain ⟨dest, sources⟩ := full
  rw [means]
  unfold State.intDivide
  refine State.issueOp_late on ?_ ?_ ?_
  · exact State.full_kSources (srcs := [(a, f), (b, h)]) sources
  · rw [State.waitRegs_full.2 sources, State.waitDest_full dest]
    rfl
  · have dividend : s.check 1 (domMember? (s.k a)).isNone 0x08 (regInfo .k a.toNat) = some (s.cause 1 0x08 (regInfo .k a.toNat)) := by
      rw [many, Option.isNone_none, State.check_some rfl]
    exact (congrArg firstOf (congrArg (· :: _) dividend)).trans (firstOf_some ..)

/-- CKPTDEPTH (R174, R176, R177). -/
theorem issueOp_ckptDepth {bad : Bool} {act : State → State} (on : s.guard4 g = true) (holds : bad = true)
    (means : exec i s = s.issueOp (s.guard4 g) [] [] [s.ckptCheck bad] act) :
    exec i s = .next (s.trapped 4 (s.cause 1 0x06 (BitVec.ofNat 64 s.issue.swage.ckpts.length))) := by
  rw [means]
  exact State.issueOp_late on rfl rfl (by rw [State.ckptCheck, State.check_some holds, firstOf_some])

end

/-! ### The address slot -/

section
variable {g : BitVec 4} {a : BitVec 6} {r : BitVec 5} {n : BitVec 12} {buf : BitVec 2}

/-- BOUNDWRITE of MOVAK (R188). -/
theorem movak_boundWrite (on : s.guard4 g = true) (bound : s.issue.swage.bound a = true) (full : s.full [kRef a, aRef r] = true) :
    exec (.movak g a r) s = .next (s.trapped 4 (s.cause 2 0x07 (s.boundInfo a))) := by
  obtain ⟨dest, source⟩ := State.full_pair.1 full
  rw [exec_movak]
  refine State.issueOp_late on rfl ?_ ?_
  · rw [State.waitDest_of_full dest, State.waitRegs_full.2 source]
    rfl
  · rw [State.check_some bound, firstOf_some, State.boundInfo]

/-- NOTSINGLE of MOVKA (R188). -/
theorem movka_notSingle (on : s.guard4 g = true) (many : domMember? (s.k a) = none) (full : s.full [aRef r, kRef a] = true) :
    exec (.movka g r a) s = .next (s.trapped 4 (s.cause 2 0x08 (regInfo .k a.toNat))) := by
  rw [exec_movka]
  refine State.issueOp_late on rfl (State.noWait_of_full full) ?_
  rw [many, Option.isNone_none, State.check_some rfl, firstOf_some]

/-- ARMUNKNOWN (R185): the predicate is looked at before the buffer. -/
theorem arm_unknown {p : BitVec 7} {f : BitVec 1} (unknown : s.p p = predU) :
    exec (.arm buf p f) s = .next (s.trapped 4 (s.cause 2 0x0C (armInfo buf .p p.toNat))) := by
  rw [exec_arm]
  refine State.issueOp_late rfl rfl rfl ?_
  rw [State.check_some (decide_eq_true unknown), firstOf_some]

/-- TXEMPTY of ARM (R124). -/
theorem arm_empty {p : BitVec 7} {f : BitVec 1} (empty : (s.buf buf).st = .empty) (known : s.p p ≠ predU) :
    exec (.arm buf p f) s = .next (s.trapped 4 (s.cause 2 0x0D (regInfo .b buf.toNat))) := by
  rw [exec_arm]
  refine State.issueOp_late rfl rfl rfl ?_
  rw [decide_eq_false known, State.check_false, firstOf_none, State.bufEmpty, State.check_some (decide_eq_true empty), firstOf_some]

/-- NONUNIFORM (R185). -/
theorem armm_nonuniform {m : BitVec 4} (nonzero : s.m m ≠ 0) (notAll : s.m m ≠ BitVec.allOnes 64) :
    exec (.armm buf m) s = .next (s.trapped 4 (s.cause 2 0x0B (armInfo buf .m m.toNat))) := by
  rw [exec_armm]
  refine State.issueOp_late rfl rfl rfl ?_
  rw [State.check_some (by rw [Bool.and_eq_true, decide_eq_true_eq, decide_eq_true_eq]; exact ⟨nonzero, notAll⟩), firstOf_some]

/-- ILLEGAL of a MOVG of a register that none may write (R192, R309). -/
theorem movg_illegal (on : s.guard4 g = true) (full : s.full [aRef r] = true) (illegal : sysWrites n = false) :
    exec (.movg g r n) s = .next (s.trapped 4 (s.cause 2 0x10 (BitVec.ofNat 64 (6 * 2 ^ 56 + n.toNat)))) := by
  rw [exec_movg]
  unfold execMovg
  refine State.issueOp_late on rfl (State.noWait_of_full full) ?_
  rw [illegal, Bool.not_false, State.sysIllegal, State.check_some rfl, firstOf_some]

/-- RANGE of a PBUDGET of 0 (R192). -/
theorem movg_pbudget_zero (on : s.guard4 g = true) (full : s.full [aRef r] = true) (zero : s.a r = 0) :
    exec (.movg g r 0x010) s = .next (s.trapped 4 (s.cause 2 0x09 (s.a r))) := by
  have written : sysWrites 0x010 = true := by decide
  rw [exec_movg]
  unfold execMovg
  refine State.issueOp_late on rfl (State.noWait_of_full full) ?_
  rw [written, Bool.not_true, State.sysIllegal, State.check_false, firstOf_none, State.check_some (by simp [zero]), firstOf_some]

end

/-! ### The memory slot -/

section
variable {g : BitVec 4} {r b : BitVec 5}

/-- RANGE of a scratchpad load (R219, R230). -/
theorem ldsA_range {w : BitVec 11} (on : s.guard4 g = true) (full : s.full [aRef r, aRef b] = true)
    (bad : s.issue.scrSize < s.scrOff b w 8 + 8 ∨ s.scrOff b w 8 % 8 ≠ 0) :
    exec (.ldsA g r b w) s = .next (s.trapped 4 (s.cause 5 0x09 (BitVec.ofNat 64 (s.scrOff b w 8)))) := by
  obtain ⟨dest, base⟩ := State.full_pair.1 full
  rw [exec_ldsA]
  unfold execLdsA State.lds
  refine State.issueOp_late on rfl ?_ ?_
  · rw [State.waitRegs_full.2 base, State.waitDest_of_full dest]
    rfl
  · rw [State.scrCheck, State.check_some (by simpa using bad), firstOf_some]

/-- ALIGN of a global load (R230, R324). -/
theorem ldgA_align {o : BitVec 3} {f : BitVec 8} (on : s.guard4 g = true) (full : s.full [aRef r, aRef b] = true)
    (odd : (s.gva b f.toNat 8).toNat % 8 ≠ 0) : exec (.ldgA g r b o f) s =
      .next (s.trapped 4 (s.sysCause 5 0x23 0 ((s.gva b f.toNat 8).zeroExtend 64) ((s.gva b f.toNat 8).zeroExtend 64) 0)) := by
  obtain ⟨dest, base⟩ := State.full_pair.1 full
  rw [exec_ldgA]
  unfold execLdgA State.ldg
  refine State.issueOp_late on rfl ?_ ?_
  · rw [State.waitRegs_full.2 base, if_neg Bool.false_ne_true, State.waitDest_of_full dest]
    rfl
  · rw [State.gAlign, if_pos odd, firstOf_some]
    rfl

end

/-- Settles O48: each clause by the lemma of its form, from the registers that are full. -/
theorem issueTrapResults : Obligations.IssueTrapResults := by
  unfold Obligations.IssueTrapResults
  intro s g d a b r t f h i n buf p m o w trap boundInfo on off va
  refine ⟨?assign, ?movak, ?post, ?single, ?ckpt, ?roll, arm_unknown, armm_nonuniform, arm_empty, ?illegal, ?pbudget, ?lds, ?ldg⟩
  case assign =>
    rintro ⟨on, full⟩ bound
    have dest : s.full [kRef d] = true := State.full_of_subset full (by simp)
    have one : s.full [kRef d, kRef a] = true := State.full_of_subset full (by simp)
    have two : s.full [kRef d, kRef a, kRef b] = true := State.full_of_subset full (by simp)
    simp only [List.forall_mem_cons]
    exact ⟨intAssign_boundWrite on bound (exec_add ..) two, intAssign_boundWrite on bound (exec_sub ..) two,
      intAssign_boundWrite on bound (exec_mul ..) two, intAssign_boundWrite on bound (exec_min ..) two,
      intAssign_boundWrite on bound (exec_max ..) two, intAssign_boundWrite on bound (exec_and ..) two,
      intAssign_boundWrite on bound (exec_or ..) two, intAssign_boundWrite on bound (exec_xor ..) two,
      intAssign_boundWrite on bound (exec_shl ..) two, intAssign_boundWrite on bound (exec_shr ..) two,
      intAssign_boundWrite on bound (exec_sar ..) two, intAssign_boundWrite on bound (exec_dset ..) two,
      intAssign_boundWrite on bound (exec_abs ..) one, intAssign_boundWrite on bound (exec_neg ..) one,
      intAssign_boundWrite on bound (exec_mov ..) one, intAssign_boundWrite on bound (exec_addi ..) one,
      intAssign_boundWrite on bound (exec_muli ..) one, intAssign_boundWrite on bound (exec_dlo ..) one,
      intAssign_boundWrite on bound (exec_dhi ..) one, intAssign_boundWrite on bound (exec_dsize ..) one,
      intAssign_boundWrite on bound (exec_dmid ..) one, intAssign_boundWrite on bound (exec_dfull ..) dest,
      List.forall_mem_nil _⟩
  case movak =>
    rintro ⟨on, full⟩ bound
    exact movak_boundWrite on bound (State.full_of_subset full (by simp))
  case post =>
    rintro ⟨on, full⟩ filled
    have three : s.full [kRef d, kRef a, kRef b] = true := State.full_of_subset full (by simp)
    have two : s.full [kRef d, kRef a] = true := State.full_of_subset full (by simp)
    have pair : s.full [kRef a, kRef b] = true := State.full_of_subset full (by simp)
    have one : s.full [kRef a] = true := State.full_of_subset full (by simp)
    simp only [List.forall_mem_cons]
    exact ⟨intPost_storeFull on filled (exec_addP ..) three, intPost_storeFull on filled (exec_subP ..) three,
      intPost_storeFull on filled (exec_mulP ..) three, intPost_storeFull on filled (exec_minP ..) three,
      intPost_storeFull on filled (exec_maxP ..) three, intPost_storeFull on filled (exec_absP ..) two,
      intPost_storeFull on filled (exec_negP ..) two, intPost_storeFull on filled (exec_movP ..) two,
      intPost_storeFull on filled (exec_addiP ..) two, intPost_storeFull on filled (exec_muliP ..) two,
      intPost_storeFull on filled (exec_eqP ..) pair, intPost_storeFull on filled (exec_neP ..) pair,
      intPost_storeFull on filled (exec_ltP ..) pair, intPost_storeFull on filled (exec_leP ..) pair,
      intPost_storeFull on filled (exec_eqiP ..) one, intPost_storeFull on filled (exec_neiP ..) one,
      intPost_storeFull on filled (exec_ltiP ..) one, intPost_storeFull on filled (exec_leiP ..) one,
      intPost_storeFull on filled (exec_gtiP ..) one, intPost_storeFull on filled (exec_geiP ..) one,
      List.forall_mem_nil _⟩
  case single =>
    rintro ⟨on, full⟩ many
    have named : s.full [kRef d, kRef a, kRef b] = true := State.full_of_subset full (by simp)
    exact ⟨intDivide_notSingle on many (exec_div ..) named, intDivide_notSingle on many (exec_rem ..) named,
      movka_notSingle on many (State.full_of_subset full (by simp))⟩
  case ckpt =>
    intro on deep
    exact issueOp_ckptDepth on (decide_eq_true deep) (exec_ckpt ..)
  case roll =>
    intro on noneOpen
    have empty : s.issue.swage.ckpts.isEmpty = true := by rw [noneOpen, List.isEmpty_nil]
    have depth : (BitVec.ofNat 64 s.issue.swage.ckpts.length : W64) = 0 := by rw [noneOpen, List.length_nil]; rfl
    have roll := issueOp_ckptDepth on empty (exec_roll g s)
    have commit := issueOp_ckptDepth on empty (exec_commit g s)
    rw [depth] at roll commit
    exact ⟨roll, commit⟩
  case illegal =>
    rintro ⟨on, full⟩ illegal
    exact movg_illegal on (State.full_of_subset full (by simp)) illegal
  case pbudget =>
    rintro ⟨on, full⟩ zero
    exact movg_pbudget_zero on (State.full_of_subset full (by simp)) zero
  case lds =>
    rintro ⟨on, full⟩ bad
    exact ldsA_range on (State.full_of_subset full (by simp)) bad
  case ldg =>
    rintro ⟨on, full⟩ odd
    exact ldgA_align on (State.full_of_subset full (by simp)) odd

end Sys2Proof.Machine
end

section
/-! PROOFS. Outstanding accesses, divisions and indexed scratchpad accesses where nothing holds them back (R116, R164, R218, R220, R249, R326): each
event takes the one branch that its hypotheses leave. The theorem settles O37. -/

namespace Sys2Proof.Machine

section
variable {s : State} {uid id : Nat} {c : Context} {a : Acc} {ps : List (Nat × Nat)}

/-- What an access whose places are found comes to: t, or its failure where its data cannot be had (R326, R344, R348). -/
def State.accOutcome (s : State) (uid : Nat) (c : Context) (a : Acc) (ps : List (Nat × Nat)) (t : State) : Out :=
  match s.accFault c a ps with
  | some (code, reason, info, va) => .next (s.failAccess uid a code reason info va)
  | none => .next t

/-- The two clauses of an access event are its outcome. -/
theorem accOutcome_clauses {i : Instr} {t : State} (means : exec i s = s.accOutcome uid c a ps t) :
    (s.accFault c a ps = none → exec i s = .next t) ∧
    ∀ code reason info va, s.accFault c a ps = some (code, reason, info, va) → exec i s = .next (s.failAccess uid a code reason info va) := by
  refine ⟨fun sound => ?_, fun code reason info va fails => ?_⟩
  · rw [means, State.accOutcome, sound]
  · rw [means, State.accOutcome, fails]

/-- A load or an atomic of a context that takes late values comes to its outcome (R116, R222, R249). -/
theorem execLoadLanding_outcome (found : s.ctx? uid = some c) (out : c.acc? id = some a) (waiting : a.phase = .waiting)
    (notHeld : c.mem.holds a = false) (free : s.accHeld uid c a ps = false) (places : s.accPlaces uid c a = some ps) (awake : c.awake = true)
    (reads : a.op.reads = true) (settled : c.midWake a = false) : execLoadLanding uid id s = s.accOutcome uid c a ps
      (if a.op.loads then s.performLoad uid c a ps else s.hideFrom (s.performLoad uid c a ps) uid a ps) := by
  simp only [execLoadLanding, found, out, awake, reads, waiting, settled, notHeld, places, free] <;> rfl

/-- A write of a context whose writes drain comes to its outcome (R218, R249). -/
theorem execWriteDrained_outcome (found : s.ctx? uid = some c) (out : c.acc? id = some a) (waiting : a.phase = .waiting)
    (notHeld : c.mem.holds a = false) (free : s.accHeld uid c a ps = false) (places : s.accPlaces uid c a = some ps) (drains : c.drains = true)
    (writes : a.op.reads = false) (sized : a.op.size ≠ 0) :
    execWriteDrained uid id s = s.accOutcome uid c a ps (s.hideFrom (s.performWrite uid c a ps) uid a ps) := by
  simp only [execWriteDrained, found, out, drains, writes, sized, waiting, notHeld, places, free] <;> rfl

end

/-- Settles O37: accesses by their outcome, a division by its result, a scatter or a gather by its index and the poison that it has read. -/
theorem accessEventResults : Obligations.AccessEventResults := by
  unfold Obligations.AccessEventResults
  intro s uid id c a ps found at_ tagged ends
  refine ⟨?load, ?write, ?division, ?scatter⟩
  case load =>
    rintro ⟨out, waiting, notHeld, free, places⟩ awake reads settled
    exact accOutcome_clauses (execLoadLanding_outcome found out waiting notHeld free places awake reads settled)
  case write =>
    rintro ⟨out, waiting, notHeld, free, places⟩ drains writes sized
    exact accOutcome_clauses (execWriteDrained_outcome found out waiting notHeld free places drains writes sized)
  case division =>
    intro d listed gone
    rw [exec_divRemWrite, execDivRemWrite, found]
    simp only [listed] <;> rfl
  case scatter =>
    intro x listed gone full
    refine ⟨fun i scatters => ?_, fun gathers sound => ?_, fun o gathers poisoned => ?_⟩
    · rw [exec_scatterGatherDone, execScatterGatherDone, found]
      simp only [listed, scatters] <;> rfl
    · rw [exec_scatterGatherDone, execScatterGatherDone, found]
      simp only [listed, gathers, sound] <;> rfl
    · rw [exec_scatterGatherDone, execScatterGatherDone, found]
      simp only [listed, gathers, poisoned] <;> rfl

end Sys2Proof.Machine
end

section
/-! PROOFS. Outcomes of a slot operation (R115, R303): every operation of slots 1 to 7 is a guarded one, which ends in one of five ways, and what its
own effect reaches is said once for each shared form; slot 0 is the same with its tail bits. The theorem settles O54. -/

namespace Sys2Proof.Machine

/-! ### The outcomes -/

section
variable {s t u : State} {n : Nat}

/-- An operation of slot n, issued in s, has ended in t: it had no effect, which only a guarded one can have; it performed; it waits; or the bundle
traps before the wait or after it. -/
def State.Ends (s : State) (n : Nat) (t : State) : Prop :=
  (t.verdict = .idle ∧ n ≠ 0 ∧ t = s.passed) ∨ t.verdict = .performed ∨ (∃ k, t.verdict = .waits k) ∨
    ∃ k x, (k = 2 ∨ k = 4) ∧ t.verdict = .trapped k ∧ t.live = s.issue.takeTrap s.core s.mcc x (.at_ s.issue.flow.pc) ∧
      (n ≠ 0 → t = s.trapped k x)

theorem State.ends_performed (s v : State) (n : Nat) : s.Ends n (v.judge .performed) := .inr (.inl rfl)

theorem State.ends_waits (s v : State) (n k : Nat) : s.Ends n (v.judge (.waits k)) := .inr (.inr (.inl ⟨k, rfl⟩))

theorem State.ends_trapped {k : Nat} (stage : k = 2 ∨ k = 4) (s : State) (n : Nat) (x : Cause) : s.Ends n (s.issueTrap k x) :=
  .inr (.inr (.inr ⟨k, x, stage, rfl, rfl, fun _ => s.issueTrap_eq k x⟩))

/-- The same state but for the live context and the verdict. -/
def State.SameButLive (s t : State) : Prop := t = { s with live := t.live, verdict := t.verdict }

/-- What slots 5 to 7 leave to the events of their accesses is the same. -/
def State.SameMemory (s t : State) : Prop :=
  t.mem = s.mem ∧ t.poison = s.poison ∧ t.ctxs = s.ctxs ∧ t.gangs = s.gangs ∧ t.faults = s.faults ∧ t.errors = s.errors ∧
    t.issue = s.issue

theorem State.SameButLive.memory (same : s.SameButLive t) : s.SameMemory t := by
  rw [State.SameButLive] at same
  rw [same]
  exact ⟨rfl, rfl, rfl, rfl, rfl, rfl, rfl⟩

/-- The outcome is that of a guarded operation whose own effect keeps a relation to the state. -/
def Guarded (s : State) (keeps : State → State → Prop) (o : Out) : Prop :=
  ∃ runs early waits late act, o = s.issueOp runs early waits late act ∧ keeps s ((act s).judge .performed)

theorem guarded_issueOp {keeps : State → State → Prop} {runs : Bool} {early late : List (Option Cause)} {waits : List (Option Nat)}
    {act : State → State} (kept : keeps s ((act s).judge .performed)) : Guarded s keeps (s.issueOp runs early waits late act) :=
  ⟨_, _, _, _, _, rfl, kept⟩

/-- A guarded operation ends in one of the five ways, and where it does not perform, it changes at most the live context. -/
theorem Guarded.ends {keeps : State → State → Prop} {o : Out} (guarded : Guarded s keeps o) (slot : n ≠ 0)
    (live : ∀ t, s.SameButLive t → keeps s t) : ∃ t, o = .next t ∧ s.Ends n t ∧ keeps s t := by
  obtain ⟨runs, early, waits, late, act, rfl, kept⟩ := guarded
  rcases State.issueOp_cases (rfl : s.issueOp runs early waits late act = _) with
    ⟨-, idle⟩ | ⟨-, x, -, traps⟩ | ⟨-, -, k, -, holds⟩ | ⟨-, -, -, x, -, traps⟩ | ⟨-, -, -, -, performs⟩
  · exact ⟨_, idle, .inl ⟨rfl, slot, rfl⟩, live _ rfl⟩
  · exact ⟨_, traps, s.ends_trapped (.inl rfl) n x, live _ rfl⟩
  · exact ⟨_, holds, s.ends_waits s n k, live _ rfl⟩
  · exact ⟨_, traps, s.ends_trapped (.inr rfl) n x, live _ rfl⟩
  · exact ⟨_, performs, s.ends_performed _ n, kept⟩

theorem Guarded.memory {o : Out} (guarded : Guarded s State.SameButLive o) : Guarded s State.SameMemory o := by
  obtain ⟨runs, early, waits, late, act, rfl, kept⟩ := guarded
  exact guarded_issueOp kept.memory

end

/-- The outcome is that of a guarded operation whose own effect is on the live context alone. -/
abbrev OnLive (s : State) : Out → Prop := Guarded s State.SameButLive

/-! ### Slots 1 to 4 -/

section
variable {s : State}

theorem onLive_intAssign {g : BitVec 4} {d : BitVec 6} {srcs : List (BitVec 6 × BitVec 1)} {x : Option Dom} : OnLive s (s.intAssign g d srcs x) :=
  guarded_issueOp rfl

theorem onLive_intPred {g : BitVec 4} {d : BitVec 6} {srcs : List (BitVec 6 × BitVec 1)} {x : BitVec 2} : OnLive s (s.intPred g d srcs x) :=
  guarded_issueOp rfl

theorem onLive_intNarrow {g : BitVec 4} {rel : Rel} {ds : List (BitVec 6)} {srcs : List (BitVec 6 × BitVec 1)} :
    OnLive s (s.intNarrow g rel ds srcs) :=
  guarded_issueOp rfl

theorem onLive_intPost {g : BitVec 4} {rel : Rel} {ds : List (BitVec 6)} {srcs : List (BitVec 6 × BitVec 1)} : OnLive s (s.intPost g rel ds srcs) :=
  guarded_issueOp rfl

theorem onLive_intDivide {g : BitVec 4} {d a b : BitVec 6} {f h : BitVec 1} {op : Int → Int → Int} : OnLive s (s.intDivide g d a b f h op) := by
  unfold State.intDivide
  exact guarded_issueOp rfl

theorem onLive_int {i : Instr} (slot : slotOf i = some 1) : OnLive s (exec i s) := by
  cases i
  all_goals cases slot
  all_goals unfold exec
  case nopInt | ckpt | roll | commit => exact guarded_issueOp (by rfl)
  case addN | subN | mulN | minN | maxN | absN | negN | movN | addiN | muliN | eqN | neN | ltN | leN | eqiN | neiN | ltiN | leiN | gtiN | geiN =>
    exact onLive_intNarrow
  case addP | subP | mulP | minP | maxP | absP | negP | movP | addiP | muliP | eqP | neP | ltP | leP | eqiP | neiP | ltiP | leiP | gtiP | geiP =>
    exact onLive_intPost
  case eq | ne | lt | le | eqi | nei | lti | lei | gti | gei | single => exact onLive_intPred
  case div | rem => exact onLive_intDivide
  all_goals exact onLive_intAssign

theorem onLive_adrWrite {g : BitVec 4} {d : BitVec 5} {srcs : List (BitVec 5)} {x : W64} : OnLive s (s.adrWrite g d srcs x) := guarded_issueOp rfl

theorem onLive_adrMask {g d : BitVec 4} {srcs : List (BitVec 5)} {x : W64} : OnLive s (s.adrMask g d srcs x) := guarded_issueOp rfl

theorem onLive_adr {i : Instr} (slot : slotOf i = some 2) : OnLive s (exec i s) := by
  cases i
  all_goals cases slot
  all_goals unfold exec
  case nopAdr | cmpa | cmpai | plogic | pset | arm | armm | movka | movak | ldelta | movs => exact guarded_issueOp (by rfl)
  case movg =>
    unfold execMovg
    exact guarded_issueOp rfl
  case mlogic | mfill | mfromp => exact onLive_adrMask
  all_goals exact onLive_adrWrite

theorem onLive_vecOp {runs : Bool} {ds : List RegRef} {srcs : List (RegRef × BitVec 1)} {act : State → State}
    (live : s.SameButLive ((act s).judge .performed)) : OnLive s (s.vecOp runs ds srcs act) := guarded_issueOp live

theorem onLive_vecLanes {g : BitVec 5} {lat : Nat} {d : BitVec 6} {srcs : List (BitVec 6 × BitVec 1)} {x : Nat → W32} :
    OnLive s (s.vecLanes g lat d srcs x) := onLive_vecOp rfl

theorem onLive_vec1 {g : BitVec 5} {lat : Nat} {d a : BitVec 6} {f : BitVec 1} {op : W32 → W32} : OnLive s (s.vec1 g lat d a f op) :=
  onLive_vecLanes

theorem onLive_vec2 {g : BitVec 5} {lat : Nat} {d a b : BitVec 6} {f h : BitVec 1} {op : W32 → W32 → W32} :
    OnLive s (s.vec2 g lat d a b f h op) :=
  onLive_vecLanes

theorem onLive_vecCmp {g : BitVec 5} {lat : Nat} {d : BitVec 4} {a b : BitVec 6} {f h : BitVec 1} {op : W32 → W32 → Bool} :
    OnLive s (s.vecCmp g lat d a b f h op) := onLive_vecOp rfl

theorem onLive_vecReduce {g : BitVec 5} {d a : BitVec 6} {f : BitVec 1} {op : List W32 → W32} : OnLive s (s.vecReduce g d a f op) :=
  onLive_vecOp rfl

theorem onLive_vec {i : Instr} (slot : slotOf i = some 3) : OnLive s (exec i s) := by
  cases i
  all_goals cases slot
  all_goals unfold exec
  case nopVec | vcvtn | vcvtw => exact guarded_issueOp (by rfl)
  case vbck =>
    unfold execVbck
    exact guarded_issueOp rfl
  case vcvtFi | vpkbf | vsel | vbca | vext | vins => exact onLive_vecOp (by rfl)
  case vfmaF | vfmsF | vperm | viota => exact onLive_vecLanes
  case vabsF | vnegF | vrcpF | vrsqF | vexp2F | vlog2F | vcvtIf | vunbf | vmov => exact onLive_vec1
  case vcmpeqF | vcmpltF | vcmpleF | vcmpeqI | vcmpltI => exact onLive_vecCmp
  case vsumx | vmaxr | vminr | vsumi => exact onLive_vecReduce
  all_goals exact onLive_vec2

theorem onLive_ivlOp {runs : Bool} {rs : List RegRef} {act : State → State} (live : s.SameButLive ((act s).judge .performed)) :
    OnLive s (s.ivlOp runs rs act) := guarded_issueOp live

theorem onLive_ivlLanes {g : BitVec 5} {lat : Nat} {d : BitVec 5} {srcs : List RegRef} {x : Nat → Lane} : OnLive s (s.ivlLanes g lat d srcs x) :=
  onLive_ivlOp rfl

theorem onLive_ivl1 {g : BitVec 5} {lat : Nat} {d a : BitVec 5} {op : QOp} : OnLive s (s.ivl1 g lat d a op) := onLive_ivlLanes

theorem onLive_ivl2 {g : BitVec 5} {lat : Nat} {d a b : BitVec 5} {op : QOp} : OnLive s (s.ivl2 g lat d a b op) := onLive_ivlLanes

theorem onLive_ivlHalf {g d a : BitVec 5} {h : BitVec 1} {pos : Nat} : OnLive s (s.ivlHalf g d a h pos) := onLive_ivlOp rfl

theorem onLive_contractor {g : BitVec 5} {lat : Nat} {op : COp} {d a b c : BitVec 5} : OnLive s (s.contractor g lat op d a b c) := onLive_ivlOp rfl

/-- QBIS puts one half or two, on the way either way. -/
theorem onLive_qbis {g d a : BitVec 5} : OnLive s (execQbis g d a s) := by
  refine onLive_ivlOp ?_
  dsimp only
  split <;> rfl

theorem onLive_ivl {i : Instr} (slot : slotOf i = some 4) : OnLive s (exec i s) := by
  cases i
  all_goals cases slot
  all_goals unfold exec
  case nopIvl => exact guarded_issueOp (by rfl)
  case qbis => exact onLive_qbis
  case qcmp | qtest | qstat => exact onLive_ivlOp (by rfl)
  case qsqr | qsqrt | qrelu | qneg | qabs | qexp | qmid | qwid => exact onLive_ivl1
  case qadd | qsub | qmul | qdiv | qmax | qmin | qmeet | qhull => exact onLive_ivl2
  case qlo | qhi => exact onLive_ivlHalf
  case qfma | qmake | qpoint | qent | qemp | qbca => exact onLive_ivlLanes
  all_goals exact onLive_contractor

end

/-! ### Slots 5 to 7 -/

section
variable {s : State}

/-- A scratchpad load puts its bytes on the way, or the word whose mark it has read. -/
theorem onLive_lds {g : BitVec 4} {r : RegRef} {b : BitVec 5} {f : BitVec 11} {n align : Nat} {late : List (Option Cause)} {eff : Nat → Eff} :
    OnLive s (s.lds g r b f n align late eff) := by
  unfold State.lds
  refine guarded_issueOp ?_
  split <;> rfl

theorem onLive_sts {g : BitVec 4} {r : RegRef} {b : BitVec 5} {f : BitVec 11} {n align data : Nat} : OnLive s (s.sts g r b f n align data) := by
  unfold State.sts
  exact guarded_issueOp rfl

theorem onLive_ldg {g : BitVec 4} {r : RegRef} {b : BitVec 5} {o : BitVec 3} {va : BitVec 57} {align : Nat} {late : List (Option Cause)}
    {keeps empties : Bool} {op : AccOp} : OnLive s (s.ldg g r b o va align late keeps empties op) := guarded_issueOp rfl

theorem onLive_stg {g : BitVec 4} {r : RegRef} {b : BitVec 5} {o : BitVec 3} {va : BitVec 57} {align n data : Nat} :
    OnLive s (s.stg g r b o va align n data) := guarded_issueOp rfl

theorem onLive_atomic {g : BitVec 4} {d b : BitVec 5} {src : Option (BitVec 5)} {o : BitVec 3} {align : Nat} {op : BitVec 3} :
    OnLive s (s.atomic g d b src o align op) := by
  unfold State.atomic
  exact guarded_issueOp rfl

theorem onLive_xaWrite {g : BitVec 4} {b : BitVec 5} {srcs : List RegRef} {late : List (Option Cause)} {kind : Nat} {op : AccOp} :
    OnLive s (s.xaWrite g b srcs late kind op) := by
  unfold State.xaWrite
  exact guarded_issueOp rfl

theorem onLive_fence {g : BitVec 4} {kind : BitVec 2} {scope : BitVec 3} : OnLive s (s.fence g kind scope) := guarded_issueOp rfl

/-- CBINV touches translation alone (R226, R262). -/
theorem sameMemory_cbinv {g : BitVec 4} {b : BitVec 5} : Guarded s State.SameMemory (execCbinv g b s) := by
  refine guarded_issueOp ?_
  dsimp only
  split <;> exact ⟨rfl, rfl, rfl, rfl, rfl, rfl, rfl⟩

theorem sameMemory_mem {i : Instr} (slot : slotOf i = some 5) : Guarded s State.SameMemory (exec i s) := by
  cases i
  all_goals cases slot
  all_goals unfold exec
  case cbinv => exact sameMemory_cbinv
  case pop | popr => exact guarded_issueOp ⟨rfl, rfl, rfl, rfl, rfl, rfl, rfl⟩
  all_goals refine Guarded.memory ?_
  case nopMem | push | pushqw => exact guarded_issueOp (by rfl)
  case pusht =>
    unfold execPusht
    exact guarded_issueOp rfl
  case pushr =>
    unfold execPushr
    exact guarded_issueOp rfl
  case ldsVx =>
    unfold execLdsVx
    exact guarded_issueOp rfl
  case stsVx =>
    unfold execStsVx
    exact guarded_issueOp rfl
  case xrd =>
    unfold execXrd
    exact guarded_issueOp rfl
  case xrdv =>
    unfold execXrdv
    exact guarded_issueOp rfl
  case ldsV | ldsQ | ldsK | ldsA => exact onLive_lds
  case stsV | stsQ | stsK | stsA => exact onLive_sts
  case ldgA | ldgV | ldgK | ldgKN => exact onLive_ldg
  case stgA | stgV => exact onLive_stg
  case xadd | xaddv => exact onLive_xaWrite
  case xclr =>
    unfold execXclr
    exact onLive_xaWrite
  case fenceAcq | fenceRel | fenceFull => exact onLive_fence
  all_goals exact onLive_atomic

theorem onLive_accumulate {zero : Bool} {n : BitVec 7} {o : BitVec 5} {r : BitVec 9} {m : BitVec 2} {word : Nat} :
    OnLive s (s.accumulate zero n o r m word) := guarded_issueOp rfl

theorem onLive_drainRows {n : BitVec 7} {f32 : Bool} {fmt : W32} {check : List (Option Cause)} {r : BitVec 9} {m : BitVec 2} {e : BitVec 1} :
    OnLive s (s.drainRows n f32 fmt check r m e) := by
  unfold State.drainRows
  exact guarded_issueOp rfl

/-- CLAIM touches the owner of its core's Anvil besides (R233). -/
theorem sameMemory_claim {o : BitVec 5} {f : BitVec 4} : Guarded s State.SameMemory (execClaim o f s) := by
  unfold execClaim
  exact guarded_issueOp ⟨rfl, rfl, rfl, rfl, rfl, rfl, rfl⟩

/-- RELEASE touches the owner of its core's Anvil besides, where it releases the last slot (R234). -/
theorem sameMemory_release {o : BitVec 5} : Guarded s State.SameMemory (execRelease o s) := by
  unfold execRelease
  refine guarded_issueOp ?_
  dsimp only
  split
  · split <;> exact ⟨rfl, rfl, rfl, rfl, rfl, rfl, rfl⟩
  · exact ⟨rfl, rfl, rfl, rfl, rfl, rfl, rfl⟩

theorem sameMemory_mtx {i : Instr} (slot : slotOf i = some 6) : Guarded s State.SameMemory (exec i s) := by
  cases i
  all_goals cases slot
  all_goals unfold exec
  case claim => exact sameMemory_claim
  case release => exact sameMemory_release
  all_goals refine Guarded.memory ?_
  case acc | accz => exact onLive_accumulate
  case drain | drainF32 => exact onLive_drainRows
  all_goals exact guarded_issueOp (by rfl)

section
variable {t : BitVec 6} {d r l : BitVec 5} {dc : Bool}

theorem onLive_cg2s : OnLive s (s.cg2s t d r l dc) := by
  unfold State.cg2s
  exact guarded_issueOp rfl

theorem onLive_cs2g : OnLive s (s.cs2g t d r l dc) := by
  unfold State.cs2g
  exact guarded_issueOp rfl

theorem onLive_cg2g : OnLive s (s.cg2g t d r l dc) := by
  unfold State.cg2g
  exact guarded_issueOp rfl

theorem onLive_cxred : OnLive s (s.cxred t d r l dc) := by
  unfold State.cxred
  exact guarded_issueOp rfl

theorem onLive_setEntry {op : Nat} {bad : BitVec 2 → Bool} {st : BitVec 2} : OnLive s (s.setEntry op t l bad st) := guarded_issueOp rfl

end

theorem onLive_cpy {i : Instr} (slot : slotOf i = some 7) : OnLive s (exec i s) := by
  cases i
  all_goals cases slot
  all_goals unfold exec
  case cg2s | cg2sDc => exact onLive_cg2s
  case cs2g | cs2gDc => exact onLive_cs2g
  case cg2g | cg2gDc => exact onLive_cg2g
  case cxred | cxredDc => exact onLive_cxred
  case tset | tdrain => exact onLive_setEntry
  case cg2o =>
    unfold execCg2o
    exact guarded_issueOp rfl
  case cs2o =>
    unfold execCs2o
    exact guarded_issueOp rfl
  case gather =>
    unfold execGather
    exact guarded_issueOp rfl
  all_goals exact guarded_issueOp (by rfl)

end

/-! ### Slot 0 -/

section
variable {s u : State} {e y x : BitVec 1} {t : BitVec 2}

/-- An operation of slot 0, issued in s, has one of the outcomes of its slot. -/
def State.EndsCtl (s : State) (o : Out) : Prop := ∃ t, o = .next t ∧ s.Ends 0 t

/-- A CTL operation has no guard, so it never passes without effect (R140). -/
theorem State.ctlOp_ends {waits : List (Option Nat)} {late : List (Option Cause)} {act : State → State} :
    s.EndsCtl (s.ctlOp e y x t waits late act) := by
  rcases State.issueOp_cases (rfl : s.ctlOp e y x t waits late act = _) with
    ⟨unguarded, -⟩ | ⟨-, k, finds, -⟩ | ⟨-, -, k, -, holds⟩ | ⟨-, -, -, k, -, traps⟩ | ⟨-, -, -, -, performs⟩
  · cases unguarded
  · cases finds
  · exact ⟨_, holds, s.ends_waits s 0 k⟩
  · exact ⟨_, traps, s.ends_trapped (.inr rfl) 0 k⟩
  · exact ⟨_, performs, s.ends_performed _ 0⟩

/-- The walk of a domain table changes nothing that an outcome speaks of. -/
theorem State.EndsCtl.of_walks {o : Out} (walked : s.SameButWalks u) (ends : u.EndsCtl o) : s.EndsCtl o := by
  obtain ⟨_, _, _, rfl⟩ := walked
  obtain ⟨t, next, ⟨-, slot, -⟩ | performs | holds | ⟨k, x, stage, traps, live, -⟩⟩ := ends
  · exact absurd rfl slot
  · exact ⟨t, next, .inr (.inl performs)⟩
  · exact ⟨t, next, .inr (.inr (.inl holds))⟩
  · exact ⟨t, next, .inr (.inr (.inr ⟨k, x, stage, traps, live, fun slot => absurd rfl slot⟩))⟩

/-- An operation on a named domain waits or traps, in the state that its walk leaves, or goes on there. -/
theorem State.withDomain_ends {aq : W64} {peerOk : Bool} {waits : List (Option Nat)} {go : State → Nat → Nat → Out}
    (goes : ∀ u key va, s.SameButWalks u → s.EndsCtl (go u key va)) : s.EndsCtl (s.withDomain x t aq peerOk waits go) := by
  unfold State.withDomain
  split
  · exact ⟨_, rfl, s.ends_waits s 0 _⟩
  · dsimp only
    split
    · exact ⟨_, rfl, s.ends_trapped (.inr rfl) 0 _⟩
    · have walked := s.nameDomain_frame (s.issue.asks s.uid) aq.toNat
      split
      · exact ⟨_, rfl, s.ends_waits _ 0 10⟩
      · rename_i u code reason unit va named
        rw [named] at walked
        exact State.EndsCtl.of_walks walked ⟨_, rfl, u.ends_trapped (.inr rfl) 0 _⟩
      · rename_i u key va named
        rw [named] at walked
        split
        · exact State.EndsCtl.of_walks walked ⟨_, rfl, u.ends_trapped (.inr rfl) 0 _⟩
        · exact goes u key va walked

/-- A SYNC that arrives waits, any other is a CTL operation (R41, R145). -/
theorem execSync_ends {sc : BitVec 2} : s.EndsCtl (execSync e y x t sc s) := by
  unfold execSync
  dsimp only
  split
  · exact ⟨_, rfl, s.ends_waits _ 0 5⟩
  · exact State.ctlOp_ends

theorem exec_ctl_ends {i : Instr} (slot : slotOf i = some 0) : s.EndsCtl (exec i s) := by
  cases i
  all_goals cases slot
  all_goals unfold exec
  case sync => exact execSync_ends
  case qnew => exact State.withDomain_ends fun u key va walked => State.EndsCtl.of_walks walked State.ctlOp_ends
  case qwait => exact State.withDomain_ends fun u key va walked => State.EndsCtl.of_walks walked State.ctlOp_ends
  case loop =>
    unfold execLoop
    exact State.ctlOp_ends
  case loopi =>
    unfold execLoopi
    exact State.ctlOp_ends
  case spawn =>
    unfold execSpawn
    exact State.ctlOp_ends
  case waitte =>
    unfold execWaitte
    exact State.ctlOp_ends
  case rft =>
    unfold execRft
    exact State.ctlOp_ends
  all_goals exact State.ctlOp_ends

end

/-! ### Every slot -/

/-- An operation of slots 1 to 4 acts on the live context alone. -/
theorem onLive_exec {i : Instr} {s : State} {n : Nat} (slot : slotOf i = some n) (least : 1 ≤ n) (most : n ≤ 4) : OnLive s (exec i s) :=
  match n, slot with
  | 1, slot => onLive_int slot
  | 2, slot => onLive_adr slot
  | 3, slot => onLive_vec slot
  | 4, slot => onLive_ivl slot

/-- An operation of slots 5 to 7 leaves memory to its accesses' events. -/
theorem sameMemory_exec {i : Instr} {s : State} {n : Nat} (slot : slotOf i = some n) (least : 5 ≤ n) : Guarded s State.SameMemory (exec i s) :=
  match n, slot, slotOf_lt slot with
  | 5, slot, _ => sameMemory_mem slot
  | 6, slot, _ => sameMemory_mtx slot
  | 7, slot, _ => (onLive_cpy slot).memory

/-- Settles O54: slot 0 by its own outcomes, the others as guarded operations. -/
theorem slotOperationOutcomes : Obligations.SlotOperationOutcomes := by
  unfold Obligations.SlotOperationOutcomes
  intro i s n slot
  rcases Nat.eq_zero_or_pos n with rfl | least
  · obtain ⟨t, next, ends⟩ := exec_ctl_ends (s := s) slot
    exact ⟨t, next, fun h => absurd h (by decide), fun h => absurd h (by decide), ends⟩
  · rcases Nat.lt_or_ge 4 n with high | low
    · obtain ⟨t, next, ends, memory⟩ := (sameMemory_exec (s := s) slot high).ends (Nat.pos_iff_ne_zero.1 least) fun t live => live.memory
      exact ⟨t, next, fun _ h => absurd h (by omega), fun _ => memory, ends⟩
    · obtain ⟨t, next, ends, live⟩ := (onLive_exec (s := s) slot least low).ends (Nat.pos_iff_ne_zero.1 least) fun t live => live
      exact ⟨t, next, fun _ _ => live, fun h => absurd h (by omega), ends⟩

end Sys2Proof.Machine
end

section
/-! PROOFS. Results of the domain slot (R160 to R164, R168, R174, R176, R177). Each operation is the shared form that its equation names; here
`(… :)` elaborates the lemma of the form from the equation alone, and that its registers are those of the statement is then a computation. The
theorems settle O1, O2, O4, O5 and O6. -/

namespace Sys2Proof.Machine

/-- Settles O1: every assign form is the shared form, with the hull of its image. -/
theorem intAssignResults : Obligations.IntAssignResults := by
  unfold Obligations.IntAssignResults
  intro s g d a b f h i free fly two one
  exact ⟨(acts_intAssign (exec_add ..) :), (acts_intAssign (exec_sub ..) :), (acts_intAssign (exec_mul ..) :),
    (acts_intAssign (exec_min ..) :), (acts_intAssign (exec_max ..) :), (acts_intAssign (exec_abs ..) :),
    (acts_intAssign (exec_neg ..) :), (acts_intAssign (exec_mov ..) :), (acts_intAssign (exec_addi ..) :),
    (acts_intAssign (exec_muli ..) :), (acts_intAssign (exec_and ..) :), (acts_intAssign (exec_or ..) :),
    (acts_intAssign (exec_xor ..) :), (acts_intAssign (exec_shl ..) :), (acts_intAssign (exec_shr ..) :),
    (acts_intAssign (exec_sar ..) :), (acts_intAssign (exec_dlo ..) :), (acts_intAssign (exec_dhi ..) :),
    (acts_intAssign (exec_dsize ..) :), (acts_intAssign (exec_dmid ..) :), (acts_intAssign (exec_dset ..) :),
    (acts_intAssign (exec_dfull ..) :)⟩

/-- Settles O2: every comparison, and SINGLE, is the shared form with its verdict. -/
theorem intPredicateResults : Obligations.IntPredicateResults := by
  unfold Obligations.IntPredicateResults
  intro s g d a b f h i fly two one imm
  exact ⟨(acts_intPred (exec_eq ..) :), (acts_intPred (exec_ne ..) :), (acts_intPred (exec_lt ..) :), (acts_intPred (exec_le ..) :),
    (acts_intPred (exec_eqi ..) :), (acts_intPred (exec_nei ..) :), (acts_intPred (exec_lti ..) :), (acts_intPred (exec_lei ..) :),
    (acts_intPred (exec_gti ..) :), (acts_intPred (exec_gei ..) :), (acts_intPred (exec_single ..) :)⟩

/-- Settles O4: every post form is the shared form, with its relation. -/
theorem intPostResults : Obligations.IntPostResults := by
  unfold Obligations.IntPostResults
  intro s g d a b f h i room put three two pair one
  exact ⟨(acts_intPost (exec_addP ..) :), (acts_intPost (exec_subP ..) :), (acts_intPost (exec_mulP ..) :),
    (acts_intPost (exec_minP ..) :), (acts_intPost (exec_maxP ..) :),
    (acts_intPost (exec_absP ..) :), (acts_intPost (exec_negP ..) :), (acts_intPost (exec_movP ..) :),
    (acts_intPost (exec_addiP ..) :), (acts_intPost (exec_muliP ..) :),
    (acts_intPost (exec_eqP ..) :), (acts_intPost (exec_neP ..) :), (acts_intPost (exec_ltP ..) :), (acts_intPost (exec_leP ..) :),
    (acts_intPost (exec_eqiP ..) :), (acts_intPost (exec_neiP ..) :), (acts_intPost (exec_ltiP ..) :),
    (acts_intPost (exec_leiP ..) :), (acts_intPost (exec_gtiP ..) :), (acts_intPost (exec_geiP ..) :)⟩

/-! ### Division (R164) -/

section
variable {i : Instr} {s : State} {g : BitVec 4} {d a b : BitVec 6} {f h : BitVec 1} {op : Int → Int → Int} {x y : Int}

/-- A division under way: k[d] is empty, and its result, if it has one, is still to come. -/
def Context.dividing (c : Context) (d : BitVec 6) (result : Option W32) : Context :=
  { c with
    regs := c.regs.mark (kRef d) true
    mem := { c.mem with
      nextId := c.mem.nextId + 1
      divs := c.mem.divs ++ [{ id := c.mem.nextId, bclk := c.flow.bclk, off := c.flow.pc, d := d, result := result }] } }

/-- A division of singletons passes its checks, and its result is the one of their members. -/
theorem acts_intDivide (means : exec i s = s.intDivide g d a b f h op) :
    Acts i s (s.guard4 g) [kRef a, kRef b]
      (domMember? (s.k a) = some x ∧ domMember? (s.k b) = some y ∧ s.issue.swage.bound d = false ∧ s.takesK d)
      (s.performed fun c => c.dividing d (if y = 0 then none else some (BitVec.ofInt 32 (op x y)))) := by
  unfold State.intDivide at means
  refine ⟨fun on full ⟨dividend, divisor, unbound, takes⟩ => ?_, fun off => ?_⟩
  · refine means.trans ((State.issueOp_performs on (State.full_kSources (srcs := [(a, f), (b, h)]) full) ?_ ?_).trans ?_)
    · rw [State.waitRegs_full.2 full, State.waitDest_k.2 takes]
      rfl
    · simp [dividend, divisor, State.boundWrite, unbound]
    · simp only [dividend, divisor, Option.getD_some]
      rfl
  · rw [means, State.issueOp_idle off, State.judge_idle]

end

/-- Settles O5: both are the shared form, and the remainder of a truncating division is what its quotient leaves. -/
theorem divisionResults : Obligations.DivisionResults := by
  unfold Obligations.DivisionResults
  intro s g d a b f h x y ok put
  refine ⟨acts_intDivide (exec_div ..), ?_⟩
  have remainder := acts_intDivide (x := x) (y := y) (exec_rem g d a b f h s)
  rw [Int.tmod_def] at remainder
  exact remainder

/-! ### Checkpoints (R174, R176, R177) -/

/-- CKPTDEPTH where its condition holds, and nothing else before the effect. -/
theorem acts_checkpoint {i : Instr} {s : State} {g : BitVec 4} {bad : Bool} {ok : Prop} {e : Eff}
    (means : exec i s = s.issueOp (s.guard4 g) [] [] [s.ckptCheck bad] fun s => s.fly 1 1 e) (good : ok → bad = false) :
    Acts i s (s.guard4 g) [] ok (s.performed fun c => c.fly 1 1 e) :=
  acts_of_issueOp means rfl fun _ _ holds => ⟨rfl, rfl, by rw [State.ckptCheck, good holds, State.check_false]; rfl⟩

/-- Settles O6: each is checked for the number of checkpoints alone. -/
theorem checkpointResults : Obligations.CheckpointResults := by
  unfold Obligations.CheckpointResults
  intro s g n put
  have notEmpty (above : 0 < n) : s.issue.swage.ckpts.isEmpty = false :=
    List.isEmpty_eq_false_iff.2 (List.ne_nil_of_length_pos above)
  exact ⟨acts_checkpoint (exec_ckpt ..) fun below => decide_eq_false (Nat.not_le.2 below), acts_checkpoint (exec_roll ..) notEmpty,
    acts_checkpoint (exec_commit ..) notEmpty⟩

end Sys2Proof.Machine
end

section
/-! PROOFS. The control slot where an operation acts on its own context: budget, markers, waits, stops, traps and weight (R45, R143, R144, R146,
R148, R152, R155, R156). The theorems settle O32 and O35. -/

namespace Sys2Proof.Machine

section
variable {i : Instr} {s : State} {e y x : BitVec 1} {t : BitVec 2}

/-- A CTL operation that neither waits nor is checked, but for its tail bits. -/
theorem actsCtl_plain {ok : Prop} {act : State → State} {f : Context → Context} (means : exec i s = s.ctlOp e y x t [] [] act)
    (effect : ok → act s = s.mapLive f) : ActsCtl i s e y x t [] ok f :=
  acts_ctlOp means (fun _ _ => rfl) (fun _ => rfl) effect

/-! ### Budget, markers, waits, stops and traps (R143, R144, R146, R148, R155, R156) -/

/-- BUDGET (R143). -/
theorem actsCtl_budget {n : BitVec 21} : ActsCtl (.budget e y x t n) s e y x t [] True
    (fun c => c.fly 1 0 (.budget (if n = 0 then 0xFFFFFFFF else n.zeroExtend 32))) :=
  actsCtl_plain (exec_budget ..) fun _ => rfl

/-- TRAP (R156). -/
theorem actsCtl_trap {code : BitVec 16} : ActsCtl (.trap e y x t code) s e y x t [] True
    (fun c => c.fly 1 0 (.cause 0x13 (code.zeroExtend 64))) :=
  actsCtl_plain (exec_trap ..) fun _ => rfl

/-- A MARK that does not log (R144). -/
theorem actsCtl_mark {n : BitVec 21} : ActsCtl (.mark e y x t n) s e y x t [] (s.drifts n = false) id :=
  actsCtl_plain (exec_mark ..) fun quiet => if_neg (by simp [quiet])

/-- A MARK that logs its drift performs from the state that the log leaves (R144). -/
theorem exec_mark_logs {n : BitVec 21} (drifts : s.drifts n = true) (ready : s.tailReady x t) (sound : e = 1 → s.homeSound) :
    exec (.mark e y x t n) s = .next (((s.logDrift n).mapLive fun c => c.tailAct (s.buf t) e y x t).judge .performed) := by
  rw [exec_mark, execMark, State.ctlOp_performs ready sound rfl rfl, if_pos drifts]

/-- A WAITTE whose entry is READY in its phase does not wait (R62, R146). -/
theorem actsCtl_waitte {n : BitVec 6} {h : BitVec 1} : ActsCtl (.waitte e y x t n h) s e y x t []
    (teSt (s.issue.te n.toNat) = teReady ∧ tePh (s.issue.te n.toNat) = h) id := by
  refine acts_ctlOp (exec_waitte ..) (fun _ due => ?_) (fun _ => rfl) fun _ => rfl
  rw [if_pos due]
  rfl

/-- An RFT of a handler whose TPC lies in the object of its context (R155). -/
theorem actsCtl_rft : ActsCtl (.rft e y) s e y 0 0 [] (s.issue.trap.handler = true ∧ s.issue.sys.tpc.extractLsb' 32 16 = s.issue.id.obj)
    (fun c => { c with flow := { c.flow with tail := { c.flow.tail with rft := true } } }) := by
  refine acts_ctlOp (exec_rft ..) (fun _ _ => rfl) (fun ⟨handler, object⟩ => ?_) fun _ => rfl
  simp [handler, object]

/-! ### Weight (R45, R152) -/

theorem overflows_eq_false {v w : W64} : overflows v w = false ↔ v.toNat + w.toNat < 2 ^ 64 := by
  rw [overflows, decide_eq_false_iff_not, Nat.not_le]

theorem overflows_eq_true {v w : W64} : overflows v w = true ↔ ¬v.toNat + w.toNat < 2 ^ 64 := by
  rw [← overflows_eq_false, Bool.not_eq_false]

/-- A context in no domain has no block that could be unsound (R344, R348). -/
theorem State.homeSound_outside (outside : s.issue.inDomain = false) : s.homeSound := fun inside => by
  rw [outside] at inside
  cases inside

/-- A sound block passes the check of an operation of its domain. -/
theorem State.noHomeCause {on : Bool} (sound : on = true → s.homeSound) : firstOf [s.homeCheck on] = none := by
  cases on with
  | false => rfl
  | true =>
    rw [State.homeCheck_none true (sound rfl)]
    rfl

section
variable {n : BitVec 16} {r : BitVec 5}

/-- QBORROW outside a domain has no effect. -/
theorem actsCtl_qborrow_outside : ActsCtl (.qborrow e y x t n) s e y x t [] (s.issue.inDomain = false) id :=
  acts_ctlOp (exec_qborrow ..) (fun _ _ => rfl) (fun outside => State.noHomeCause fun _ => State.homeSound_outside outside)
    fun outside => if_pos (by rw [outside, Bool.not_false])

/-- How much QBORROW borrows. -/
def State.borrowed (s : State) (n : BitVec 16) : W64 := if n = 0 then s.issue.sys.qbsz else zext64 n

/-- QBORROW of a weight that MYW cannot take. -/
theorem actsCtl_qborrow_range : ActsCtl (.qborrow e y x t n) s e y x t []
    (s.issue.inDomain = true ∧ s.homeSound ∧ ¬s.issue.sys.myw.toNat + (s.borrowed n).toNat < 2 ^ 64)
    (fun c => c.fly 1 0 (.cause 0x09 (s.issue.sys.myw + s.borrowed n))) :=
  acts_ctlOp (exec_qborrow ..) (fun _ _ => rfl) (fun ⟨_, sound, _⟩ => State.noHomeCause fun _ => sound)
    fun ⟨inside, _, exceeds⟩ => (if_neg (by simp [inside])).trans (if_pos (overflows_eq_true.2 exceeds))

/-- QBORROW of a weight that MYW can take. -/
theorem actsCtl_qborrow : ActsCtl (.qborrow e y x t n) s e y x t []
    (s.issue.inDomain = true ∧ s.homeSound ∧ s.issue.sys.myw.toNat + (s.borrowed n).toNat < 2 ^ 64)
    (fun c => c.pass { kind := kQborrow, target := c.sys.qdi.toNat }
      (fun c => (c.send (.borrow c.home? (s.borrowed n) false)).account (s.borrowed n))
      fun c => c.fly 1 0 (.myw (s.issue.sys.myw + s.borrowed n))) :=
  acts_ctlOp (exec_qborrow ..) (fun _ _ => rfl) (fun ⟨_, sound, _⟩ => State.noHomeCause fun _ => sound)
    fun ⟨inside, _, small⟩ => (if_neg (by simp [inside])).trans (if_neg (Bool.eq_false_iff.1 (overflows_eq_false.2 small)))

/-- QJOIN of a weight that MYW can take. -/
theorem actsCtl_qjoin : ActsCtl (.qjoin e y x t r) s e y x t [aRef r] (s.issue.sys.myw.toNat + (s.a r).toNat < 2 ^ 64)
    (fun c => c.fly 1 0 (.myw (s.issue.sys.myw + s.a r))) :=
  acts_ctlOp (exec_qjoin ..) (fun full _ => State.noWait_of_full full) (fun _ => rfl)
    fun small => if_neg (Bool.eq_false_iff.1 (overflows_eq_false.2 small))

/-- QJOIN of a weight that MYW cannot take. -/
theorem actsCtl_qjoin_range : ActsCtl (.qjoin e y x t r) s e y x t [aRef r] (¬s.issue.sys.myw.toNat + (s.a r).toNat < 2 ^ 64)
    (fun c => c.fly 1 0 (.cause 0x09 (s.issue.sys.myw + s.a r))) :=
  acts_ctlOp (exec_qjoin ..) (fun full _ => State.noWait_of_full full) (fun _ => rfl)
    fun exceeds => if_pos (overflows_eq_true.2 exceeds)

/-- QRET outside a domain has no effect. -/
theorem actsCtl_qret_outside : ActsCtl (.qret e y x t) s e y x t [] (s.issue.inDomain = false) id :=
  acts_ctlOp (exec_qret ..) (fun _ _ => rfl) (fun outside => State.noHomeCause fun _ => State.homeSound_outside outside)
    fun outside => if_pos (by rw [outside, Bool.not_false])

/-- QRET gives the whole weight back. -/
theorem actsCtl_qret : ActsCtl (.qret e y x t) s e y x t [] (s.issue.inDomain = true ∧ s.homeSound)
    (fun c => c.pass { kind := kQret, target := c.sys.qdi.toNat }
      (fun c => (c.send (.ret c.home? s.issue.sys.myw false c.sys.wic)).account (-s.issue.sys.myw)) fun c => c.fly 1 0 (.myw 0)) :=
  acts_ctlOp (exec_qret ..) (fun _ _ => rfl) (fun ⟨_, sound⟩ => State.noHomeCause fun _ => sound)
    fun ⟨inside, _⟩ => if_neg (by simp [inside])

/-! ### The split of a weight (R45, R152) -/

/-- A QSPLIT waits for its register and to borrow. -/
theorem State.noWait_qsplit (full : s.full [aRef r] = true) (free : s.borrowWait = none) :
    firstOf [s.waitRegs [aRef r], s.borrowWait] = none := by
  rw [State.waitRegs_full.2 full, free]
  rfl

/-- The wait to borrow holds a QSPLIT before its tail bits are looked at. -/
theorem exec_qsplit_waits {k : Nat} (full : s.full [aRef r] = true) (waits : s.borrowWait = some k) :
    exec (.qsplit e y x t r) s = .next (s.judge (.waits k)) := by
  rw [exec_qsplit, execQsplit, State.ctlOp]
  refine State.issueOp_waits rfl rfl ?_
  rw [State.waitRegs_full.2 full, waits]
  rfl

/-- QSPLIT outside a domain, or of no weight. -/
theorem actsCtl_qsplit_zero : ActsCtl (.qsplit e y x t r) s e y x t [aRef r]
    (s.borrowWait = none ∧ (s.issue.inDomain = false ∨ s.issue.sys.myw = 0)) (fun c => c.fly 1 0 (.a r 0)) := by
  refine acts_ctlOp (exec_qsplit ..) (fun full ⟨free, _⟩ => State.noWait_qsplit full free) (fun ⟨_, nothing⟩ => ?_)
    fun ⟨_, nothing⟩ => if_pos (by simpa using nothing)
  refine State.noHomeCause fun one => ?_
  rcases nothing with outside | zero
  · exact State.homeSound_outside outside
  · simp [zero] at one

/-- QSPLIT of weight 1 whose borrow MYW cannot take. -/
theorem actsCtl_qsplit_range : ActsCtl (.qsplit e y x t r) s e y x t [aRef r]
    (s.issue.inDomain = true ∧ s.issue.sys.myw = 1 ∧ s.borrowWait = none ∧ s.homeSound ∧
      ¬s.issue.sys.myw.toNat + s.issue.sys.qbsz.toNat < 2 ^ 64)
    (fun c => c.fly 1 0 (.cause 0x09 (s.issue.sys.myw + s.issue.sys.qbsz))) :=
  acts_ctlOp (exec_qsplit ..) (fun full ⟨_, _, free, _⟩ => State.noWait_qsplit full free)
    (fun ⟨_, _, _, sound, _⟩ => State.noHomeCause fun _ => sound)
    fun ⟨inside, one, _, _, exceeds⟩ => (if_neg (by simp [inside, one])).trans (if_pos (by rw [overflows_eq_true.2 exceeds]; simp [one]))

/-- Half of a weight goes to a[r], and the rest stays. -/
def Context.splitWeight (c : Context) (r : BitVec 5) (w : W64) : Context := (c.fly 1 0 (.a r (w / 2))).fly 1 0 (.myw (w - w / 2))

/-- A context that the gate has killed takes no split (R356). -/
theorem State.split_live (u : State) (w : W64) :
    (if u.live.id.killed then u else (u.fly 1 0 (.a r (w / 2))).fly 1 0 (.myw (w - w / 2))) =
      u.mapLive fun c => if c.id.killed then c else c.splitWeight r w := by
  by_cases killed : u.live.id.killed = true
  · simp [State.mapLive, killed]
  · simp [State.mapLive, killed, Context.splitWeight, State.fly]

/-- QSPLIT of weight 1 borrows first, and splits what it then has. -/
theorem actsCtl_qsplit_borrows : ActsCtl (.qsplit e y x t r) s e y x t [aRef r]
    (s.issue.inDomain = true ∧ s.issue.sys.myw = 1 ∧ s.borrowWait = none ∧ s.homeSound ∧
      s.issue.sys.myw.toNat + s.issue.sys.qbsz.toNat < 2 ^ 64)
    (fun c => if c.borrowFirst.id.killed then c.borrowFirst else c.borrowFirst.splitWeight r (s.issue.sys.myw + s.issue.sys.qbsz)) := by
  refine acts_ctlOp (exec_qsplit ..) (fun full ⟨_, _, free, _⟩ => State.noWait_qsplit full free)
    (fun ⟨_, _, _, sound, _⟩ => State.noHomeCause fun _ => sound) fun ⟨inside, one, _, _, small⟩ => ?_
  refine (if_neg (by simp [inside, one])).trans ((if_neg (by simp [overflows_eq_false.2 small])).trans ?_)
  dsimp only
  rw [if_pos one, if_pos one]
  exact State.split_live (s.mapLive Context.borrowFirst) _

/-- QSPLIT of more than weight 1 splits what it has. -/
theorem actsCtl_qsplit : ActsCtl (.qsplit e y x t r) s e y x t [aRef r]
    (s.borrowWait = none ∧ s.issue.inDomain = true ∧ 2 ≤ s.issue.sys.myw.toNat)
    (fun c => if c.id.killed then c else c.splitWeight r s.issue.sys.myw) := by
  have notOne (most : 2 ≤ s.issue.sys.myw.toNat) : s.issue.sys.myw ≠ 1 := fun one => by simp [one] at most
  have notZero (most : 2 ≤ s.issue.sys.myw.toNat) : s.issue.sys.myw ≠ 0 := fun zero => by simp [zero] at most
  refine acts_ctlOp (exec_qsplit ..) (fun full ⟨free, _⟩ => State.noWait_qsplit full free)
    (fun ⟨_, _, most⟩ => State.noHomeCause fun one => absurd (of_decide_eq_true one) (notOne most)) fun ⟨_, inside, most⟩ => ?_
  refine (if_neg (by simpa [inside] using notZero most)).trans ((if_neg (by rw [decide_eq_false (notOne most)]; exact Bool.false_ne_true)).trans ?_)
  dsimp only
  rw [if_neg (notOne most), if_neg (notOne most)]
  exact State.split_live s _

end

end

/-- Settles O32: each operation by its equation, or by its lemma where it looks at the state first. -/
theorem controlResults : Obligations.ControlResults := by
  unfold Obligations.ControlResults
  intro s e y x t c21 c16 n q h r te tail
  exact ⟨actsCtl_budget, actsCtl_mark, exec_mark_logs, actsCtl_waitte, actsCtl_plain (exec_drainw ..) fun _ => rfl,
    acts_ctlOp (exec_susp ..) (fun full _ => State.noWait_of_full full) (fun _ => rfl) fun _ => rfl, actsCtl_trap, actsCtl_rft⟩

/-- Settles O35: each clause is the lemma of its case. -/
theorem weightResults : Obligations.WeightResults := by
  unfold Obligations.WeightResults
  intro s e y x t n r w bsz m domain fits act range split
  exact ⟨actsCtl_qborrow_outside, actsCtl_qborrow_range, actsCtl_qborrow, actsCtl_qsplit_zero, actsCtl_qsplit_range,
    fun k => exec_qsplit_waits, actsCtl_qsplit_borrows, actsCtl_qsplit, actsCtl_qjoin, actsCtl_qjoin_range, actsCtl_qret_outside,
    actsCtl_qret⟩

end Sys2Proof.Machine
end

section
/-! PROOFS. Traps and returns (R154, R155, R305, R321, R334, R337), and what BUDGET and TRAP leave at the end of their bundle (R143, R156). The
theorems settle O49 and O50. -/

namespace Sys2Proof.Machine

section
variable {c : Context} {core : Nat} {mcc : W64} {x : Cause} {place : Resume}

/-! ### A cause is taken (R154, R321, R337) -/

theorem Context.hasHandler_iff : c.hasHandler x = true ↔ x.code.toNat ≤ 0x16 ∧ c.sys.tvec ≠ (0xFFFFFFFF : W32) := by
  rw [Context.hasHandler, Bool.and_eq_true, decide_eq_true_eq, decide_eq_true_eq]

theorem Context.handles_iff :
    c.handles x = true ↔ x.code.toNat ≤ 0x16 ∧ c.sys.tvec ≠ (0xFFFFFFFF : W32) ∧ c.trap.handler = false := by
  rw [Context.handles, Bool.and_eq_true, Context.hasHandler_iff, Bool.not_eq_true', and_assoc]

theorem Context.takeTrap_handled (handled : c.handles x = true) : c.takeTrap core mcc x place = c.enterHandler x place := if_pos handled

theorem Context.takeTrap_halts (other : c.handles x = false) : c.takeTrap core mcc x place = c.systemTrap core mcc x :=
  if_neg (Bool.eq_false_iff.1 other)

/-- Whoever handles it, a cause is recorded, and registers, memory side, engines and budget stay. -/
theorem Context.takeTrap_records :
    (c.takeTrap core mcc x place).sys = c.sys.record c.id.obj x ∧ (c.takeTrap core mcc x place).regs = c.regs ∧
    (c.takeTrap core mcc x place).mem = c.mem ∧ (c.takeTrap core mcc x place).swage = c.swage ∧
    (c.takeTrap core mcc x place).anvil = c.anvil ∧ (c.takeTrap core mcc x place).budget = c.budget ∧
    (c.takeTrap core mcc x place).flow.bclk = c.flow.bclk := by
  cases handled : c.handles x with
  | true =>
    rw [Context.takeTrap_handled handled]
    exact ⟨rfl, rfl, rfl, rfl, rfl, rfl, rfl⟩
  | false =>
    rw [Context.takeTrap_halts handled]
    exact ⟨rfl, rfl, rfl, rfl, rfl, rfl, rfl⟩

/-- Scratchpad writes and the counts of DRAIN rows are no part of the snapshot. -/
theorem Flight.snapshots_eq_false {f : Flight} : f.snapshots = false ↔
    (∃ off bytes poisoned, f.eff = .scr off bytes poisoned) ∨ (∃ n, f.eff = .ovfc n) ∨ ∃ off, f.eff = .epi off := by
  unfold Flight.snapshots
  cases f.eff <;> simp

/-- The handler begins with those results in flight that are no part of the snapshot. -/
theorem Context.enterHandler_flights {f : Flight} : f ∈ (c.enterHandler x place).flow.flights ↔ f ∈ c.flow.flights ∧
    ((∃ off bytes poisoned, f.eff = .scr off bytes poisoned) ∨ (∃ n, f.eff = .ovfc n) ∨ ∃ off, f.eff = .epi off) := by
  rw [← Flight.snapshots_eq_false, ← Bool.not_eq_true']
  exact List.mem_filter

/-- The halt of a context leaves no SYNC that has arrived. -/
theorem Context.systemTrap_barrier : (c.systemTrap core mcc x).flow.barrier ≠ .arrived := by
  simp only [Context.systemTrap, Context.halt]
  split
  · exact Barrier.noConfusion
  · assumption

/-! ### A return from the handler (R155, R305) -/

/-- The context as a return leaves the handler: at the place of the return, its shadow and its snapshot back. -/
def Context.left (c : Context) (place : Resume) : Context :=
  let sh := c.trap.shadow.getD Shadow.none
  { c with
    trap := { c.trap with handler := false, shadow := none, snapshot := [], tpcMoved := false, held := [] }
    flow := { (c.flow.goOn place) with
      bufs := sh.bufs
      loops := sh.loops
      rstack := sh.rstack
      spilled := sh.spilled
      drain := sh.drain
      flights := c.flow.flights ++ c.trap.snapshot } }

/-- What a return with a shadow gives the program's flow back. -/
theorem Context.left_flow {sh : Shadow} (shadow : c.trap.shadow = some sh) : (c.left place).flow = { (c.flow.goOn place) with
    bufs := sh.bufs
    loops := sh.loops
    rstack := sh.rstack
    spilled := sh.spilled
    drain := sh.drain
    flights := c.flow.flights ++ c.trap.snapshot } := by
  rw [Context.left, shadow]
  rfl

/-- A return without held causes. -/
theorem Context.returnFromTrap_leaves (noneHeld : c.trap.held = []) :
    c.returnFromTrap core mcc place = { c.left place with swage := c.swage.begin } := by
  simp only [Context.returnFromTrap, Context.left, noneHeld]

/-- A return with a held cause that the program has a handler for. -/
theorem Context.returnFromTrap_reenters {rest : List Cause} (held : c.trap.held = x :: rest) (own : c.hasHandler x = true) :
    c.returnFromTrap core mcc place = ({ c with trap := { c.trap with held := rest } } : Context).reenterHandler x place := by
  rw [Context.returnFromTrap, held]
  exact if_pos own

/-- A return with a held cause of system software leaves the handler with the causes that were held behind it, and halts. -/
theorem Context.returnFromTrap_halts {rest : List Cause} (held : c.trap.held = x :: rest) (other : c.hasHandler x = false) :
    c.returnFromTrap core mcc place =
      ({ c.left place with flow := { (c.left place).flow with causes := c.flow.causes ++ rest } } : Context).systemTrap core mcc x := by
  have noHandler : ¬({ c with trap := { c.trap with held := rest } } : Context).hasHandler x = true := Bool.eq_false_iff.1 other
  rw [Context.returnFromTrap, held]
  exact if_neg noHandler

end

/-- Settles O49: a cause is taken in the handler or halts the context, and a return leaves the handler, enters it again or halts, each as its
lemma says. -/
theorem trapAndReturn : Obligations.TrapAndReturn := by
  unfold Obligations.TrapAndReturn
  intro c core mcc x place t snapshot
  obtain ⟨sys, regs, mem, swage, anvil, budget, bclk⟩ := c.takeTrap_records (core := core) (mcc := mcc) (x := x) (place := place)
  refine ⟨Context.handles_iff, congrArg Sys.tcause sys, congrArg Sys.tpc sys, congrArg Sys.tinfo sys, congrArg Sys.tslot sys, regs, mem, swage,
    anvil, budget, bclk, fun handled => ?handled, fun other => ?halts, fun rest inHandler held => ?heldCause⟩
  case handled =>
    have entered : t = c.enterHandler x place := Context.takeTrap_handled handled
    rw [entered]
    refine ⟨rfl, rfl, rfl, rfl, rfl, rfl, rfl, rfl, rfl, rfl, rfl, fun f => Context.enterHandler_flights, ?_⟩
    intro u _ _ noneHeld shadow saved resume
    dsimp only
    rw [Context.returnFromTrap_leaves noneHeld, Context.left_flow shadow, saved]
    refine ⟨rfl, rfl, rfl, rfl, rfl, rfl, rfl, rfl, rfl, rfl, fun moved => ?_, fun kept off => ?_⟩
    · rw [Context.rftPoint, if_pos moved]
      exact ⟨rfl, rfl⟩
    · rw [Context.rftPoint, if_neg (Bool.eq_false_iff.1 kept), resume]
      constructor
      · rintro rfl
        exact ⟨rfl, rfl⟩
      · rintro st rfl
        exact ⟨rfl, rfl⟩
  case halts =>
    have halted : t = c.systemTrap core mcc x := Context.takeTrap_halts other
    rw [halted]
    exact ⟨rfl, rfl, rfl, Context.systemTrap_barrier, rfl⟩
  case heldCause =>
    dsimp only
    cases own : c.hasHandler x with
    | true =>
      obtain ⟨low, handler⟩ := Context.hasHandler_iff.1 own
      rw [Context.returnFromTrap_reenters held own]
      exact ⟨rfl, rfl, rfl, rfl, fun _ _ => ⟨rfl, rfl, rfl, rfl, rfl, rfl, rfl, rfl⟩,
        fun foreign => absurd foreign (not_or.2 ⟨Nat.not_lt.2 low, handler⟩)⟩
    | false =>
      have foreign : ¬(x.code.toNat ≤ 0x16 ∧ c.sys.tvec ≠ (0xFFFFFFFF : W32)) := mt Context.hasHandler_iff.2 (Bool.eq_false_iff.1 own)
      rw [Context.returnFromTrap_halts held own]
      exact ⟨rfl, rfl, rfl, rfl, fun low handler => absurd ⟨low, handler⟩ foreign, fun _ => ⟨rfl, rfl, rfl, rfl⟩⟩

/-! ### The end of a bundle that has one result in flight (R119, R143, R156) -/

section
variable {c : Context} {mcc : W64} {slot : Nat} {e : Eff}

/-- A result of the bundle in issue that lands at its end. -/
def Context.due (c : Context) (slot : Nat) (e : Eff) : Flight :=
  { dist := 0, slot := slot, bclk := c.flow.bclk, off := c.flow.pc, snap := false, eff := e }

/-- A result that takes effect in one part lands alone: the end of the bundle adds to budget and causes only what that landing does. -/
theorem Context.landPoint_fly (still : c.flow.flights = []) (whole : (c.due slot e).parts = [c.due slot e]) :
    let t := (c.fly 1 slot e).landPoint mcc
    let v := ({ c with flow := { c.flow with flights := [], landed := [] } } : Context).land mcc (c.due slot e)
    t.budget = v.budget ∧ t.flow.causes = v.flow.causes := by
  have order : landingOrder ((byIssue [c.due slot e]).flatMap Flight.parts) = [c.due slot e] := by
    have alone : byIssue [c.due slot e] = [c.due slot e] := rfl
    rw [alone, List.flatMap_singleton, whole]
    rfl
  have flies : (c.fly 1 slot e).flow.flights.map (fun f => { f with dist := f.dist - 1 }) = [c.due slot e] := by
    rw [Context.fly_flow, still]
    rfl
  have lands : [c.due slot e].filter (fun f => f.dist = 0) = [c.due slot e] := rfl
  have stays : [c.due slot e].filter (fun f => f.dist ≠ 0) = [] := rfl
  rw [Context.landPoint]
  dsimp only
  rw [flies, lands, stays, order]
  exact ⟨rfl, rfl⟩

end

/-- Settles O50: both perform as their lemmas say, and alone in flight their results land alone. -/
theorem budgetAndTrap : Obligations.BudgetAndTrap := by
  unfold Obligations.BudgetAndTrap
  intro s e y x t n code c mcc cycles
  refine ⟨actsCtl_budget, actsCtl_trap, rfl, fun still => ⟨?_, ?_⟩⟩
  · exact (Context.landPoint_fly still rfl).1
  · exact (Context.landPoint_fly still rfl).2

end Sys2Proof.Machine
end

section
/-! PROOFS. Results of the address slot (R181, R187 to R192). Each operation is a shared form that its equation names; here `(… :)` elaborates the lemma
of the form from the equation alone, and that its registers are those of the statement is then a computation. The theorems settle O8 and O10. -/

namespace Sys2Proof.Machine

/-- Settles O8: every operation writes one a register or one whole mask by the shared form, with its value. -/
theorem adrRegisterResults : Obligations.AdrRegisterResults := by
  unfold Obligations.AdrRegisterResults
  intro s g d a b m p v i12 i17 i6 act mask l
  exact ⟨(acts_adrWrite (exec_adda ..) :), (acts_adrWrite (exec_suba ..) :), (acts_adrWrite (exec_mula ..) :),
    (acts_adrWrite (exec_anda ..) :), (acts_adrWrite (exec_ora ..) :), (acts_adrWrite (exec_xora ..) :),
    (acts_adrWrite (exec_shla ..) :), (acts_adrWrite (exec_shra ..) :), (acts_adrWrite (exec_sara ..) :),
    (acts_adrWrite (exec_addai ..) :), (acts_adrWrite (exec_li ..) :), (acts_adrWrite (exec_shlai ..) :),
    (acts_adrWrite (exec_sela ..) :), (acts_adrWrite (exec_mcnt ..) :), (acts_adrWrite (exec_mfirst ..) :),
    (acts_adrWrite (exec_getlc ..) :), (acts_adrMask (exec_mfill ..) :), (acts_adrMask (exec_mfromp ..) :)⟩

/-! ### Moves between register classes (R188) -/

section
variable {i : Instr} {s : State}

/-- The state that an operation leaves may be read under its own conditions. -/
theorem Acts.congr {runs : Bool} {names : List RegRef} {ok : Prop} {t u : State} (acts : Acts i s runs names ok t) (same : ok → t = u) :
    Acts i s runs names ok u :=
  ⟨fun on full holds => (acts.1 on full holds).trans (congrArg _ (same holds)), acts.2⟩

/-- A singleton passes NOTSINGLE (R308). -/
theorem State.singleCheck_none {slot : Nat} {dom : Dom} {x : Int} {info : W64} (single : domMember? dom = some x) :
    s.check slot (domMember? dom).isNone 0x08 info = none := by
  rw [single, Option.isNone_some, State.check_false]

variable {g : BitVec 4} {r : BitVec 5} {k : BitVec 6} {n : BitVec 12} {x : Int}

/-- MOVKA of a singleton puts its member (R188). -/
theorem acts_movka : Acts (.movka g r k) s (s.guard4 g) [aRef r, kRef k] (domMember? (s.k k) = some x)
    (s.performed fun c => c.fly 1 2 (.a r (BitVec.ofInt 64 x))) := by
  refine (acts_form (exec_movka ..) id (fun _ _ => rfl) fun single => ?notSingle).congr fun single => ?member
  case notSingle => rw [State.singleCheck_none single, firstOf_none, firstOf_nil]
  case member => rw [single, Option.getD_some, State.fly_judge_performed]

/-- MOVAK waits on its source and on a result that its destination is still owed, and is checked for a bound destination (R188). -/
theorem acts_movak : Acts (.movak g k r) s (s.guard4 g) [aRef r] (s.issue.swage.bound k = false ∧ s.takesK k)
    (s.performed fun c => c.fly 1 2 (.k k (domSingle (low32 (s.a r)).toInt))) := by
  refine acts_of_issueOp (exec_movak ..) rfl fun _ full ⟨unbound, takes⟩ => ⟨rfl, ?noWait, ?notBound⟩
  case noWait => rw [State.waitDest_k.2 takes, State.waitRegs_full.2 full, firstOf_none, firstOf_none, firstOf_nil]
  case notBound => rw [unbound, State.check_false, firstOf_none, firstOf_nil]

/-! ### System registers (R192) -/

/-- A number that MOVS or MOVG may name is not ILLEGAL. -/
theorem State.sysIllegal_none {bad : Bool} : s.sysIllegal bad n = none ↔ bad = false := State.check_none

/-- MOVS waits for its destination, of MYW also for a borrow on its way, and is checked for its number alone. -/
theorem acts_movs : Acts (.movs g r n) s (s.guard4 g) [aRef r] (sysReads n = true ∧ (n = 0x039 → s.mywWait = none))
    (s.performed fun c => c.fly 1 2 (.a r (s.issue.readSys s.mcc n))) := by
  refine acts_of_issueOp (exec_movs ..) rfl fun _ full ⟨reads, settled⟩ => ⟨rfl, ?noWait, ?legal⟩
  case noWait =>
    have noBorrow : (if n = 0x039 then s.mywWait else none) = none := by
      split
      next myw => exact settled myw
      next => rfl
    rw [State.waitRegs_full.2 full, noBorrow, firstOf_none, firstOf_none, firstOf_nil]
  case legal => rw [State.sysIllegal_none.2 (by rw [reads, Bool.not_true]), firstOf_none, firstOf_nil]

/-- MOVG passes its checks of a number that it may write, and of PBUDGET and QBSZ with a value in their range. -/
theorem acts_movg : Acts (.movg g r n) s (s.guard4 g) [aRef r]
    (sysWrites n = true ∧ (n = 0x010 → 1 ≤ (s.a r).toNat ∧ (s.a r).toNat ≤ 65535) ∧
      (n = 0x03B → 1 ≤ (s.a r).toNat ∧ (s.a r).toNat ≤ 2 ^ 62))
    (s.performed fun c => c.fly 1 2 (.sys n (s.a r))) := by
  have means := exec_movg g r n s
  rw [execMovg] at means
  refine acts_form means id (fun _ _ => rfl) fun ⟨writes, pbudget, qbsz⟩ => ?_
  have inRange {m : BitVec 12} {top : Nat} (bounds : n = m → 1 ≤ (s.a r).toNat ∧ (s.a r).toNat ≤ top) :
      (n = m && ((s.a r).toNat = 0 || top < (s.a r).toNat) : Bool) = false := by
    rw [Bool.and_eq_false_imp, decide_eq_true_eq]
    intro named
    obtain ⟨low, high⟩ := bounds named
    rw [decide_eq_false (Nat.pos_iff_ne_zero.1 low), decide_eq_false (Nat.not_lt.2 high), Bool.or_self]
  rw [State.sysIllegal_none.2 (by rw [writes, Bool.not_true]), inRange pbudget, inRange qbsz, Bool.or_self, State.check_false, firstOf_none,
    firstOf_none, firstOf_nil]

end

/-- Settles O10: LDELTA has a guard and a wait alone, the moves are the lemmas above. -/
theorem adrMoveResults : Obligations.AdrMoveResults := by
  unfold Obligations.AdrMoveResults
  intro s g d a t k v r x put
  exact ⟨acts_movka, acts_movak, acts_form (exec_ldelta ..) id (fun _ _ => rfl) fun _ => rfl, acts_movs, acts_movg⟩

end Sys2Proof.Machine
end

section
/-! PROOFS. Integer operations, compares and moves of the vector slot (R195, R198, R199, R202). Each operation is a shared form that its equation names;
`(… :)` elaborates the lemma of the form from the equation alone. The theorems settle O12, O13 and O15. -/

namespace Sys2Proof.Machine

section
variable {i : Instr} {s : State} {g : BitVec 5}

/-- A compare (R195). -/
theorem acts_vecCmp {lat : Nat} {d : BitVec 4} {a b : BitVec 6} {f h : BitVec 1} {x : W32 → W32 → Bool}
    (means : exec i s = s.vecCmp g lat d a b f h x) :
    Acts i s (s.runs64 g) [vRef a, vRef b] True
      (s.performed fun c => c.fly lat 3 (.m d (s.guard5 g) (mkMask 64 fun i => x (laneV (s.v a) i) (laneV (s.v b) i)))) :=
  acts_vecOp means

/-- VBCK of a singleton puts its member in the lanes that execute (R202). -/
theorem acts_vbck {d : BitVec 6} {r : BitVec 5} {f : BitVec 1} {x : Int} :
    Acts (.vbck g d r f) s (s.runs64 g) [vRef d, kRef (r.zeroExtend 6)] (domMember? (s.k (r.zeroExtend 6)) = some x)
      (s.performed fun c => c.fly 2 3 (.v d (s.guard5 g) (mkV fun _ => BitVec.ofInt 32 x))) := by
  have means := exec_vbck g d r f s
  rw [execVbck] at means
  refine (acts_form means id (fun full _ => ?notEmpty) fun single => ?notSingle).congr fun single => ?member
  case notEmpty => exact State.emptyReads_full (srcs := [(kRef (r.zeroExtend 6), f)]) (State.full_pair.1 full).2
  case notSingle => rw [State.singleCheck_none single, firstOf_none, firstOf_nil]
  case member => simp only [single, Option.getD_some, State.fly_judge_performed]

end

/-- Settles O12: every integer operation is lane-wise, with its function of the lanes. -/
theorem vecIntegerResults : Obligations.VecIntegerResults := by
  unfold Obligations.VecIntegerResults
  intro s g d a b f h two
  exact ⟨(acts_vecLanes (exec_vaddI ..) :), (acts_vecLanes (exec_vsubI ..) :), (acts_vecLanes (exec_vmulI ..) :),
    (acts_vecLanes (exec_vminI ..) :), (acts_vecLanes (exec_vmaxI ..) :), (acts_vecLanes (exec_vand ..) :),
    (acts_vecLanes (exec_vor ..) :), (acts_vecLanes (exec_vxor ..) :), (acts_vecLanes (exec_vshl ..) :),
    (acts_vecLanes (exec_vshr ..) :), (acts_vecLanes (exec_vsar ..) :)⟩

/-- Settles O13: every compare is the shared form, with its latency and its function of the lanes. -/
theorem vecCompareResults : Obligations.VecCompareResults := by
  unfold Obligations.VecCompareResults
  intro s g d a b f h cmp
  exact ⟨acts_vecCmp (exec_vcmpeqF ..), acts_vecCmp (exec_vcmpltF ..), acts_vecCmp (exec_vcmpleF ..), acts_vecCmp (exec_vcmpeqI ..),
    acts_vecCmp (exec_vcmpltI ..)⟩

/-- Settles O15: VMOV, VPERM and VIOTA are lane-wise, VBCK has a check of its own, and the others have one result of the general form. -/
theorem vecMoveResults : Obligations.VecMoveResults := by
  unfold Obligations.VecMoveResults
  intro s g m d a b n r f h x put k
  exact ⟨(acts_vecLanes (exec_vmov ..) :), (acts_vecOp (exec_vsel ..) :), (acts_vecOp (exec_vbca ..) :), acts_vbck,
    (acts_vecLanes (exec_vperm ..) :), (acts_vecLanes (exec_viota ..) :), (acts_vecOp (exec_vext ..) :), (acts_vecOp (exec_vins ..) :)⟩

end Sys2Proof.Machine
end

section
/-! PROOFS. Results of the interval slot (R206 to R214). Each operation is a shared form that its equation names; an operation of this slot waits on the
registers it names and is checked for nothing. The theorems settle O17 to O20. -/

namespace Sys2Proof.Machine

section
variable {i : Instr} {s : State} {g d a b : BitVec 5}

/-- A lane-wise operation (R205). -/
theorem acts_ivlLanes {lat : Nat} {srcs : List RegRef} {x : Nat → Lane} (means : exec i s = s.ivlLanes g lat d srcs x) :
    Acts i s (s.runs32 g) (qRef d :: srcs) True
      (s.performed fun k => k.fly lat 4 (.q d (s.lanes32 g) (mkQ fun i => (x i).bits))) :=
  acts_ivlOp means

/-- A forward or set operation of one operand (R206, R207). -/
theorem acts_ivl1 {lat : Nat} {op : QOp} (means : exec i s = s.ivl1 g lat d a op) :
    Acts i s (s.runs32 g) [qRef d, qRef a] True
      (s.performed fun k => k.fly lat 4 (.q d (s.lanes32 g) (mkQ fun i => (op.apply (s.lane a i) .empty .empty).bits))) :=
  acts_ivlLanes means

/-- A forward or set operation of two operands (R206, R207). -/
theorem acts_ivl2 {lat : Nat} {op : QOp} (means : exec i s = s.ivl2 g lat d a b op) :
    Acts i s (s.runs32 g) [qRef d, qRef a, qRef b] True
      (s.performed fun k => k.fly lat 4 (.q d (s.lanes32 g) (mkQ fun i => (op.apply (s.lane a i) (s.lane b i) .empty).bits))) :=
  acts_ivlLanes means

/-- The lower or the upper bounds into a half of a v register (R208). -/
theorem acts_ivlHalf {h : BitVec 1} {pos : Nat} (means : exec i s = s.ivlHalf g d a h pos) :
    Acts i s (s.runs32 g) [vRef (d.zeroExtend 6), qRef a] True
      (s.performed fun k => k.fly 2 4 (.v (d.zeroExtend 6) (zext64 (s.lanes32 g) <<< (32 * h.toNat))
        (mkV fun i => (laneQ (s.q a) (i % 32)).extractLsb' pos 32))) :=
  acts_ivlOp means

/-- A contractor (R211 to R213). -/
theorem acts_contractor {lat : Nat} {op : COp} {c : BitVec 5} (means : exec i s = s.contractor g lat op d a b c) :
    Acts i s (s.runs32 g) ((op.regs d a b c).map qRef) True (s.performed fun k => k.fly lat 4 (s.contraction g op d a b c)) :=
  acts_ivlOp means

/-- QBIS puts the lower half, and where its registers differ the upper half too (R207). -/
theorem acts_qbis : Acts (.qbis g d a) s (s.runs32 g) [qRef d, qRef a] True (s.performed fun k =>
    let k' := k.fly 5 4 (.q d (s.lanes32 g) (mkQ fun i => (bisect (s.lane a i)).1.bits))
    if d = a then k' else k'.fly 5 4 (.q a (s.lanes32 g) (mkQ fun i => (bisect (s.lane a i)).2.bits))) := by
  refine (acts_ivlOp (exec_qbis ..)).congr fun _ => ?_
  by_cases same : d = a
  · simp only [if_pos same, State.fly_judge_performed]
  · simp only [if_neg same]
    rfl

end

/-- Settles O17: forward and set operations are lane-wise, with their latency and their interval, and QBIS puts two results on their way. -/
theorem intervalForwardResults : Obligations.IntervalForwardResults := by
  unfold Obligations.IntervalForwardResults
  intro s g d a b c put one two
  exact ⟨acts_ivl2 (exec_qadd ..), acts_ivl2 (exec_qsub ..), acts_ivl2 (exec_qmul ..), acts_ivl2 (exec_qdiv ..),
    acts_ivlLanes (exec_qfma ..), acts_ivl1 (exec_qsqr ..), acts_ivl1 (exec_qsqrt ..), acts_ivl1 (exec_qrelu ..),
    acts_ivl2 (exec_qmax ..), acts_ivl2 (exec_qmin ..), acts_ivl1 (exec_qneg ..), acts_ivl1 (exec_qabs ..), acts_ivl1 (exec_qexp ..),
    acts_ivl2 (exec_qmeet ..), acts_ivl2 (exec_qhull ..), acts_ivl1 (exec_qmid ..), acts_ivl1 (exec_qwid ..), acts_qbis⟩

/-- Settles O18: construction is lane-wise, and the bounds go to a half of a v register. -/
theorem intervalMakeResults : Obligations.IntervalMakeResults := by
  unfold Obligations.IntervalMakeResults
  intro s g d a b h put va vb vd half
  exact ⟨acts_ivlLanes (exec_qmake ..), acts_ivlLanes (exec_qpoint ..), acts_ivlHalf (exec_qlo ..), acts_ivlHalf (exec_qhi ..),
    acts_ivlLanes (exec_qent ..), acts_ivlLanes (exec_qemp ..), acts_ivlLanes (exec_qbca ..)⟩

/-- Settles O19: each verdict is one operation of the general form; QCMP and QSTAT put two results on their way. -/
theorem intervalVerdictResults : Obligations.IntervalVerdictResults := by
  unfold Obligations.IntervalVerdictResults
  intro s g a b c d p w verdict lanes bits
  exact ⟨acts_ivlOp (exec_qcmp ..), acts_ivlOp (exec_qtest ..), acts_ivlOp (exec_qstat ..)⟩

/-- Settles O20: every contractor is the shared form, with its latency and the registers it names. -/
theorem contractorResults : Obligations.ContractorResults := by
  unfold Obligations.ContractorResults
  intro s g d a b c act
  exact ⟨acts_contractor (exec_qaddC ..), acts_contractor (exec_qsubC ..), acts_contractor (exec_qmulC ..), acts_contractor (exec_qfmaC ..),
    acts_contractor (exec_qsqrC ..), acts_contractor (exec_qreluC ..), acts_contractor (exec_qmaxC ..), acts_contractor (exec_qexpC ..),
    acts_contractor (exec_qleC ..)⟩

end Sys2Proof.Machine
end

section
/-! PROOFS. Scratchpad loads and stores at issue (R219): each is one access with a check of its place, and puts one result on its way. The
theorems settle O21 and O22. -/

namespace Sys2Proof.Machine

section
variable {i : Instr} {s : State} {g : BitVec 4} {r : RegRef} {b : BitVec 5} {f : BitVec 11} {n align : Nat}

/-- The bytes of a scratchpad access lie in the partition, at an aligned offset. -/
def State.scrFits (s : State) (b : BitVec 5) (f : BitVec 11) (n align : Nat) : Prop :=
  s.scrOff b f n + n ≤ s.issue.scrSize ∧ s.scrOff b f n % align = 0

/-- A load of an a, v, q or an unbound k register, of bytes without marks (R117, R219, R344). -/
theorem acts_lds {names : List RegRef} {ok : Prop} {late : List (Option Cause)} {e : Nat → Eff}
    (means : exec i s = s.lds g r b f n align late e) (base : s.full names = true → s.full [aRef b] = true)
    (takes : s.full names = true → ok → s.waitDest r = none) (fits : ok → s.scrFits b f n align)
    (unmarked : ok → s.issue.viewMarked? s.tick (s.scrOff b f n) n = none) (passes : ok → firstOf late = none) :
    Acts i s (s.guard4 g) names ok
      (s.performed fun c => c.fly 8 5 (e (leNat (s.issue.scrView s.tick (s.scrOff b f n) n)))) := by
  unfold State.lds at means
  refine (acts_of_issueOp means rfl fun _ full holds => ⟨rfl, ?noWait, ?noCause⟩).congr fun holds => ?bytes
  case noWait => simp [State.waitRegs_full.2 (base full), takes full holds]
  case noCause => simp [State.scrCheck_none.2 (fits holds), passes holds]
  case bytes => simp only [unmarked holds, State.fly_judge_performed]

/-- A load of an a, v or q register, both of its registers full. -/
theorem acts_lds_full {e : Nat → Eff} (means : exec i s = s.lds g r b f n align [] e) :
    Acts i s (s.guard4 g) [aRef b, r]
      (s.scrOff b f n + n ≤ s.issue.scrSize ∧ s.scrOff b f n % align = 0 ∧
        s.issue.viewMarked? s.tick (s.scrOff b f n) n = none)
      (s.performed fun c => c.fly 8 5 (e (leNat (s.issue.scrView s.tick (s.scrOff b f n) n)))) :=
  acts_lds means (fun full => (State.full_pair.1 full).1) (fun full _ => State.waitDest_of_full (State.full_pair.1 full).2)
    (fun ⟨inside, aligned, _⟩ => ⟨inside, aligned⟩) (fun ⟨_, _, unmarked⟩ => unmarked) fun _ => rfl

/-- A store (R219). -/
theorem acts_sts {data : Nat} (means : exec i s = s.sts g r b f n align data) :
    Acts i s (s.guard4 g) [aRef b, r] (s.scrFits b f n align)
      (s.performed fun c => c.fly 2 5 (.scr (s.scrOff b f n) (leBytes n data) false)) := by
  unfold State.sts at means
  refine acts_form means id (fun _ _ => rfl) fun fits => ?_
  rw [State.scrCheck_none.2 fits, firstOf_none, firstOf_nil]

end

/-- Settles O21: V, Q and A by the lemma of their form; LDS.K has a check of its own, that its register is unbound. -/
theorem scratchpadLoadResults : Obligations.ScratchpadLoadResults := by
  unfold Obligations.ScratchpadLoadResults
  intro s g r r5 b f ok put
  refine ⟨acts_lds_full (exec_ldsV ..), acts_lds_full (exec_ldsQ ..), ?loadK, acts_lds_full (exec_ldsA ..)⟩
  refine acts_lds (exec_ldsK ..) id (fun _ ⟨_, _, takes⟩ => State.waitDest_k.2 takes)
    (fun ⟨⟨inside, aligned, _⟩, _⟩ => ⟨inside, aligned⟩) (fun ⟨⟨_, _, unmarked⟩, _⟩ => unmarked) fun ⟨_, unbound, _⟩ => ?_
  rw [State.loadBound, unbound, State.check_false, firstOf_none, firstOf_nil]

/-- Settles O22: every store by the lemma of its form. -/
theorem scratchpadStoreResults : Obligations.ScratchpadStoreResults := by
  unfold Obligations.ScratchpadStoreResults
  intro s g r r5 b f ok put
  exact ⟨acts_sts (exec_stsV ..), acts_sts (exec_stsQ ..), acts_sts (exec_stsK ..), acts_sts (exec_stsA ..)⟩

end Sys2Proof.Machine
end

section
/-! PROOFS. Exact accumulators, fences and CBINV at issue (R104, R105, R224 to R226, R353): what writes cells passes the gate of the journal, and in a
run that replays nothing the gate lets it perform. The theorems settle O25 and O26. -/

namespace Sys2Proof.Machine

/-- In a run that replays nothing every operation performs (R354). -/
theorem Context.gateOf_fresh {c : Context} (fresh : c.run.suppress = []) (key : AccKey) : c.gateOf key = .perform := by
  simp only [Context.gateOf, fresh]

section
variable {i : Instr} {s : State} {g : BitVec 4} {b : BitVec 5}

/-- The cells of an XA operation are aligned (R224). -/
def State.cellsAligned (s : State) (b : BitVec 5) : Prop := (s.gva b 0 8).toNat % 64 = 0

/-- An XA operation that writes, in a run that replays nothing. -/
theorem acts_xaWrite {srcs : List RegRef} {ok : Prop} {late : List (Option Cause)} {kind : Nat} {op : AccOp}
    (means : exec i s = s.xaWrite g b srcs late kind op) (fresh : s.live.run.suppress = []) (aligned : ok → s.cellsAligned b)
    (passes : ok → firstOf late = none) :
    Acts i s (s.guard4 g) (aRef b :: srcs) ok
      (s.performed fun c => (c.gate { kind := kind, target := (s.gva b 0 8).toNat }).launch (s.gva b 0 8) op 0 true) := by
  unfold State.xaWrite at means
  refine (acts_form means id (fun _ _ => rfl) fun holds => ?noCause).congr fun _ => ?effect
  case noCause =>
    rw [firstOf_append, passes holds, State.gAlign_none.2 (aligned holds)]
    rfl
  case effect => simp only [State.mapLive_judge_performed, State.performed, Context.gateOf_fresh fresh]

/-- An XA operation that reads: its destination is empty until it lands (R116, R224). -/
theorem acts_xaRead {r : RegRef} {op : AccOp}
    (means : exec i s = s.issueOp (s.guard4 g) [] [s.waitRegs [aRef b, r]] [s.gAlign (s.gva b 0 8) 64 3] fun s => s.mapLive fun c =>
      let c := c.launch (s.gva b 0 8) op 0 false
      { c with regs := c.regs.mark r true }) :
    Acts i s (s.guard4 g) [aRef b, r] (s.cellsAligned b) (s.performed fun c =>
      let c := c.launch (s.gva b 0 8) op 0 false
      { c with regs := c.regs.mark r true }) :=
  acts_form means id (fun _ _ => rfl) fun aligned => by rw [State.gAlign_none.2 aligned, firstOf_none, firstOf_nil]

/-- XCLR of cells within one page (R224, R230). -/
theorem acts_xclr {n : BitVec 7} (fresh : s.live.run.suppress = []) :
    Acts (.xclr g b n) s (s.guard4 g) [aRef b] (s.cellsAligned b ∧ (s.gva b 0 8).toNat % 4096 + 64 * (n.toNat + 1) ≤ 4096)
      (s.performed fun c => (c.gate { kind := kXclr, target := (s.gva b 0 8).toNat }).launch (s.gva b 0 8) (.xclr (n.toNat + 1)) 0 true) :=
  acts_xaWrite (exec_xclr ..) fresh And.left fun ⟨_, samePage⟩ => by
    rw [State.check_none.2 (decide_eq_false (Nat.not_lt.2 samePage)), firstOf_none, firstOf_nil]

/-- A fence (R225). -/
theorem acts_fence {kind : BitVec 2} {scope : BitVec 3} (means : exec i s = s.fence g kind scope) :
    Acts i s (s.guard4 g) [] True (s.performed fun c => c.launch 0 (.fence kind) scope false) := acts_plain means

/-- CBINV (R226): its one check is that its address is aligned. -/
theorem acts_cbinv : Acts (.cbinv g b) s (s.guard4 g) [aRef b] ((s.a b).toNat % 64 = 0)
    (let u := s.nameAfresh s.issue.id.pasid (s.a b).toNat
     (match u.seek s.issue.agent (s.a b).toNat with
      | some key => u.dropBlock key
      | none => u.dropDescs fun _ => true).judge .performed) :=
  acts_form (exec_cbinv ..) id (fun _ _ => rfl) fun aligned => by
    simp only [aligned, ne_eq, not_true_eq_false, decide_false, State.alignCheck_false, firstOf_none, firstOf_nil]

end

/-- Settles O25: the writing operations, the reading ones and the fences, each by the lemma of its form. -/
theorem exactAccumulatorAndFenceResults : Obligations.ExactAccumulatorAndFenceResults := by
  unfold Obligations.ExactAccumulatorAndFenceResults
  intro s g b r d v m n sc va aligned fresh write
  exact ⟨fun replaysNone => acts_xaWrite (exec_xadd ..) replaysNone id fun _ => rfl,
    fun replaysNone => acts_xaWrite (exec_xaddv ..) replaysNone id fun _ => rfl, acts_xclr, acts_xaRead (exec_xrd ..), acts_xaRead (exec_xrdv ..),
    acts_fence (exec_fenceAcq ..), acts_fence (exec_fenceRel ..), acts_fence (exec_fenceFull ..)⟩

/-- Settles O26. -/
theorem cbinvResults : Obligations.CbinvResults := by
  unfold Obligations.CbinvResults
  intro s g b
  exact acts_cbinv

end Sys2Proof.Machine
end

section
/-! PROOFS. Value queues at issue (R35, R228, R229): a push with a free place, in a run that replays nothing, is the push of its bundle, and a
pop waits at its queue. The theorem settles O27. -/

namespace Sys2Proof.Machine

section
variable {i : Instr} {s : State} {g : BitVec 4} {q : BitVec 6}

/-- The mode of the queue is the one that the operation asks for (R228, R310). -/
theorem State.modeCheck_none {ticket : Bool} {word : Nat} : s.modeCheck q ticket word = none ↔ (s.queue q).ticketMode = ticket := by
  simp [State.modeCheck, State.context7_none]

/-- A free place takes the push (R35). -/
theorem State.placeCheck_none {kind : Nat} (free : s.placeFree = true) : s.placeCheck q kind = none := by
  simp [State.placeCheck, free]

/-- A record that lies in the partition, aligned (R228). -/
theorem State.recordCheck_none {off : W64} (inside : off.toNat + 64 ≤ s.issue.scrSize) (aligned : off.toNat % 64 = 0) :
    firstOf (s.recordCheck off) = none := by
  simp [State.recordCheck, State.check_none.2, aligned, Nat.not_lt.2 inside]

/-- What a push leaves that performs: it counts as accepted, its entry waits for the end of the bundle, and its weight leaves the account
(R229, R353). -/
def State.pushed (s : State) (kind : Nat) (p : Push) (inside : Context → Context) : State := s.performed fun c =>
  let c := c.gate { kind := kind, target := p.qid.toNat }
  inside (({ c with flow := { c.flow with tail := { c.flow.tail with push := some p } } } : Context).account (-p.weight))

/-- In a run that replays nothing a push performs. -/
theorem State.pushIt_fresh (fresh : s.live.run.suppress = []) (kind : Nat) (p : Push) (inside : Context → Context) :
    (s.pushIt kind p inside).judge .performed = s.pushed kind p inside := by
  simp only [State.pushIt, State.mapLive_judge_performed, State.performed, Context.pass, Context.gateOf_fresh fresh]
  rfl

/-- A push whose checks hold, in a run that replays nothing. -/
theorem acts_push {names : List RegRef} {ok : Prop} {waits : List (Option Nat)} {late : List (Option Cause)} {act : State → State} {kind : Nat}
    {p : Push} {inside : Context → Context} (means : exec i s = s.issueOp (s.guard4 g) [] waits late act)
    (effect : act s = s.pushIt kind p inside) (fresh : s.live.run.suppress = []) (noWait : s.full names = true → ok → firstOf waits = none)
    (passes : ok → firstOf late = none) : Acts i s (s.guard4 g) names ok (s.pushed kind p inside) :=
  acts_of_issueOp means (by rw [effect, State.pushIt_fresh fresh]) fun _ full holds => ⟨rfl, noWait full holds, passes holds⟩

/-- A ticket that is not below NT and not queued is not stale (R228). -/
theorem VQueue.ticket_fresh {v : VQueue} {ticket : W64} (due : ticket.ult v.nt = false) (unqueued : ∀ e ∈ v.entries, e.ticket ≠ ticket) :
    (ticket.ult v.nt || v.entries.any fun e => e.ticket = ticket) = false := by
  simpa [due] using unqueued

section
variable (fresh : s.live.run.suppress = []) (free : s.placeFree = true)
include fresh free

/-- PUSH (R228). -/
theorem acts_plainPush {r : BitVec 5} : Acts (.push g q r) s (s.guard4 g) [aRef r] ((s.queue q).ticketMode = false)
    (s.pushed kPush { qid := q, payload := (s.a r).zeroExtend 512, weight := 0, ticket := 0, poisoned := false } id) :=
  acts_push (exec_push ..) rfl fresh (fun full _ => State.noWait_of_full full) fun mode => by
    rw [State.modeCheck_none.2 mode, State.placeCheck_none free, firstOf_none, firstOf_none, firstOf_nil]

/-- PUSHT (R228). -/
theorem acts_pusht {r t : BitVec 5} : Acts (.pusht g q r t) s (s.guard4 g) [aRef r, aRef t]
    ((s.queue q).ticketMode = true ∧ (s.a t).ult (s.queue q).nt = false ∧ ∀ e ∈ (s.queue q).entries, e.ticket ≠ s.a t)
    (s.pushed kPusht { qid := q, payload := (s.a r).zeroExtend 512, weight := 0, ticket := s.a t, poisoned := false } id) := by
  have means := exec_pusht g q r t s
  rw [execPusht] at means
  refine acts_push means rfl fresh (fun full _ => State.noWait_of_full full) fun ⟨mode, due, unqueued⟩ => ?_
  rw [State.modeCheck_none.2 mode, State.placeCheck_none free, VQueue.ticket_fresh due unqueued, Bool.false_and, State.check_false]
  rfl

/-- PUSHQW, of a weight that MYW covers (R228). -/
theorem acts_pushqw {r w : BitVec 5} : Acts (.pushqw g q r w) s (s.guard4 g) [aRef r, aRef w]
    (s.mywWait = none ∧ (s.queue q).ticketMode = false ∧ (s.a w).toNat ≤ s.issue.sys.myw.toNat)
    (s.pushed kPushqw { qid := q, payload := (s.a r).zeroExtend 512, weight := s.a w, ticket := 0, poisoned := false }
      fun c => c.fly 1 5 (.mywSub (s.a w))) := by
  refine acts_push (exec_pushqw ..) rfl fresh (fun full ⟨noSplit, _⟩ => ?noWait) fun ⟨_, mode, covered⟩ => ?noCause
  case noWait =>
    rw [State.waitRegs_full.2 full, noSplit]
    rfl
  case noCause =>
    have notMore : s.issue.sys.myw.ult (s.a w) = false := decide_eq_false (Nat.not_lt.2 covered)
    rw [State.modeCheck_none.2 mode, State.placeCheck_none free, notMore, State.check_false]
    rfl

/-- PUSHR (R228). -/
theorem acts_pushr {r : BitVec 5} : Acts (.pushr g q r) s (s.guard4 g) [aRef r]
    ((s.queue q).ticketMode = false ∧ (s.a r).toNat + 64 ≤ s.issue.scrSize ∧ (s.a r).toNat % 64 = 0)
    (s.pushed kPushr { qid := q, payload := BitVec.ofNat 512 (leNat (s.issue.scrView s.tick (s.a r).toNat 64)), weight := 0, ticket := 0,
                       poisoned := (s.issue.viewMarked? s.tick (s.a r).toNat 64).isSome } id) := by
  have means := exec_pushr g q r s
  rw [execPushr] at means
  refine acts_push means rfl fresh (fun full _ => State.noWait_of_full full) fun ⟨mode, inside, aligned⟩ => ?_
  rw [State.modeCheck_none.2 mode, State.placeCheck_none free, firstOf_none, firstOf_none, State.recordCheck_none inside aligned]

end

end

/-- Settles O27: each push by its lemma; POP has no check, and POPR those of its record. -/
theorem queueOperationResults : Obligations.QueueOperationResults := by
  unfold Obligations.QueueOperationResults
  intro s g q r t v fresh off record push item
  exact ⟨fun ⟨replaysNone, free⟩ => acts_plainPush replaysNone free, fun ⟨replaysNone, free⟩ => acts_pusht replaysNone free,
    fun ⟨replaysNone, free⟩ => acts_pushqw replaysNone free, fun ⟨replaysNone, free⟩ => acts_pushr replaysNone free,
    acts_form (exec_pop ..) id (fun _ _ => rfl) fun _ => rfl,
    acts_form (exec_popr ..) id (fun _ _ => rfl) fun ⟨inside, aligned⟩ => State.recordCheck_none inside aligned⟩

end Sys2Proof.Machine
end

section
/-! PROOFS. Copies at issue (R241 to R244): every copy waits for its registers and a free thread, has the checks of its length word and its entry, and
then the limits of its own, which are the same with a dependence counter. The theorem settles O29. -/

namespace Sys2Proof.Machine

section
variable {s : State} {t : BitVec 6} {d r l : BitVec 5}

/-! ### Checks that hold -/

/-- A length word whose reserved bits are zero (R241). -/
theorem State.lenCheck_none {dc : Bool} {word : Nat} :
    s.lenCheck l dc word = none ↔ (s.a l).extractLsb' 32 16 = 0 ∧ (dc = false → (s.a l).extractLsb' 48 16 = 0) := by
  simp [State.lenCheck, State.context7_none]

/-- An entry in the state that a copy asks for (R245). -/
theorem State.tileCheck_of_state {st : BitVec 2} (inState : teSt (s.issue.te t.toNat) = st) : s.tileCheck t (· ≠ st) = none :=
  State.tileCheck_none.2 (decide_eq_false (not_not.2 inState))

/-- A length of 32 bits is a number of units. -/
theorem State.lengthUnit_none {len : W32} {unit : Nat} : s.unitCheck (BitVec.ofNat 64 len.toNat) unit = none ↔ len.toNat % unit = 0 := by
  have fits : len.toNat < 2 ^ 64 := Nat.lt_trans len.isLt (by decide)
  rw [State.unitCheck_none, BitVec.toNat_ofNat, Nat.mod_eq_of_lt fits]

/-! ### Copies -/

/-- A thread is free for a copy, the upper half of its length word is as R241 asks, and its entry, where it counts by one, is in the state st. -/
def State.copyStarts (s : State) (t : BitVec 6) (l : BitVec 5) (dc : Bool) (st : BitVec 2) : Prop :=
  (s.sumCore Context.threads < 64 ∧ (s.a l).extractLsb' 32 16 = 0) ∧
    (dc = false → (s.a l).extractLsb' 48 16 = 0 ∧ teSt (s.issue.te t.toNat) = st)

/-- Any copy: the checks of its length word and its entry, with those of its format between them, then its own limits. -/
theorem acts_copy {i : Instr} {dc : Bool} {names : List RegRef} {ok : Prop} {early formats limits : List (Option Cause)} {word : Nat}
    {st : BitVec 2} {act : State → State}
    (means : exec i s = s.issueOp true early [s.waitRegs names, s.threadWait]
      (s.lenCheck l dc word :: (formats ++ (if dc then none else s.tileCheck t (· ≠ st)) :: limits)) act)
    (starts : ok → s.copyStarts t l dc st) (claimed : ok → firstOf early = none) (formatted : ok → firstOf formats = none)
    (within : ok → firstOf limits = none) : Acts i s true names ok ((act s).judge .performed) := by
  refine acts_of_issueOp means rfl fun _ full holds => ?_
  obtain ⟨⟨thread, reserved⟩, entry⟩ := starts holds
  refine ⟨claimed holds, ?noWait, ?noCause⟩
  case noWait => rw [State.waitRegs_full.2 full, State.threadWait_none.2 thread, firstOf_none, firstOf_none, firstOf_nil]
  case noCause =>
    have length : s.lenCheck l dc word = none := State.lenCheck_none.2 ⟨reserved, fun byEntry => (entry byEntry).1⟩
    have counted : (if dc then none else s.tileCheck t (· ≠ st)) = none := by
      cases dc with
      | true => rfl
      | false => exact State.tileCheck_of_state (entry rfl).2
    rw [length, counted, firstOf_none, firstOf_append, formatted holds, firstOf_none, within holds]
    rfl

/-- The length that a copy's length word gives (R241). -/
abbrev State.copyLength (s : State) (l : BitVec 5) : Nat := (low32 (s.a l)).toNat

section
variable {i : Instr} {dc : Bool} {ok : Prop}

/-- CG2S (R243). -/
theorem acts_cg2s (means : exec i s = s.cg2s t d r l dc) (starts : ok → s.copyStarts t l dc teFilling)
    (within : ok → 64 ≤ s.copyLength l ∧ s.copyLength l ≤ lenMax ∧ s.copyLength l % 64 = 0 ∧
      (s.a d).toNat + s.copyLength l ≤ s.issue.scrSize ∧ (s.a r).toNat % 64 = 0 ∧ (s.a d).toNat % 64 = 0) :
    Acts i s true [aRef d, aRef r, aRef l] ok (s.performed fun c =>
      c.fork (s.thread .g2s t (s.dcOf l dc) (s.a d) (s.a r) (s.copyLength l) 0 0 ([], []))) := by
  unfold State.cg2s at means
  refine acts_copy (formats := []) means starts (fun _ => rfl) (fun _ => rfl) fun holds => ?_
  obtain ⟨least, most, units, fits, source, dest⟩ := within holds
  rw [State.limitCheck_none.2 ⟨least, most⟩, State.scrEnd_none.2 fits, State.globalCheck_none.2 source, State.unitCheck_none.2 dest,
    State.lengthUnit_none.2 units]
  rfl

/-- CS2G (R243). -/
theorem acts_cs2g (means : exec i s = s.cs2g t d r l dc) (starts : ok → s.copyStarts t l dc teDraining)
    (within : ok → 64 ≤ s.copyLength l ∧ s.copyLength l ≤ lenMax ∧ s.copyLength l % 64 = 0 ∧
      (s.a r).toNat + s.copyLength l ≤ s.issue.scrSize ∧ (s.a r).toNat % 64 = 0 ∧ (s.a d).toNat % 64 = 0) :
    Acts i s true [aRef d, aRef r, aRef l] ok (s.performed fun c => c.forkGated { kind := kCs2g, target := 0 } false
      (s.thread .s2g t (s.dcOf l dc) (s.a d) (s.a r) (s.copyLength l) 0 0 (s.issue.scrSource s.tick (s.a r).toNat (s.copyLength l)))) := by
  unfold State.cs2g at means
  refine acts_copy (formats := []) means starts (fun _ => rfl) (fun _ => rfl) fun holds => ?_
  obtain ⟨least, most, units, fits, source, dest⟩ := within holds
  rw [State.limitCheck_none.2 ⟨least, most⟩, State.scrEnd_none.2 fits, State.globalCheck_none.2 dest, State.unitCheck_none.2 source,
    State.lengthUnit_none.2 units]
  rfl

/-- CG2G (R243). -/
theorem acts_cg2g (means : exec i s = s.cg2g t d r l dc) (starts : ok → s.copyStarts t l dc teFilling)
    (within : ok → 64 ≤ s.copyLength l ∧ s.copyLength l ≤ lenMax ∧ s.copyLength l % 64 = 0 ∧
      (s.a r).toNat % 64 = 0 ∧ (s.a d).toNat % 64 = 0) :
    Acts i s true [aRef d, aRef r, aRef l] ok (s.performed fun c => c.forkGated { kind := kCg2g, target := 0 } true
      (s.thread .g2g t (s.dcOf l dc) (s.a d) (s.a r) (s.copyLength l) 0 0 ([], []))) := by
  unfold State.cg2g at means
  refine acts_copy (formats := []) means starts (fun _ => rfl) (fun _ => rfl) fun holds => ?_
  obtain ⟨least, most, units, source, dest⟩ := within holds
  rw [State.limitCheck_none.2 ⟨least, most⟩, State.globalCheck_none.2 dest, State.globalCheck_none.2 source, State.lengthUnit_none.2 units]
  rfl

/-- CXRED (R244). -/
theorem acts_cxred (means : exec i s = s.cxred t d r l dc) (starts : ok → s.copyStarts t l dc teDraining)
    (within : ok → 4 ≤ s.copyLength l ∧ s.copyLength l ≤ 2 ^ 24 - 4 ∧ s.copyLength l % 4 = 0 ∧
      (s.a r).toNat + s.copyLength l ≤ s.issue.scrSize ∧ (s.a r).toNat % 4 = 0 ∧ (s.a d).toNat % 64 = 0) :
    Acts i s true [aRef d, aRef r, aRef l] ok (s.performed fun c => c.forkGated { kind := kCxred, target := (s.a d).toNat } false
      (s.thread .xred t (s.dcOf l dc) (s.a d) (s.a r) (s.copyLength l) 0 0 (s.issue.scrSource s.tick (s.a r).toNat (s.copyLength l)))) := by
  unfold State.cxred at means
  refine acts_copy (formats := []) means starts (fun _ => rfl) (fun _ => rfl) fun holds => ?_
  obtain ⟨least, most, units, fits, source, dest⟩ := within holds
  rw [State.limitCheck_none.2 ⟨least, most⟩, State.scrEnd_none.2 fits, State.globalCheck_none.2 dest, State.unitCheck_none.2 source,
    State.lengthUnit_none.2 units]
  rfl

end

/-! ### Copies to a slot -/

section
variable {site : SlotDest} {ok : Prop}

/-- The slot of a copy is claimed where it has an owner, and its format is valid (R63, R245). -/
def State.slotHeld (s : State) (t : BitVec 6) : Prop :=
  (t.toNat < 32 → teClaimed (s.issue.te t.toNat) = true) ∧ fmtValid (s.fmtReg (teFmt (s.issue.te t.toNat))) = true

theorem State.claimCheck_of_held (held : s.slotHeld t) : firstOf [s.claimCheck t] = none := by
  rw [State.claimCheck_none.2 held.1, firstOf_none, firstOf_nil]

theorem State.fmtCheck_of_held (held : s.slotHeld t) : firstOf [s.fmtCheck 7 (teFmt (s.issue.te t.toNat))] = none := by
  rw [State.fmtCheck_none.2 held.2, firstOf_none, firstOf_nil]

/-- CG2O (R243). -/
theorem acts_cg2o (starts : ok → s.copyStarts site.te l (site.dc = 1) teFilling) (held : ok → s.slotHeld site.te)
    (within : ok → 256 ≤ s.copyLength l ∧ s.copyLength l ≤ 2 ^ 32 - 64 ∧ s.copyLength l % 64 = 0 ∧ (s.a r).toNat % 64 = 0) :
    Acts (.cg2o site d r l) s true [aRef r, aRef l] ok (s.performed fun c =>
      c.fork (s.thread .g2o site.te (s.dcOf l (site.dc = 1)) (zext64 site.te) (s.a r) (streamBytes (s.copyFmt site.te)) (s.copyLength l)
        (s.copyFmt site.te) ([], []))) := by
  have means := exec_cg2o site d r l s
  unfold execCg2o at means
  refine acts_copy (formats := [_]) means starts (fun holds => State.claimCheck_of_held (held holds))
    (fun holds => State.fmtCheck_of_held (held holds)) fun holds => ?_
  obtain ⟨least, most, units, source⟩ := within holds
  rw [State.limitCheck_none.2 ⟨least, most⟩, State.globalCheck_none.2 source, State.lengthUnit_none.2 units]
  rfl

/-- CS2O (R243). -/
theorem acts_cs2o (starts : ok → s.copyStarts site.te l (site.dc = 1) teFilling) (held : ok → s.slotHeld site.te)
    (within : ok → 64 ≤ s.copyLength l ∧ s.copyLength l ≤ streamBytes (s.copyFmt site.te) ∧ s.copyLength l % 64 = 0 ∧
      (s.a r).toNat + s.copyLength l ≤ s.issue.scrSize ∧ (s.a r).toNat % 64 = 0) :
    Acts (.cs2o site d r l) s true [aRef r, aRef l] ok (s.performed fun c =>
      c.fork (s.thread .s2o site.te (s.dcOf l (site.dc = 1)) (zext64 site.te) (s.a r) (s.copyLength l) 0 (s.copyFmt site.te)
        (s.issue.scrSource s.tick (s.a r).toNat (s.copyLength l)))) := by
  have means := exec_cs2o site d r l s
  unfold execCs2o at means
  refine acts_copy (formats := [_]) means starts (fun holds => State.claimCheck_of_held (held holds))
    (fun holds => State.fmtCheck_of_held (held holds)) fun holds => ?_
  obtain ⟨least, most, units, fits, source⟩ := within holds
  rw [State.limitCheck_none.2 ⟨least, most⟩, State.scrEnd_none.2 fits, State.unitCheck_none.2 source, State.lengthUnit_none.2 units]
  rfl

end

end

/-- Settles O29: each copy by its lemma, once by its entry and once by a dependence counter. -/
theorem copyResults : Obligations.CopyResults := by
  unfold Obligations.CopyResults
  intro s t d r l x len te fmt free plain unit inside held start none_ from_ both slot
  have entry {st : BitVec 2} {ok : Prop} : free ∧ plain ∧ teSt te = st ∧ ok → s.copyStarts t l false st :=
    fun ⟨starts, low, inState, _⟩ => ⟨starts, fun _ => ⟨low, inState⟩⟩
  have counter {u : BitVec 6} {st : BitVec 2} {ok : Prop} : free ∧ ok → s.copyStarts u l true st := fun ⟨starts, _⟩ => ⟨starts, nofun⟩
  have limits {st : BitVec 2} {ok : Prop} : free ∧ plain ∧ teSt te = st ∧ ok → ok := fun ⟨_, _, _, within⟩ => within
  have slotEntry {st : BitVec 2} {valid ok : Prop} : free ∧ plain ∧ held ∧ valid ∧ teSt te = st ∧ ok → s.copyStarts t l false st :=
    fun ⟨starts, low, _, _, inState, _⟩ => ⟨starts, fun _ => ⟨low, inState⟩⟩
  refine ⟨⟨acts_cg2s (exec_cg2s ..) entry limits, acts_cg2s (exec_cg2sDc ..) counter And.right⟩,
    ⟨acts_cs2g (exec_cs2g ..) entry limits, acts_cs2g (exec_cs2gDc ..) counter And.right⟩,
    ⟨acts_cg2g (exec_cg2g ..) entry limits, acts_cg2g (exec_cg2gDc ..) counter And.right⟩,
    ⟨acts_cxred (exec_cxred ..) entry limits, acts_cxred (exec_cxredDc ..) counter And.right⟩, ⟨?_, ?_⟩, ⟨?_, ?_⟩⟩
  · exact acts_cg2o slotEntry (fun ⟨_, _, owned, valid, _⟩ => ⟨owned, valid⟩) fun ⟨_, _, _, _, _, within⟩ => within
  · exact acts_cg2o counter (fun ⟨_, owned, valid, _⟩ => ⟨owned, valid⟩) fun ⟨_, _, _, within⟩ => within
  · exact acts_cs2o slotEntry (fun ⟨_, _, owned, valid, _⟩ => ⟨owned, valid⟩) fun ⟨_, _, _, _, _, within⟩ => within
  · exact acts_cs2o counter (fun ⟨_, owned, valid, _⟩ => ⟨owned, valid⟩) fun ⟨_, _, _, within⟩ => within

end Sys2Proof.Machine
end

section
/-! PROOFS. Sectors of copies and rows of gathers where nothing holds them back (R242, R244, R246, R329, R348, R350): each lands, or its thread fails
where its source, or else its destination, cannot be had. The theorem settles O38. -/

namespace Sys2Proof.Machine

/-- The lines of 64 bytes that parts of memory consist of. -/
def partLines (parts : List (Nat × Nat)) : List (Nat × Nat) := parts.flatMap fun p => (List.range (p.2 / 64)).map fun i => (p.1 + 64 * i, 64)

/-- Where parts of memory lie, by translations that are at hand. -/
def State.placesAt (s : State) (w : Agent) (kind : AccKind) (parts : List (Nat × Nat)) : List (Nat × Nat) := (s.placesOf w kind parts).getD []

section
variable {s : State} {uid id k : Nat} {c : Context}

/-! ### Sectors of copies (R242, R244) -/

section
variable {x : Copy}

/-- What a sector that nothing holds back comes to: the state t, or the failure of its copy where its source, or else its destination, cannot be had
(R329, R348, R350). -/
def State.sectorOutcome (s : State) (uid id : Nat) (x : Copy) (source dest : Option (Byte × Byte × W64)) (t : State) : Out :=
  match source, dest with
  | some (code, reason, va), _ => .next ((s.mapCtx uid fun c => c.failCopy id code reason va 0).reap uid)
  | none, some (code, reason, va) => .next ((s.mapCtx uid fun c => c.failCopy id code reason va (if x.kind = .xred then 3 else 1)).reap uid)
  | none, none => .next t

/-- The three clauses of a sector are its outcome. -/
theorem sectorOutcome_clauses {i : Instr} {source dest : Option (Byte × Byte × W64)} {t : State}
    (means : exec i s = s.sectorOutcome uid id x source dest t) :
    (source = none → dest = none → exec i s = .next t) ∧
    (∀ code reason va, source = some (code, reason, va) →
      exec i s = .next ((s.mapCtx uid fun c => c.failCopy id code reason va 0).reap uid)) ∧
    ∀ code reason va, source = none → dest = some (code, reason, va) →
      exec i s = .next ((s.mapCtx uid fun c => c.failCopy id code reason va (if x.kind = .xred then 3 else 1)).reap uid) := by
  refine ⟨fun noSource noDest => ?_, fun code reason va fails => ?_, fun code reason va noSource fails => ?_⟩
  · rw [means, noSource, noDest, State.sectorOutcome]
  · rw [means, fails, State.sectorOutcome]
  · rw [means, noSource, fails, State.sectorOutcome]

/-- What a sector leaves that lands: its bytes at to_, its entry counted, its write seen by what waits for those bytes, and the sector done (R242). -/
def State.sectorLanded (s : State) (uid id k : Nat) (c : Context) (x : Copy) (src : List Chunk) (to_ seen : List (Nat × Nat)) : State :=
  let t := (((s.moveSector uid c x k src to_).countSector uid c x k).sectorSeen uid x seen).mapCtx uid fun c => c.sectorDone id k
  (t.mapCtx uid fun c => t.tagStep uid c).reap uid

/-- A sector whose translations are at hand and that nothing holds back comes to its outcome (R242). -/
theorem execCopySectorLands_outcome (found : s.ctx? uid = some c) (free : s.popBefore uid id = false)
    (listed : c.mem.copies.find? (fun x => x.id = id) = some x) (moves : c.threadsMove = true ∨ x.quench = true)
    (before : x.te.isSome = true → s.triedNow c = false) (left : x.left.contains k = true) (sound : x.failed = none)
    (notPaged : x.paged.contains k = false) (notHeld : c.mem.copyHeld x k (s.counterParts uid (c.agentOf uid id) x) = false)
    (translated : s.sectorNeed uid (c.agentOf uid id) x k = none) :
    let w := c.agentOf uid id
    let from_ := partLines (x.sourceParts k)
    let to_ := partLines (x.destParts k)
    let written := to_ ++ s.counterParts uid w x
    s.passedThere uid c.id.core (s.placesAt w .read from_) = false →
    execCopySectorLands uid id k s = s.sectorOutcome uid id x (s.moveFault c from_ (s.placesAt w .read from_))
      (s.moveFault c written (s.placesAt w .write written))
      (s.sectorLanded uid id k c x (s.chunksOf c.mem x.bclk (from_.zip (s.placesAt w .read from_))) (s.placesAt w .write to_)
        (s.placesAt w .write written)) := by
  intro w from_ to_ written notPassed
  have untried : (x.te.isSome && s.triedNow c) = false := by simpa using before
  have moving : (c.threadsMove || x.quench) = true := by simpa using moves
  simp only [execCopySectorLands, found, listed, untried, moving, left, sound, notPaged, notHeld, free, translated]
  refine (if_neg (by simp)).trans ((if_neg (Bool.eq_false_iff.1 notPassed)).trans ?_)
  rfl

end

/-! ### Rows of gathers (R246) -/

section
variable {g : Gather}

/-- What a row that nothing holds back comes to: the state t, or the failure of its gather where its source cannot be had (R329, R348, R350). -/
def State.rowOutcome (s : State) (uid : Nat) (g : Gather) (source : Option (Byte × Byte × W64)) (t : State) : Out :=
  match source with
  | some (code, reason, va) => .next (s.mapCtx uid fun c => c.failGather g code reason va)
  | none => .next t

/-- The two clauses of a row are its outcome. -/
theorem rowOutcome_clauses {i : Instr} {source : Option (Byte × Byte × W64)} {t : State} (means : exec i s = s.rowOutcome uid g source t) :
    (source = none → exec i s = .next t) ∧
    ∀ code reason va, source = some (code, reason, va) → exec i s = .next (s.mapCtx uid fun c => c.failGather g code reason va) := by
  refine ⟨fun noSource => ?_, fun code reason va fails => ?_⟩
  · rw [means, noSource, State.rowOutcome]
  · rw [means, fails, State.rowOutcome]

/-- What a row leaves that lands (R246). -/
def State.rowLanded (s : State) (uid : Nat) (g : Gather) (row : List Chunk) : State :=
  let t := s.mapCtx uid fun c => c.landRow g row
  t.mapCtx uid fun c => t.tagStep uid c

/-- A row with an index, into a FILLING entry, that nothing holds back comes to its outcome (R246). -/
theorem execGatherRowLands_outcome (found : s.ctx? uid = some c) (free : s.popBefore uid id = false)
    (listed : c.mem.gathers.find? (fun g => g.id = id) = some g) (moves : c.threadsMove = true) (before : s.triedNow c = false)
    (indexed : g.rowParts ≠ []) (waiting : g.phase = .waiting) (filling : teSt (c.te g.te.toNat) = teFilling)
    (unfenced : c.mem.heldBefore g.id true = false) (notHeld : c.mem.forkWaits g.id g.bclk false g.rowParts [] = false)
    (translated : s.missingIn (c.agentOf uid id) .read g.rowParts = none) :
    let from_ := partLines g.rowParts
    let ps := s.placesAt (c.agentOf uid id) .read from_
    s.passedThere uid c.id.core ps = false →
    execGatherRowLands uid id s = s.rowOutcome uid g (s.moveFault c from_ ps)
      (s.rowLanded uid g (s.rowChunks c.mem g (from_.zip ps))) := by
  intro from_ ps notPassed
  have indices : g.rowParts.isEmpty = false := by simpa using indexed
  simp only [execGatherRowLands, found, listed, before, moves, indices, waiting, filling, unfenced, notHeld, free, translated]
  refine (if_neg (by simp)).trans ((if_neg (Bool.eq_false_iff.1 notPassed)).trans ?_)
  rfl

end

end

/-- Settles O38: each event comes to its outcome, and its clauses are the outcome's. -/
theorem copyEventResults : Obligations.CopyEventResults := by
  unfold Obligations.CopyEventResults
  intro s uid id k c x g found free agent lines places tagged
  refine ⟨?sector, ?row⟩
  case sector =>
    intro listed moves before left sound notPaged notHeld translated from_ to_ count source dest notPassed
    exact sectorOutcome_clauses (execCopySectorLands_outcome found free listed moves before left sound notPaged notHeld translated notPassed)
  case row =>
    intro listed moves before indexed waiting filling unfenced notHeld translated from_ source notPassed
    exact rowOutcome_clauses
      (execGatherRowLands_outcome found free listed moves before indexed waiting filling unfenced notHeld translated notPassed)

end Sys2Proof.Machine
end

section
/-! PROOFS. A store that a later write of its context has passed (R254): it keeps the place at which it has come to its cluster, whatever becomes of its
page (entry 85), so that it drains there and not where its address lies now. The theorem refutes O53. -/

namespace Sys2Proof.Machine

/-- A store of one byte to address 0x3000 that has come to its cluster at place 0x5000. -/
def passedStore : Acc :=
  { id := 0, off := 0, bclk := 0, va := 0x3000, op := .store [5], ord := 0, wic := none, done := 0, phase := .waiting, placed := [(0x5000, 1)] }

def passedContext : Context := { placedContext with mem := { placedContext.mem with outs := [passedStore] } }

/-- The translation held by now leads the first gigabyte to the same addresses of the device. -/
def passedState : State :=
  { State.reset with
    ctxs := [(1, passedContext)]
    mmu := { Mmu.fresh with
      binds := [(0, { walkd := 0, objt := 0, qdt := 0, dept := 0, save := 0, ovfl := 0, objn := 0, qdn := 0, saven := 0, ovfn := 0, desc := none })]
      tlb := [{ unit := 0, pasid := 0, walkd := 0, base := 0, size := 30, pa := 0, w := true, nx := false, dirty := true }] } }

/-- What the store leaves as it drains. -/
def passedDrained : State :=
  passedState.hideFrom (passedState.performWrite 1 passedContext passedStore [(0x5000, 1)]) 1 passedStore [(0x5000, 1)]

theorem passedStore_address :
    passedState.spans passedContext.agent passedStore.cellVa passedStore.cellSize passedStore.op.kind = some [(0x3000, 1)] := by decide +kernel

theorem passedStore_place : passedState.accPlaces 1 passedContext passedStore = some [(0x5000, 1)] := rfl

theorem passedStore_sound (place : Nat) (h : place = 0x3000 ∨ place = 0x5000) :
    passedState.accFault passedContext passedStore [(place, 1)] = none := by
  rcases h with rfl | rfl <;> decide +kernel

theorem passedStore_drains : exec (.writeDrained 1 0) passedState = .next passedDrained := by
  rw [exec_writeDrained, execWriteDrained_outcome (c := passedContext) (a := passedStore) (ps := [(0x5000, 1)])
    (found := rfl) (out := rfl) (waiting := rfl) (notHeld := by decide +kernel) (free := by decide +kernel) (places := passedStore_place)
    (drains := rfl) (writes := rfl) (sized := by decide), State.accOutcome, passedStore_sound _ (.inr rfl)]
  rfl

/-- Refutes O53: the store drains at place 0x5000, which is none of the places of its address. -/
theorem not_storeDrains : ¬ Obligations.StoreDrains := by
  unfold Obligations.StoreDrains
  intro drains
  obtain ⟨frame, -⟩ := drains passedState passedDrained 1 0 passedContext passedStore [5] [(0x3000, 1)] rfl rfl rfl passedStore_address
    (passedStore_sound _ (.inl rfl)) rfl passedStore_drains
  have kept : passedDrained.byte 0x5000 = passedState.byte 0x5000 := frame 0x5000 fun p at_ => by
    rw [List.mem_singleton.1 at_]
    exact .inr (by decide)
  have written : passedDrained.byte 0x5000 = 5 := by decide +kernel
  have before : passedState.byte 0x5000 = 0 := rfl
  rw [written, before] at kept
  exact absurd kept (by decide)

end Sys2Proof.Machine
end

section
/-! PROOFS. Memory keeps its canonical form (R251). All that writes memory writes it by stores, so that every function of the model that makes a state
from a state keeps the form: one lemma for each, `MemoryCanonical.f` for the function `f`, in the order in which they call each other. The theorem at the
end settles O60. -/

namespace Sys2Proof.Machine

/-- The form that a result carries, if it is a next state. -/
def NextCanonical : Out → Prop
  | .next t => MemoryCanonical t
  | _ => True

theorem MemoryCanonical.next {t : State} (h : MemoryCanonical t) : NextCanonical (.next t) := h

theorem NextCanonical.refused {r : Refusal} : NextCanonical (.refused r) := trivial

/-- States with the same memory have the form together. -/
theorem MemoryCanonical.same {s t : State} (h : MemoryCanonical s) (mem : t.mem = s.mem) : MemoryCanonical t := by
  rw [MemoryCanonical, mem]
  exact h

theorem MemoryCanonical.ite {p : Prop} [Decidable p] {t u : State} (yes : MemoryCanonical t) (no : MemoryCanonical u) :
    MemoryCanonical (if p then t else u) := by
  split
  · exact yes
  · exact no

/-- A pair's first part has the form where the pair does. -/
theorem MemoryCanonical.of_fst {α : Type} {p : State × α} {t : State} {r : α} (h : MemoryCanonical p.1) (e : p = (t, r)) :
    MemoryCanonical t := by
  subst e
  exact h

section
variable {s : State}

/-! ### Bytes and blocks (R251, R343) -/

theorem MemoryCanonical.store {key bs} (h : MemoryCanonical s) : MemoryCanonical (s.store key bs) := s.store_wf key bs h

theorem MemoryCanonical.storeBlock {key x} (h : MemoryCanonical s) : MemoryCanonical (s.storeBlock key x) := h.store

theorem MemoryCanonical.poisonLines {key n} (h : MemoryCanonical s) : MemoryCanonical (s.poisonLines key n) := h

theorem MemoryCanonical.writeSpans {ps bs} (h : MemoryCanonical s) : MemoryCanonical (s.writeSpans ps bs) := by
  induction ps generalizing s bs with
  | nil => exact h
  | cons p t ih => exact ih h.store

theorem MemoryCanonical.storePages {ks bs} (h : MemoryCanonical s) : MemoryCanonical (s.storePages ks bs) := by
  induction ks generalizing s bs with
  | nil => exact h
  | cons k t ih => exact ih h.store

theorem MemoryCanonical.poisonSpans {ps} (h : MemoryCanonical s) : MemoryCanonical (s.poisonSpans ps) :=
  List.foldlRecOn ps _ h fun _ h _ _ => h.poisonLines

theorem MemoryCanonical.rewriteBlock {key x} (h : MemoryCanonical s) : MemoryCanonical (s.rewriteBlock key x) := by
  unfold State.rewriteBlock
  split
  · exact h.storeBlock.poisonLines
  · exact h.storeBlock

theorem MemoryCanonical.markFaulted {key} (h : MemoryCanonical s) : MemoryCanonical (s.markFaulted key) := by
  unfold State.markFaulted
  exact h.rewriteBlock

theorem MemoryCanonical.newQD {key b} (h : MemoryCanonical s) : MemoryCanonical (s.newQD key b) := by
  unfold State.newQD
  exact h.store

theorem MemoryCanonical.writeQD {key b} (h : MemoryCanonical s) : MemoryCanonical (s.writeQD key b) := by
  unfold State.writeQD
  split
  · exact h.newQD.poisonLines
  · exact h.newQD

theorem MemoryCanonical.addCell {ps x poisoned} (h : MemoryCanonical s) : MemoryCanonical (s.addCell ps x poisoned) := by
  unfold State.addCell
  dsimp only
  split
  · exact h.writeSpans.poisonSpans
  · exact h.writeSpans

theorem MemoryCanonical.addCells {ps xs} (h : MemoryCanonical s) : MemoryCanonical (s.addCells ps xs) := by
  induction ps generalizing s xs with
  | nil => exact h
  | cons p t ih => cases xs with
    | nil => exact h
    | cons x xs => exact ih h.addCell

theorem MemoryCanonical.putChunks {ps xs} (h : MemoryCanonical s) : MemoryCanonical (s.putChunks ps xs) := by
  induction ps generalizing s xs with
  | nil => exact h
  | cons p t ih => cases xs with
    | nil => exact h
    | cons x xs =>
      unfold State.putChunks
      dsimp only
      split
      · exact ih h.store.poisonLines
      · exact ih h.store

theorem MemoryCanonical.readCells {rm ks} (h : MemoryCanonical s) : MemoryCanonical (s.readCells rm ks).1 := by
  induction ks generalizing s with
  | nil => exact h
  | cons k t ih => exact ih h.store

/-! ### Translations (R70 to R74) -/

theorem MemoryCanonical.holdPage {a kind base size pa w nx entry esize value apos dpos} (h : MemoryCanonical s) :
    MemoryCanonical (s.holdPage a kind base size pa w nx entry esize value apos dpos) := h.store

theorem MemoryCanonical.findPage {w va kind t key} (h : MemoryCanonical s) (e : s.findPage w va kind = some (t, key)) : MemoryCanonical t := by
  unfold State.findPage at e
  split at e
  · cases e
    exact h
  · rw [Option.bind_eq_some_iff] at e
    obtain ⟨b, -, e⟩ := e
    split at e
    · cases e
    · split at e
      · cases e
        exact h.holdPage
      · cases e

theorem MemoryCanonical.findOpen {w va kind t key} (h : MemoryCanonical s) (e : s.findOpen w va kind = some (t, key)) : MemoryCanonical t :=
  h.findPage (Option.eq_some_of_filter_eq_some e)

theorem MemoryCanonical.reachDone {w va kind} (h : MemoryCanonical s) : MemoryCanonical (s.reachDone w va kind) := h

theorem MemoryCanonical.requestPage {w va kind perm} (h : MemoryCanonical s) : MemoryCanonical (s.requestPage w va kind perm) := by
  unfold State.requestPage
  dsimp only
  split <;> exact h

theorem MemoryCanonical.reachFails {w va kind perm} (h : MemoryCanonical s) : MemoryCanonical (s.reachFails w va kind perm).1 := by
  unfold State.reachFails
  split
  · exact h
  · split
    · exact h
    · split
      · exact h
      · exact h.requestPage

theorem MemoryCanonical.reach {w va kind} (h : MemoryCanonical s) : MemoryCanonical (s.reach w va kind).1 := by
  unfold State.reach
  split
  · exact h
  · split
    · exact h
    · split
      · exact h
      · split
        · exact h
        · exact h
        · exact h
        · exact h.reachFails
        · exact h.reachFails
        · exact h.holdPage.reachDone

theorem MemoryCanonical.reachOpen {w va kind} (h : MemoryCanonical s) : MemoryCanonical (s.reachOpen w va kind).1 := by
  unfold State.reachOpen
  split
  · split <;> exact h.reach.of_fst ‹_›
  · exact h.reach

theorem MemoryCanonical.reachPages {w kind vas} (h : MemoryCanonical s) : MemoryCanonical (s.reachPages w kind vas).1 := by
  induction vas generalizing s with
  | nil => exact h
  | cons va t ih =>
    unfold State.reachPages
    split
    · exact h.reachOpen.of_fst ‹_›
    · exact h.reachOpen.of_fst ‹_›
    · have rest := ih (h.reachOpen.of_fst ‹_›)
      split
      · exact rest.of_fst ‹_›
      · exact rest

theorem MemoryCanonical.takeAfresh {w va line} (h : MemoryCanonical s) : MemoryCanonical (s.takeAfresh w va line) := by
  unfold State.takeAfresh
  dsimp only
  split <;> exact h

theorem MemoryCanonical.readTable {w va n} (h : MemoryCanonical s) : MemoryCanonical (s.readTable w va n).1 := by
  unfold State.readTable
  split
  · exact (h.reachOpen.of_fst ‹_›).takeAfresh
  · exact h.reachOpen.of_fst ‹_›

theorem MemoryCanonical.nameDomain {w idx} (h : MemoryCanonical s) : MemoryCanonical (s.nameDomain w idx).1 := by
  unfold State.nameDomain
  split
  · exact h
  · dsimp only
    split
    · exact h.readTable.of_fst ‹_›
    · exact h.readTable.of_fst ‹_›
    · have read := h.readTable.of_fst ‹_›
      split
      · exact read
      · split
        · have reached := read.reach.of_fst ‹_›
          split
          · exact reached
          · split
            · exact reached
            · split <;> exact reached
        · exact read.reach.of_fst ‹_›
        · exact read.reach.of_fst ‹_›

theorem MemoryCanonical.readTables {n r reader} (h : MemoryCanonical s) : MemoryCanonical (s.readTables n r reader).1 := by
  unfold State.readTables
  split
  · exact h
  · dsimp only
    split
    · exact h.readTable.of_fst ‹_›
    · exact h.readTable.of_fst ‹_›
    · have read := h.readTable.of_fst ‹_›
      split
      · exact read
      · split
        · exact read
        · split <;> exact read.nameDomain.of_fst ‹_›

/-! ### Updates of other parts of the state -/

/-- A function that keeps the form, taken over a list. -/
theorem MemoryCanonical.foldl {α : Type} {f : State → α → State} {l : List α} (h : MemoryCanonical s)
    (each : ∀ {u e}, MemoryCanonical u → MemoryCanonical (f u e)) : MemoryCanonical (l.foldl f s) :=
  List.foldlRecOn l f h fun _ h _ _ => each h

theorem MemoryCanonical.mapLive {f} (h : MemoryCanonical s) : MemoryCanonical (s.mapLive f) := h

theorem MemoryCanonical.withLive {c} (h : MemoryCanonical s) : MemoryCanonical { s with live := c } := h.same rfl

theorem MemoryCanonical.judge {v} (h : MemoryCanonical s) : MemoryCanonical (s.judge v) := h

theorem MemoryCanonical.mapCtx {uid f} (h : MemoryCanonical s) : MemoryCanonical (s.mapCtx uid f) := h

theorem MemoryCanonical.mapCore {n f} (h : MemoryCanonical s) : MemoryCanonical (s.mapCore n f) := h

theorem MemoryCanonical.mapCluster {g f} (h : MemoryCanonical s) : MemoryCanonical (s.mapCluster g f) := h

theorem MemoryCanonical.withdraw {uid} (h : MemoryCanonical s) : MemoryCanonical (s.withdraw uid) := h

theorem MemoryCanonical.dropCopies (h : MemoryCanonical s) : MemoryCanonical s.dropCopies := h

theorem MemoryCanonical.dropRequest {r} (h : MemoryCanonical s) : MemoryCanonical (s.dropRequest r) := h

theorem MemoryCanonical.tell {r to_ ended} (h : MemoryCanonical s) : MemoryCanonical (s.tell r to_ ended) := h

theorem MemoryCanonical.forget {r} (h : MemoryCanonical s) : MemoryCanonical (s.forget r) := h

theorem MemoryCanonical.reveal {but ps} (h : MemoryCanonical s) : MemoryCanonical (s.reveal but ps) := h

theorem MemoryCanonical.answer {bs} (h : MemoryCanonical s) : MemoryCanonical (s.answer bs) := h

theorem MemoryCanonical.dequeue {g q e} (h : MemoryCanonical s) : MemoryCanonical (s.dequeue g q e) := h

theorem MemoryCanonical.mapPort {p f} (h : MemoryCanonical s) : MemoryCanonical (s.mapPort p f) := h

/-! ### Traces, errors and faults (R292, R322, R342, R357) -/

theorem MemoryCanonical.record {core x} (h : MemoryCanonical s) : MemoryCanonical (s.record core x) := by
  unfold State.record
  dsimp only
  split
  · exact h
  · split <;> exact h

theorem MemoryCanonical.traceOf {core c x} (h : MemoryCanonical s) : MemoryCanonical (s.traceOf core c x) := by
  unfold State.traceOf
  split
  · exact h.record
  · exact h

theorem MemoryCanonical.trace {stack x} (h : MemoryCanonical s) : MemoryCanonical (s.trace stack x) := by
  unfold State.trace
  dsimp only
  split
  · exact h
  · split
    · exact h
    · exact h.storeBlock

theorem MemoryCanonical.recordEnters {core} (h : MemoryCanonical s) : MemoryCanonical (s.recordEnters core) := by
  unfold State.recordEnters
  split
  · exact h
  · exact h.mapCore.trace

theorem MemoryCanonical.logSecret {x full} (h : MemoryCanonical s) : MemoryCanonical (s.logSecret x full) := by
  unfold State.logSecret
  dsimp only
  split
  · exact h.storeBlock
  · split
    · exact h.storeBlock
    · exact h

theorem MemoryCanonical.logError {x} (h : MemoryCanonical s) : MemoryCanonical (s.logError x) := h.logSecret

theorem MemoryCanonical.logAt {cls unit where_ key who detail} (h : MemoryCanonical s) :
    MemoryCanonical (s.logAt cls unit where_ key who detail) := by
  unfold State.logAt
  dsimp only
  split
  · exact h.logSecret
  · exact h.logError

theorem MemoryCanonical.logLink {p detail} (h : MemoryCanonical s) : MemoryCanonical (s.logLink p detail) := by
  cases p <;> exact h.logError

theorem MemoryCanonical.logNow {x} (h : MemoryCanonical s) : MemoryCanonical (s.logNow x) := by
  unfold State.logNow
  dsimp only
  split
  · split
    · exact h.logError
    · split
      · exact h.logError
      · split
        · exact h.logAt
        · exact h.logError
  · exact h.logError
  · exact h.logError
  · exact h

/-- A report is logged at the time that it carries. -/
theorem MemoryCanonical.logReport {x} (h : MemoryCanonical s) : MemoryCanonical (s.logReport x) :=
  MemoryCanonical.logNow (s := { s with mcc := recField x 8 64 }) h

theorem MemoryCanonical.drainFaults {xs} (h : MemoryCanonical s) : MemoryCanonical (s.drainFaults xs) := by
  induction xs generalizing s with
  | nil => exact h
  | cons x t ih =>
    unfold State.drainFaults
    split
    · exact ih h.storeBlock
    · exact h

theorem MemoryCanonical.sendFault {x} (h : MemoryCanonical s) : MemoryCanonical (s.sendFault x) := h.logReport.drainFaults

theorem MemoryCanonical.listRecord {addr} (h : MemoryCanonical s) : MemoryCanonical (s.listRecord addr) := by
  unfold State.listRecord
  split
  · exact h
  · dsimp only
    split
    · exact h.store
    · exact h

/-! ### Runs and contexts (R19, R32, R33, R49, R283, R295) -/

theorem MemoryCanonical.reap {uid} (h : MemoryCanonical s) : MemoryCanonical (s.reap uid) := by
  unfold State.reap
  split
  · exact h
  · split
    · exact h.foldl MemoryCanonical.traceOf
    · exact h

theorem MemoryCanonical.retire {uid c ghost} (h : MemoryCanonical s) : MemoryCanonical (s.retire uid c ghost) := by
  unfold State.retire
  exact MemoryCanonical.reap h

theorem MemoryCanonical.endRun {uid c home w} (h : MemoryCanonical s) : MemoryCanonical (s.endRun uid c home w) := by
  unfold State.endRun
  exact h.retire

theorem MemoryCanonical.recordPlace? {c t key} (h : MemoryCanonical s) (e : s.recordPlace? c = some (t, key)) : MemoryCanonical t := by
  unfold State.recordPlace? at e
  split at e
  · exact h.findOpen e
  · cases e

theorem MemoryCanonical.machineEnd {uid c reason} (h : MemoryCanonical s) : MemoryCanonical (s.machineEnd uid c reason) := by
  unfold State.machineEnd
  dsimp only
  split
  · exact (h.recordPlace? ‹_›).markFaulted.sendFault.endRun
  · exact h.sendFault.endRun

theorem MemoryCanonical.checkin (h : MemoryCanonical s) : MemoryCanonical s.checkin := by
  unfold State.checkin
  dsimp only
  split
  · exact MemoryCanonical.machineEnd h
  · split
    · exact h
    · split <;> exact h

theorem MemoryCanonical.checkout {n t} (h : MemoryCanonical s) (e : s.checkout n = some t) : MemoryCanonical t := by
  unfold State.checkout at e
  split at e
  · cases e
  · obtain ⟨c, -, rfl⟩ := Option.map_eq_some_iff.1 e
    exact h

theorem MemoryCanonical.stopCtx {uid reason index slot off} (h : MemoryCanonical s) :
    MemoryCanonical (s.stopCtx uid reason index slot off) := by
  unfold State.stopCtx
  split
  · exact h
  · dsimp only
    split
    · exact h
    · exact h.traceOf

theorem MemoryCanonical.withFetch {uid c} (h : MemoryCanonical s) : MemoryCanonical (s.withFetch uid c).1 := by
  unfold State.withFetch
  split <;> exact h

theorem MemoryCanonical.holdFetch {stops} (h : MemoryCanonical s) : MemoryCanonical (s.holdFetch stops) := by
  unfold State.holdFetch
  split
  · exact h
  · exact h.withFetch

theorem MemoryCanonical.takeNow (h : MemoryCanonical s) : MemoryCanonical s.takeNow := by
  unfold State.takeNow
  split <;> exact h

theorem MemoryCanonical.takeStanding {uid c ran} (h : MemoryCanonical s) : MemoryCanonical (s.takeStanding uid c ran) := by
  have held : MemoryCanonical (s.withFetch uid c).1 := h.withFetch
  unfold State.takeStanding
  dsimp only
  split
  · exact held
  · split <;> exact held

theorem MemoryCanonical.beginEvict {uid why report} (h : MemoryCanonical s) : MemoryCanonical (s.beginEvict uid why report) := by
  unfold State.beginEvict
  split
  · exact h
  · dsimp only
    split <;> exact h

theorem MemoryCanonical.makeRoom {n e t} (h : MemoryCanonical s) (given : s.makeRoom n e = some t) : MemoryCanonical t := by
  unfold State.makeRoom at given
  split at given
  · cases given
  · obtain ⟨v, -, rfl⟩ := Option.map_eq_some_iff.1 given
    exact h.beginEvict

theorem MemoryCanonical.preemptIdle {uid c} (h : MemoryCanonical s) : MemoryCanonical (s.preemptIdle uid c) := by
  unfold State.preemptIdle
  dsimp only
  split
  · split
    · exact h.takeStanding.beginEvict
    · exact h.takeStanding
  · split
    · exact h.takeStanding.beginEvict
    · exact h.takeStanding
  · split
    · exact h.beginEvict
    · exact h

theorem MemoryCanonical.haltUnsaved {uid why code reason unit va c} (h : MemoryCanonical s) :
    MemoryCanonical (s.haltUnsaved uid why code reason unit va c) := h.mapCtx.sendFault

theorem MemoryCanonical.evictCovered (h : MemoryCanonical s) : MemoryCanonical s.evictCovered := by
  unfold State.evictCovered
  split
  · exact h
  · refine h.foldl fun h => ?_
    split
    · split
      · exact h.preemptIdle
      · exact h.preemptIdle
      · exact h.preemptIdle
      · exact h.preemptIdle
      · exact h
    · exact h

/-! ### Queues and the Hearth (R34, R42 to R48) -/

theorem MemoryCanonical.wake {uid a1} (h : MemoryCanonical s) : MemoryCanonical (s.wake uid a1) := by
  unfold State.wake
  dsimp only
  split
  · exact h
  · split <;> exact h

theorem MemoryCanonical.wakeNamed {key w a1} (h : MemoryCanonical s) : MemoryCanonical (s.wakeNamed key w a1) := by
  unfold State.wakeNamed
  split
  · exact h.wake
  · exact h

theorem MemoryCanonical.settle {key} (h : MemoryCanonical s) : MemoryCanonical (s.settle key) := by
  unfold State.settle
  dsimp only
  split
  · exact h.writeQD.wakeNamed
  · exact h

theorem MemoryCanonical.giveBack {key w faulted} (h : MemoryCanonical s) : MemoryCanonical (s.giveBack key w faulted) := h.writeQD.settle

theorem MemoryCanonical.borrowInto {key m} (h : MemoryCanonical s) : MemoryCanonical (s.borrowInto key m) := h.writeQD

theorem MemoryCanonical.initBlock {key total} (h : MemoryCanonical s) : MemoryCanonical (s.initBlock key total) := by
  unfold State.initBlock
  dsimp only
  split
  · exact h.wakeNamed.newQD
  · exact h.newQD

theorem MemoryCanonical.register {uid key w} (h : MemoryCanonical s) : MemoryCanonical (s.register uid key w) := by
  unfold State.register
  dsimp only
  split
  · exact h.wake
  · split
    · exact h.wake
    · exact h.mapCtx.writeQD

theorem MemoryCanonical.waitOn {uid home w key waiter} (h : MemoryCanonical s) : MemoryCanonical (s.waitOn uid home w key waiter) := by
  unfold State.waitOn
  split
  · exact h.register
  · dsimp only
    split
    · exact h.writeQD.register.settle
    · exact h.giveBack.register

theorem MemoryCanonical.opDone {uid} (h : MemoryCanonical s) : MemoryCanonical (s.opDone uid) := h.mapCtx.reap

theorem MemoryCanonical.offerPush {uid c n p} (h : MemoryCanonical s) : MemoryCanonical (s.offerPush uid c n p) := by
  unfold State.offerPush
  split <;> exact h

/-! ### Dispatch (R36 to R39) -/

theorem MemoryCanonical.dropFresh {n g q e r code reason unit va} (h : MemoryCanonical s) :
    MemoryCanonical (s.dropFresh n g q e r code reason unit va) := by
  unfold State.dropFresh
  dsimp only
  split
  · exact h.dequeue.sendFault
  · split
    · exact (h.nameDomain.of_fst ‹_›).dequeue.sendFault.giveBack
    · exact h.nameDomain.of_fst ‹_›
    · exact (h.nameDomain.of_fst ‹_›).dequeue.sendFault

theorem MemoryCanonical.rejoin {gang uid} (h : MemoryCanonical s) : MemoryCanonical (s.rejoin gang uid) := by
  unfold State.rejoin
  split <;> exact h

theorem MemoryCanonical.startFresh {n g q e r gang} (h : MemoryCanonical s) : MemoryCanonical (s.startFresh n g q e r gang) := by
  unfold State.startFresh
  split
  · exact h.dropCopies.readTables.of_fst ‹_›
  · exact (h.dropCopies.readTables.of_fst ‹_›).dropFresh
  · have read := h.dropCopies.readTables.of_fst ‹_›
    split
    · exact read
    · split
      · exact read
      · split
        · exact read
        · exact MemoryCanonical.rejoin read

theorem MemoryCanonical.startResume {n g q e uid r} (h : MemoryCanonical s) : MemoryCanonical (s.startResume n g q e uid r) := by
  unfold State.startResume
  dsimp only
  split <;> exact h

theorem MemoryCanonical.give {n x t} (h : MemoryCanonical s) (given : s.give n x = some t) : MemoryCanonical t := by
  unfold State.give at given
  split at given
  · cases given
    exact h
  · dsimp only at given
    split at given
    · obtain ⟨u, room, rfl⟩ := Option.map_eq_some_iff.1 given
      exact (h.makeRoom room).mapCore
    · split at given
      · cases given
        split <;> exact h.startFresh
      · cases given
        exact h.startResume

theorem MemoryCanonical.yieldNow (h : MemoryCanonical s) : MemoryCanonical s.yieldNow := by
  unfold State.yieldNow
  dsimp only
  split
  · exact h
  · split
    · exact h
    · rename_i t given
      refine MemoryCanonical.withLive (MemoryCanonical.give ?_ given)
      exact h.withLive.checkin

theorem MemoryCanonical.gangTables {g q ms} (h : MemoryCanonical s) : MemoryCanonical (s.gangTables g q ms).1 := by
  induction ms generalizing s with
  | nil => exact h
  | cons m t ih =>
    unfold State.gangTables
    split
    · split
      · exact ih (h.readTables.of_fst ‹_›)
      · exact h.readTables.of_fst ‹_›
      · have read := h.readTables.of_fst ‹_›
        split
        · exact ih read
        · split
          · exact read.nameDomain.of_fst ‹_›
          · exact ih (read.nameDomain.of_fst ‹_›)
    · exact ih h

theorem MemoryCanonical.startGang {g q gang ms} (h : MemoryCanonical s) : MemoryCanonical (s.startGang g q gang ms) := by
  induction ms generalizing s with
  | nil => exact h
  | cons m t ih =>
    unfold State.startGang
    split
    · exact ih h.startFresh
    · exact ih h.startResume

/-! ### Boundaries and ends of bundles (R303, R306, R332) -/

theorem MemoryCanonical.debugStop (h : MemoryCanonical s) : MemoryCanonical s.debugStop := by
  unfold State.debugStop
  split
  · exact h
  · exact h.checkin.stopCtx.withLive

theorem MemoryCanonical.boundary (h : MemoryCanonical s) : MemoryCanonical s.boundary := by
  unfold State.boundary
  split
  · exact h
  · extract_lets taken
    have kept : MemoryCanonical taken := h.withLive.holdFetch.takeNow
    split
    · exact kept
    · split
      · exact kept.debugStop
      · split
        · exact kept.yieldNow
        · exact kept

theorem MemoryCanonical.takeBreak {i} (h : MemoryCanonical s) : MemoryCanonical (s.takeBreak i) := by
  unfold State.takeBreak
  split
  · exact h.checkin.stopCtx.withLive
  · exact h.withLive

theorem MemoryCanonical.actQwait {block} (h : MemoryCanonical s) : MemoryCanonical (s.actQwait block) := by
  unfold State.actQwait
  dsimp only
  split
  · exact h.reachPages.of_fst ‹_›
  · exact (h.reachPages.of_fst ‹_›).checkin.haltUnsaved.withLive
  · have reached := h.reachPages.of_fst ‹_›
    split
    · exact reached.withLive
    · exact reached.withLive.storeBlock

theorem MemoryCanonical.sample {ops} (h : MemoryCanonical s) : MemoryCanonical (s.sample ops) := by
  unfold State.sample
  dsimp only
  split
  · exact h
  · split <;> exact h

theorem MemoryCanonical.borrowNow (h : MemoryCanonical s) : MemoryCanonical s.borrowNow := by
  unfold State.borrowNow
  dsimp only
  split
  · exact h.borrowInto.mapLive
  · exact h

theorem MemoryCanonical.sweepEnd (h : MemoryCanonical s) : MemoryCanonical s.sweepEnd := by
  unfold State.sweepEnd
  dsimp only
  split
  · exact h.dropCopies
  · exact h

theorem MemoryCanonical.traceBundle {x} (h : MemoryCanonical s) : MemoryCanonical (s.traceBundle x) := by
  unfold State.traceBundle
  dsimp only
  split
  · exact h.traceOf.mapLive
  · exact h

theorem MemoryCanonical.endBundle {ops} (h : MemoryCanonical s) : MemoryCanonical (s.endBundle ops) := by
  unfold State.endBundle
  extract_lets k push sampled finished pushed borrowed traced tagged step stepped last
  have offered : MemoryCanonical pushed := by
    unfold pushed
    clear_value push
    split
    · exact h.sample.mapLive.offerPush
    · exact h.sample.mapLive
  have kept : MemoryCanonical tagged := offered.sweepEnd.borrowNow.traceBundle.mapLive
  have ended : MemoryCanonical stepped := by
    unfold stepped
    split
    · exact kept.mapLive
    · exact kept
  exact ended.mapCore.boundary

/-! ### Operations of a bundle (R108, R140, R304) -/

/-- A trap at issue leaves memory alone. -/
theorem MemoryCanonical.issueTrap {stage x} (h : MemoryCanonical s) : MemoryCanonical (s.issueTrap stage x) := h

theorem MemoryCanonical.ctlOp {e y x t waits late act} (h : MemoryCanonical s) (acts : MemoryCanonical (act s)) :
    NextCanonical (s.ctlOp e y x t waits late act) := by
  rcases State.issueOp_cases (rfl : s.ctlOp e y x t waits late act = _) with
    ⟨-, next⟩ | ⟨-, _, -, next⟩ | ⟨-, -, _, -, next⟩ | ⟨-, -, -, _, -, next⟩ | ⟨-, -, -, -, next⟩
  all_goals rw [next]
  · exact h.judge.next
  · exact h.issueTrap.next
  · exact h.judge.next
  · exact h.issueTrap.next
  · exact acts.mapLive.judge.next

theorem MemoryCanonical.withDomain {x t aq peerOk waits go} (h : MemoryCanonical s)
    (goes : ∀ {u key va}, MemoryCanonical u → NextCanonical (go u key va)) : NextCanonical (s.withDomain x t aq peerOk waits go) := by
  unfold State.withDomain
  split
  · exact h.judge.next
  · dsimp only
    split
    · exact h.issueTrap.next
    · split
      · exact (h.nameDomain.of_fst ‹_›).judge.next
      · exact (h.nameDomain.of_fst ‹_›).issueTrap.next
      · have named := h.nameDomain.of_fst ‹_›
        split
        · exact named.issueTrap.next
        · exact goes named

theorem MemoryCanonical.traceHistory {core c} (h : MemoryCanonical s) : MemoryCanonical (s.traceHistory core c) :=
  h.foldl MemoryCanonical.traceOf

theorem MemoryCanonical.logDrift {expected} (h : MemoryCanonical s) : MemoryCanonical (s.logDrift expected) := by
  unfold State.logDrift
  dsimp only
  split
  · exact h.mapLive.traceOf.traceHistory.mapLive
  · exact h.mapLive.traceOf

theorem MemoryCanonical.stopIdle {uid c ran} (h : MemoryCanonical s) : MemoryCanonical (s.stopIdle uid c ran) := by
  have stood : MemoryCanonical (s.takeStanding uid c ran) := h.takeStanding
  unfold State.stopIdle
  dsimp only
  split
  · split
    · exact stood
    · split <;> exact stood.stopCtx
  · exact stood

theorem MemoryCanonical.leavesCore {uid} (h : MemoryCanonical s) : MemoryCanonical (s.leavesCore uid) := by
  unfold State.leavesCore
  split
  · exact h
  · split
    · exact h
    · dsimp only
      split
      · exact MemoryCanonical.stopIdle h
      · exact h

theorem MemoryCanonical.switchBack {m} (h : MemoryCanonical s) : MemoryCanonical (s.switchBack m) := by
  unfold State.switchBack
  split
  · exact h
  · dsimp only
    split
    · exact h
    · split
      · exact h.leavesCore.mapCtx.mapCore
      · exact h

theorem MemoryCanonical.releaseGang (h : MemoryCanonical s) : MemoryCanonical s.releaseGang := by
  unfold State.releaseGang
  split
  · exact h
  · exact h.foldl fun h => h.switchBack.mapCtx

theorem MemoryCanonical.arrive (h : MemoryCanonical s) : MemoryCanonical s.arrive := by
  unfold State.arrive
  split <;> exact h

theorem MemoryCanonical.execSync {e y x t sc} (h : MemoryCanonical s) : NextCanonical (execSync e y x t sc s) := by
  unfold Machine.execSync
  dsimp only
  split
  · exact h.arrive.judge.next
  · refine h.ctlOp (MemoryCanonical.mapLive ?_)
    split
    · exact h.releaseGang
    · exact h

theorem MemoryCanonical.exec_ctl {i} (h : MemoryCanonical s) (slot : slotOf i = some 0) : NextCanonical (exec i s) := by
  cases i
  all_goals cases slot
  all_goals unfold exec
  case sync => exact h.execSync
  case mark =>
    refine h.ctlOp ?_
    split
    · exact h.logDrift
    · exact h
  case loop =>
    refine h.ctlOp ?_
    split <;> exact h
  case spawn =>
    refine h.ctlOp ?_
    dsimp only
    split
    · exact h
    · split <;> exact h
  case qnew =>
    refine h.withDomain fun walked => walked.ctlOp ?_
    split <;> exact walked
  case qwait => exact h.withDomain fun walked => walked.ctlOp walked
  case qborrow =>
    refine h.ctlOp ?_
    extract_lets m w
    split
    · exact h
    · split <;> exact h
  case qsplit =>
    refine h.ctlOp ?_
    extract_lets w borrowed weight
    have kept : MemoryCanonical borrowed := by
      unfold borrowed
      split <;> exact h
    split
    · exact h
    · split
      · exact h
      · split <;> exact kept
  case qjoin =>
    refine h.ctlOp ?_
    extract_lets w
    split <;> exact h
  case qret =>
    refine h.ctlOp ?_
    extract_lets w
    split <;> exact h
  all_goals exact h.ctlOp h

/-! ### Accesses, copies and gathers as they perform (R116, R218, R242 to R246, R249 to R256) -/

theorem MemoryCanonical.failAccess {uid a code reason tinfo va} (h : MemoryCanonical s) :
    MemoryCanonical (s.failAccess uid a code reason tinfo va) := h.mapCtx.reap

theorem MemoryCanonical.landLate {uid slot id off bclk r put} (h : MemoryCanonical s) :
    MemoryCanonical (s.landLate uid slot id off bclk r put) := by
  unfold State.landLate
  split
  · exact h
  · split
    · exact h.mapCtx.traceOf
    · exact h.mapCtx

theorem MemoryCanonical.landReg {uid slot id off bclk r put} (h : MemoryCanonical s) :
    MemoryCanonical (s.landReg uid slot id off bclk r put) := h.landLate

theorem MemoryCanonical.watchHit {uid c a i} (h : MemoryCanonical s) : MemoryCanonical (s.watchHit uid c a i) := h.traceOf.mapCtx

theorem MemoryCanonical.watch {uid c a} (h : MemoryCanonical s) : MemoryCanonical (s.watch uid c a) := by
  unfold State.watch
  split
  · exact h
  · exact h.foldl MemoryCanonical.watchHit

theorem MemoryCanonical.finishAcc {uid c a} (h : MemoryCanonical s) : MemoryCanonical (s.finishAcc uid c a) := by
  unfold State.finishAcc
  extract_lets acquired watched
  have kept : MemoryCanonical acquired := by
    unfold acquired
    split
    · exact h.dropCopies
    · exact h
  exact kept.watch.mapCtx.mapCtx.reap

theorem MemoryCanonical.landLdgK {uid a r narrow x} (h : MemoryCanonical s) : MemoryCanonical (s.landLdgK uid a r narrow x) := by
  unfold State.landLdgK
  dsimp only
  split
  · exact h.landLate.mapCtx
  · exact h.landLate

theorem MemoryCanonical.performLoad {uid c a ps} (h : MemoryCanonical s) : MemoryCanonical (s.performLoad uid c a ps) := by
  unfold State.performLoad
  extract_lets late bytes
  split
  · exact h.landReg.finishAcc
  · exact h.landReg.finishAcc
  · exact h.landLdgK.finishAcc
  · exact h.writeSpans.landReg.finishAcc
  · exact h.writeSpans.landReg.finishAcc
  · dsimp only
    split
    · exact h.writeSpans.landReg.finishAcc
    · exact h.writeSpans.mapCtx
  · exact h

theorem MemoryCanonical.performWrite {uid c a ps} (h : MemoryCanonical s) : MemoryCanonical (s.performWrite uid c a ps) := by
  unfold State.performWrite
  extract_lets step
  have steps : ∀ {u n}, MemoryCanonical u → MemoryCanonical (step u n) := by
    intro u n h
    unfold step
    split
    · exact h.finishAcc
    · exact h.mapCtx
  split
  · exact h.writeSpans.finishAcc
  · exact h.addCell.finishAcc
  · exact steps h.addCell
  · exact steps h.writeSpans
  · exact h

theorem MemoryCanonical.hideFrom {t uid a ps} (h : MemoryCanonical t) : MemoryCanonical (s.hideFrom t uid a ps) := h.reveal.mapCtx

theorem MemoryCanonical.sectorSeen {uid x ps} (h : MemoryCanonical s) : MemoryCanonical (s.sectorSeen uid x ps) := h.reveal.mapCtx

theorem MemoryCanonical.countSector {uid c x k} (h : MemoryCanonical s) : MemoryCanonical (s.countSector uid c x k) := by
  unfold State.countSector
  split
  · exact h.mapCtx
  · split
    · exact h.store
    · exact h

theorem MemoryCanonical.moveSector {uid c x k src dst} (h : MemoryCanonical s) : MemoryCanonical (s.moveSector uid c x k src dst) := by
  unfold State.moveSector
  split
  · exact h.mapCtx
  · exact h.mapCore
  · exact h.mapCore
  · exact h.putChunks
  · exact h.putChunks
  · exact h.addCells

/-! ### Walks and page responses as they reach those who wait (R70 to R73, R325) -/

theorem MemoryCanonical.failNeed {n f} (h : MemoryCanonical s) : MemoryCanonical (s.failNeed n f) := by
  unfold State.failNeed
  dsimp only
  split
  · split
    · split <;> exact h.failAccess
    · exact h
  · exact h.mapCtx.reap
  · exact h.mapCtx
  · exact h.mapCore

theorem MemoryCanonical.failNeeds {ns f} (h : MemoryCanonical s) : MemoryCanonical (s.failNeeds ns f) := h.foldl MemoryCanonical.failNeed

theorem MemoryCanonical.barNeeds {ns cut} (h : MemoryCanonical s) : MemoryCanonical (s.barNeeds ns cut) := by
  unfold State.barNeeds
  split
  · exact h.failNeeds
  · exact h.foldl MemoryCanonical.failNeed

theorem MemoryCanonical.markPaged {w paged} (h : MemoryCanonical s) : MemoryCanonical (s.markPaged w paged) := by
  cases w <;> exact h

theorem MemoryCanonical.walkFails {ns w va kind lack} (h : MemoryCanonical s) : MemoryCanonical (s.walkFails ns w va kind lack) := by
  unfold State.walkFails
  split
  · split
    · exact h.dropRequest.failNeeds
    · split
      · exact h.failNeeds
      · exact h.foldl MemoryCanonical.markPaged
  · split
    · exact h.failNeeds
    · exact h.requestPage.foldl MemoryCanonical.markPaged

theorem MemoryCanonical.walkDone {w va kind} (h : MemoryCanonical s) : MemoryCanonical (s.walkDone w va kind) := by
  unfold State.walkDone
  split
  · split
    · exact h.dropRequest
    · exact h
  · exact h

theorem MemoryCanonical.answerPage {r ns} (h : MemoryCanonical s) : MemoryCanonical (s.answerPage r ns) := by
  unfold State.answerPage
  dsimp only
  refine MemoryCanonical.foldl ?_ MemoryCanonical.markPaged
  split
  · exact h.tell.dropRequest
  · exact MemoryCanonical.same h rfl

theorem MemoryCanonical.refusePage {r ns} (h : MemoryCanonical s) : MemoryCanonical (s.refusePage r ns) :=
  h.tell.dropRequest.foldl MemoryCanonical.failNeed

theorem MemoryCanonical.cutRequests (h : MemoryCanonical s) : MemoryCanonical s.cutRequests :=
  h.foldl fun h => h.tell.failNeeds.dropRequest

theorem MemoryCanonical.sweepAnswered (h : MemoryCanonical s) : MemoryCanonical s.sweepAnswered :=
  h.foldl fun h => by
    split
    · exact h
    · exact h.dropRequest

theorem MemoryCanonical.findObject {c t o} (h : MemoryCanonical s) (e : s.findObject c = some (t, o)) : MemoryCanonical t := by
  unfold State.findObject at e
  obtain ⟨b, -, e⟩ := Option.bind_eq_some_iff.1 e
  obtain ⟨⟨u, key⟩, found, e⟩ := Option.bind_eq_some_iff.1 e
  split at e
  · cases e
  · cases e
    exact h.findOpen found

theorem MemoryCanonical.findAll {w kind ps t ks} (h : MemoryCanonical s) (e : s.findAll w kind ps = some (t, ks)) : MemoryCanonical t := by
  induction ps generalizing s t ks with
  | nil =>
    cases e
    exact h
  | cons p ps ih =>
    obtain ⟨⟨u, key⟩, found, e⟩ := Option.bind_eq_some_iff.1 e
    obtain ⟨⟨v, rest⟩, others, e⟩ := Option.map_eq_some_iff.1 e
    cases e
    exact ih (h.findOpen found) others

/-! ### Resets, evictions and resumptions (R19, R335, R336, R346, R352) -/

theorem MemoryCanonical.saveSlots {uid c} (h : MemoryCanonical s) : MemoryCanonical (s.saveSlots uid c) := h

theorem MemoryCanonical.replayRun {uid c} (h : MemoryCanonical s) : MemoryCanonical (s.replayRun uid c) := by
  unfold State.replayRun
  extract_lets r image left old retired q
  split
  · exact h.machineEnd
  · have kept : MemoryCanonical retired := h.retire.withdraw
    split
    · refine MemoryCanonical.mapCluster (MemoryCanonical.rejoin ?_)
      exact kept.same rfl
    · exact kept.mapCluster

theorem MemoryCanonical.resetContexts {es} (h : MemoryCanonical s) : MemoryCanonical (s.resetContexts es) := by
  induction es generalizing s with
  | nil => exact h
  | cons e t ih =>
    unfold State.resetContexts
    split
    · exact ih h.saveSlots.mapCtx
    · exact ih h.replayRun

theorem MemoryCanonical.resetCore {n} (h : MemoryCanonical s) : MemoryCanonical (s.resetCore n) := h.resetContexts.mapCore

theorem MemoryCanonical.resetCores {ns unit where_ operand} (h : MemoryCanonical s) :
    MemoryCanonical (s.resetCores ns unit where_ operand) := by
  unfold State.resetCores
  exact (h.foldl MemoryCanonical.resetCore).logError

theorem MemoryCanonical.failPackage (h : MemoryCanonical s) : MemoryCanonical s.failPackage := by
  unfold State.failPackage
  refine MemoryCanonical.logError ?_
  exact h.same rfl

theorem MemoryCanonical.storeArea {c keys} (h : MemoryCanonical s) : MemoryCanonical (s.storeArea c keys) :=
  h.storePages.foldl MemoryCanonical.poisonLines

theorem MemoryCanonical.afterEviction {uid why base report c r} (h : MemoryCanonical s) :
    MemoryCanonical (s.afterEviction uid why base report c r) := by
  unfold State.afterEviction
  split
  · split
    · exact h
    · exact h.mapCtx.mapCluster
  · split
    · exact h
    · exact h.listRecord
  · split
    · exact h
    · exact h.sendFault
  · exact h

theorem MemoryCanonical.saveImage {uid why base keys report c} (h : MemoryCanonical s) :
    MemoryCanonical (s.saveImage uid why base keys report c) := by
  unfold State.saveImage
  exact h.storeBlock.storeArea.saveSlots.mapCtx.afterEviction

theorem MemoryCanonical.notResumed {uid c code reason tinfo va kind} (h : MemoryCanonical s) :
    MemoryCanonical (s.notResumed uid c code reason tinfo va kind) := by
  unfold State.notResumed
  exact h.mapCtx.mapCore.sendFault

theorem MemoryCanonical.repop {uid pops} (h : MemoryCanonical s) : MemoryCanonical (s.repop uid pops) :=
  h.foldl MemoryCanonical.mapCluster

theorem MemoryCanonical.resumed {uid c o} (h : MemoryCanonical s) : MemoryCanonical (s.resumed uid c o) := by
  unfold State.resumed
  refine MemoryCanonical.ite (MemoryCanonical.mapCore ?_) ?_
  all_goals
    refine MemoryCanonical.repop ?_
    exact h.same rfl

/-! ### Records, commands and the mailbox (R28 to R30, R280 to R284) -/

theorem MemoryCanonical.checkShare {g w r b} (h : MemoryCanonical s) : MemoryCanonical (s.checkShare g w r b).1 := by
  unfold State.checkShare
  split
  · exact h
  · split <;> exact h.readTable.of_fst ‹_›

theorem MemoryCanonical.checkDomain {g w r b} (h : MemoryCanonical s) : MemoryCanonical (s.checkDomain g w r b).1 := by
  unfold State.checkDomain
  split
  · exact h
  · split
    · exact h
    · split <;> exact h.nameDomain.of_fst ‹_›

theorem MemoryCanonical.checkRecord {g w r} (h : MemoryCanonical s) : MemoryCanonical (s.checkRecord g w r).1 := by
  unfold State.checkRecord
  split
  · split
    · exact h
    · split
      · exact h
      · split
        · have shared := h.checkShare.of_fst ‹_›
          split
          · exact shared.checkDomain.of_fst ‹_›
          · exact shared.checkDomain
        · exact h.checkShare
  · exact h

theorem MemoryCanonical.acceptFresh {g q r stamp} (h : MemoryCanonical s) : MemoryCanonical (s.acceptFresh g q r stamp) := h

theorem MemoryCanonical.acceptPush {g pasid p stamp} (h : MemoryCanonical s) : MemoryCanonical (s.acceptPush g pasid p stamp) := h

theorem MemoryCanonical.acceptWindow {g q r} (h : MemoryCanonical s) : MemoryCanonical (s.acceptWindow g q r) := by
  unfold State.acceptWindow
  split
  · split
    · exact h
    · exact h.mapCtx.mapCluster
  · exact h.acceptFresh

theorem MemoryCanonical.refuseWeight {g w r} (h : MemoryCanonical s) : MemoryCanonical (s.refuseWeight g w r).1 := by
  unfold State.refuseWeight
  split
  · exact h
  · split
    · exact h
    · split
      · have checked := h.checkDomain.of_fst ‹_›
        split
        · exact (checked.nameDomain.of_fst ‹_›).giveBack
        · exact checked.nameDomain.of_fst ‹_›
        · exact checked.nameDomain.of_fst ‹_›
      · exact h.checkDomain.of_fst ‹_›
      · exact h.checkDomain.of_fst ‹_›

theorem MemoryCanonical.logWindow {q detail who} (h : MemoryCanonical s) : MemoryCanonical (s.logWindow q detail who) := h.logError

theorem MemoryCanonical.windowRecord {i w r} (h : MemoryCanonical s) : MemoryCanonical (s.windowRecord i w r) := by
  unfold State.windowRecord
  dsimp only
  split
  · have checked := h.checkRecord.of_fst ‹_›
    exact checked.same rfl
  · exact (h.checkRecord.of_fst ‹_›).acceptWindow.forget
  · have checked := h.checkRecord.of_fst ‹_›
    split
    · exact (checked.refuseWeight.of_fst ‹_›).logWindow.forget
    · have refused := checked.refuseWeight.of_fst ‹_›
      exact refused.same rfl

theorem MemoryCanonical.retryInput {n} (h : MemoryCanonical s) : MemoryCanonical (s.retryInput n) := by
  unfold State.retryInput
  split
  · split
    · exact h
    · refine MemoryCanonical.windowRecord ?_
      exact h.same rfl
  · exact h

theorem MemoryCanonical.beginPreempt {o} (h : MemoryCanonical s) : MemoryCanonical (s.beginPreempt o) := by
  unfold State.beginPreempt
  refine MemoryCanonical.foldl (MemoryCanonical.foldl ?_ MemoryCanonical.listRecord) fun h => h.preemptIdle.ite h
  exact h.same rfl

theorem MemoryCanonical.doKill {o} (h : MemoryCanonical s) : MemoryCanonical (s.doKill o).1 := by
  unfold State.doKill
  split
  · exact h
  · split
    · exact h
    · split
      · exact h.reachOpen.of_fst ‹_›
      · exact h.reachOpen.of_fst ‹_›
      · exact (h.reachOpen.of_fst ‹_›).markFaulted.endRun

theorem MemoryCanonical.doTemper {o} (h : MemoryCanonical s) : MemoryCanonical (s.doTemper o).1 := by
  unfold State.doTemper
  split
  · exact h
  · exact h.foldl MemoryCanonical.mapCluster

theorem MemoryCanonical.doQmode {o} (h : MemoryCanonical s) : MemoryCanonical (s.doQmode o).1 := by
  unfold State.doQmode
  dsimp only
  split
  · exact h
  · split
    · exact h.mapCluster
    · split
      · exact h
      · exact h.mapCluster

theorem MemoryCanonical.doRoute {o} (h : MemoryCanonical s) : MemoryCanonical (s.doRoute o).1 := by
  unfold State.doRoute
  dsimp only
  split
  · exact h
  · split
    · exact h
    · exact h.same rfl

theorem MemoryCanonical.doReset {o} (h : MemoryCanonical s) : MemoryCanonical (s.doReset o).1 := by
  unfold State.doReset
  extract_lets n cluster
  generalize (if cluster then 64 else 1024) = bound
  split
  · exact h
  · exact h.resetCores

theorem MemoryCanonical.perform {c} (h : MemoryCanonical s) : MemoryCanonical (s.perform c).1 := by
  unfold State.perform
  split
  · exact h
  · split
    · unfold State.doBind
      dsimp only
      split
      · exact h
      · exact h.same rfl
    · unfold State.doPreempt
      split
      · exact h
      · exact h.beginPreempt
    · unfold State.doInval
      split
      · exact h
      · exact h.same rfl
    · exact h.doQmode
    · unfold State.doDescinv
      split
      · exact h
      · exact h.same rfl
    · exact h.doTemper
    · exact h.doRoute
    · exact h.same rfl
    · unfold State.doFring
      split
      · exact h
      · refine MemoryCanonical.drainFaults ?_
        exact h.same rfl
    · exact h.doKill
    · exact h.doReset
    · unfold State.doElog
      split
      · exact h
      · exact h.same rfl
    · exact h

theorem MemoryCanonical.complete {code status results} (h : MemoryCanonical s) : MemoryCanonical (s.complete code status results) := by
  unfold State.complete
  exact h.same rfl

theorem MemoryCanonical.runMail {n} (h : MemoryCanonical s) : MemoryCanonical (State.runMail n s) := by
  induction n generalizing s with
  | zero => exact h
  | succ n ih =>
    unfold State.runMail
    split
    · exact h
    · split
      · exact h
      · split
        · exact h.perform.of_fst ‹_›
        · have performed := h.perform.of_fst ‹_›
          refine ih (MemoryCanonical.complete (MemoryCanonical.forget ?_))
          exact performed.same rfl

theorem MemoryCanonical.command {code o} (h : MemoryCanonical s) : MemoryCanonical (s.command code o) := by
  unfold State.command
  split
  · exact h
  · split
    · exact h.same rfl
    · refine MemoryCanonical.runMail ?_
      exact h.same rfl

/-! ### Events of one context's work in flight (R116, R164, R218, R242 to R246) -/

theorem MemoryCanonical.loadLanding {uid id} (h : MemoryCanonical s) : NextCanonical (execLoadLanding uid id s) := by
  unfold execLoadLanding
  split; · exact .refused
  split; · exact .refused
  extract_lets may
  split; · exact .refused
  split; · exact .refused
  split; · exact .refused
  split
  · exact h.failAccess.next
  · split
    · exact h.performLoad.next
    · exact h.performLoad.hideFrom.next

theorem MemoryCanonical.writeDrained {uid id} (h : MemoryCanonical s) : NextCanonical (execWriteDrained uid id s) := by
  unfold execWriteDrained
  split; · exact .refused
  split; · exact .refused
  split; · exact .refused
  split; · exact .refused
  split; · exact .refused
  split
  · exact h.failAccess.next
  · exact h.performWrite.hideFrom.next

theorem MemoryCanonical.divRemWrite {uid id} (h : MemoryCanonical s) : NextCanonical (execDivRemWrite uid id s) := by
  unfold execDivRemWrite
  split; · exact .refused
  split; · exact .refused
  dsimp only
  split
  · exact h.mapCtx.landReg.mapCtx.next
  · exact h.mapCtx.mapCtx.mapCtx.next

theorem MemoryCanonical.scatterGatherDone {uid id} (h : MemoryCanonical s) : NextCanonical (execScatterGatherDone uid id s) := by
  unfold execScatterGatherDone
  split; · exact .refused
  split; · exact .refused
  dsimp only
  split
  · exact h.mapCtx.mapCtx.landLate.landLate.mapCtx.next
  · exact h.mapCtx.mapCtx.next
  · exact h.mapCtx.landReg.mapCtx.next

theorem MemoryCanonical.copySectorLands {uid id k} (h : MemoryCanonical s) : NextCanonical (execCopySectorLands uid id k s) := by
  unfold execCopySectorLands
  split; · exact .refused
  split; · exact .refused
  split; · exact .refused
  extract_lets lines from_ to_ w count at_
  split; · exact .refused
  split
  · exact h.mapCtx.reap.next
  · exact h.mapCtx.reap.next
  · exact h.moveSector.countSector.sectorSeen.mapCtx.mapCtx.reap.next

theorem MemoryCanonical.gatherRowLands {uid id} (h : MemoryCanonical s) : NextCanonical (execGatherRowLands uid id s) := by
  unfold execGatherRowLands
  split; · exact .refused
  split; · exact .refused
  extract_lets parts from_ ps xs landed
  split; · exact .refused
  split; · exact .refused
  split
  · exact h.mapCtx.next
  · exact h.mapCtx.mapCtx.next

/-! ### Events of walks, fetches and prefetches (R66, R67, R71 to R73, R325) -/

theorem MemoryCanonical.pageWalk {pasid va kind} (h : MemoryCanonical s) : NextCanonical (execPageWalk pasid va kind s) := by
  unfold execPageWalk
  split; · exact .refused
  dsimp only
  split
  · exact h.failNeeds.next
  · split
    · exact h.failNeeds.next
    · split
      · exact h.failNeeds.next
      · exact h.barNeeds.next
      · exact h.barNeeds.next
      · exact h.walkFails.next
      · exact h.walkFails.next
      · exact h.holdPage.walkDone.next

theorem MemoryCanonical.pageResponse {pasid va kind ok} (h : MemoryCanonical s) : NextCanonical (execPageResponse pasid va kind ok s) := by
  unfold execPageResponse
  split; · exact .refused
  split
  · exact h.answerPage.next
  · exact h.refusePage.next

theorem MemoryCanonical.overlayLoaded {core} (h : MemoryCanonical s) : NextCanonical (execOverlayLoaded core s) := by
  unfold execOverlayLoaded
  dsimp only
  split; · exact .refused
  split
  · exact h.mapCore.next
  · split
    · exact (h.readTable.of_fst ‹_›).next
    · exact (h.readTable.of_fst ‹_›).mapCore.next
    · have read := h.readTable.of_fst ‹_›
      split
      · exact read.mapCore.next
      · split
        · exact read.mapCore.next
        · split
          · exact read.next
          · split
            · exact read.mapCore.next
            · exact read.mapCtx.mapCore.next

theorem MemoryCanonical.overlayPrefetch {core i} (h : MemoryCanonical s) : NextCanonical (execOverlayPrefetch core i s) := by
  unfold execOverlayPrefetch
  dsimp only
  split; · exact .refused
  split; · exact .refused
  split; · exact .refused
  have found := h.findObject ‹_›
  split; · exact .refused
  split; · exact .refused
  have placed := found.findAll ‹_›
  split
  · exact placed.logAt.next
  · exact placed.mapCore.next

/-! ### Events of the schedulers, queues and the Hearth (R33 to R51, R150, R151, R229) -/

theorem MemoryCanonical.park {n} (h : MemoryCanonical s) : NextCanonical (execPark n s) := by
  unfold execPark
  split; · exact .refused
  split
  · exact .refused
  · exact h.mapCtx.mapCore.next

theorem MemoryCanonical.budgetovr {n} (h : MemoryCanonical s) : NextCanonical (execBudgetovr n s) := by
  unfold execBudgetovr
  split; · exact .refused
  split; · exact .refused
  split
  · exact .refused
  · exact h.mapCtx.next

theorem MemoryCanonical.barrierRestart {g} (h : MemoryCanonical s) : NextCanonical (execBarrierRestart g s) := by
  unfold execBarrierRestart
  split; · exact .refused
  split; · exact .refused
  split
  · exact .refused
  · exact MemoryCanonical.next ((h.foldl MemoryCanonical.mapCtx).same rfl)

theorem MemoryCanonical.lastSamples {c} (h : MemoryCanonical s) : MemoryCanonical (s.lastSamples c) := h.foldl MemoryCanonical.traceOf

theorem MemoryCanonical.enginesEmpty {uid} (h : MemoryCanonical s) : NextCanonical (execEnginesEmpty uid s) := by
  unfold execEnginesEmpty
  split; · exact .refused
  split; · exact .refused
  extract_lets debug untagged finish
  have finishes : ∀ c, NextCanonical (finish c) := by
    intro c
    unfold finish
    split
    · exact h.machineEnd.next
    · exact h.lastSamples.retire.next
  split
  · exact finishes _
  · exact finishes _
  · exact .refused

theorem MemoryCanonical.dispatch {n} (h : MemoryCanonical s) : NextCanonical (execDispatch n s) := by
  unfold execDispatch
  split; · exact .refused
  split; · exact .refused
  split
  · exact (h.mapCore.give ‹_›).next
  · exact .refused

theorem MemoryCanonical.gangDispatch {g q} (h : MemoryCanonical s) : NextCanonical (execGangDispatch g q s) := by
  unfold execGangDispatch
  split; · exact .refused
  split
  · split
    · exact (h.makeRoom ‹_›).next
    · exact .refused
  · dsimp only
    split
    · exact h.gangTables.next
    · split
      · exact .refused
      · exact MemoryCanonical.next (h.gangTables.startGang.same rfl)

theorem MemoryCanonical.spawnAcceptance {uid} (h : MemoryCanonical s) : NextCanonical (execSpawnAcceptance uid s) := by
  unfold execSpawnAcceptance
  split
  · exact h.acceptFresh.opDone.next
  · exact h.acceptPush.opDone.next
  · exact .refused

theorem MemoryCanonical.deliver {w payload weight} (h : MemoryCanonical s) : MemoryCanonical (s.deliver w payload weight) := by
  unfold State.deliver
  dsimp only
  split
  · exact h.dropCopies.mapCtx.landLate.mapCtx
  · exact h.dropCopies.mapCtx.landReg.mapCtx

theorem MemoryCanonical.popPoisoned {w} (h : MemoryCanonical s) : MemoryCanonical (s.popPoisoned w) := h

theorem MemoryCanonical.queueDelivery {g q} (h : MemoryCanonical s) : NextCanonical (execQueueDelivery g q s) := by
  unfold execQueueDelivery
  dsimp only
  split
  · exact h.mapCluster.mapCtx.deliver.next
  · split
    · split; · exact .refused
      split
      · exact h.popPoisoned.next
      · exact h.mapCluster.mapCtx.deliver.next
    · exact .refused

theorem MemoryCanonical.entryReturn {g q} (h : MemoryCanonical s) : NextCanonical (execEntryReturn g q s) := by
  unfold execEntryReturn
  dsimp only
  split
  · split
    · split
      · exact .refused
      · exact h.mapCluster.next
    · exact .refused
  · split
    · exact h.mapCluster.next
    · exact .refused

theorem MemoryCanonical.hearthQnew {uid} (h : MemoryCanonical s) : NextCanonical (execHearthQnew uid s) := by
  unfold execHearthQnew
  split
  · exact h.initBlock.opDone.next
  · exact .refused

theorem MemoryCanonical.hearthBorrow {uid} (h : MemoryCanonical s) : NextCanonical (execHearthBorrow uid s) := by
  unfold execHearthBorrow
  split
  · exact h.borrowInto.opDone.next
  · exact .refused

theorem MemoryCanonical.hearthReturn {uid} (h : MemoryCanonical s) : NextCanonical (execHearthReturn uid s) := by
  unfold execHearthReturn
  split
  · split
    · exact .refused
    · exact h.giveBack.opDone.next
  · exact .refused

theorem MemoryCanonical.hearthQwait {uid} (h : MemoryCanonical s) : NextCanonical (execHearthQwait uid s) := by
  unfold execHearthQwait
  split
  · split
    · exact .refused
    · exact h.mapCtx.waitOn.next
  · exact .refused

/-! ### Events of the host and the debugger (R278 to R302, R350) -/

theorem MemoryCanonical.queueWindowWrite {by_ offset bytes} (h : MemoryCanonical s) :
    NextCanonical (execQueueWindowWrite by_ offset bytes s) := by
  unfold execQueueWindowWrite
  extract_lets w port
  split
  · exact h.next
  · split
    · exact h.logWindow.next
    · split
      · exact MemoryCanonical.next (h.same rfl)
      · exact h.windowRecord.next

theorem MemoryCanonical.preemptHalt {n} (h : MemoryCanonical s) : NextCanonical (execPreemptHalt n s) := by
  unfold execPreemptHalt
  split; · exact .refused
  split; · exact .refused
  extract_lets mail gone more
  have kept : MemoryCanonical gone := h.same rfl
  split
  · exact kept.next
  · split
    · exact kept.next
    · split
      · exact kept.next
      · split
        · exact .refused
        · refine MemoryCanonical.next (MemoryCanonical.beginEvict ?_)
          exact kept.same rfl

theorem MemoryCanonical.preemptCompletion (h : MemoryCanonical s) : NextCanonical (execPreemptCompletion s) := by
  unfold execPreemptCompletion
  split; · exact .refused
  split
  · exact .refused
  · refine MemoryCanonical.next (MemoryCanonical.runMail (MemoryCanonical.complete ?_))
    exact h.same rfl

theorem MemoryCanonical.frp {x} (h : MemoryCanonical s) : NextCanonical (execFrp x s) := by
  refine MemoryCanonical.next (MemoryCanonical.drainFaults ?_)
  exact h.same rfl

theorem MemoryCanonical.writeReg {r x} (h : MemoryCanonical s) : MemoryCanonical (s.writeReg r x) := by
  cases r with
  | ctxDebug uid r =>
    unfold State.writeReg
    dsimp only
    split
    · exact h
    · split
      · exact h.mapCtx
      · exact h
  | _ => exact h.same rfl

theorem MemoryCanonical.dstat {uid x} (h : MemoryCanonical s) : NextCanonical (execDstat uid x s) := by
  unfold execDstat
  split
  · exact h.next
  · split
    · exact h.mapCtx.next
    · exact h.next

theorem MemoryCanonical.requestStop {uid c} (h : MemoryCanonical s) : MemoryCanonical (s.requestStop uid c) := by
  unfold State.requestStop
  split
  · exact h
  · split
    · exact h.mapCtx
    · exact h.stopIdle
    · exact h.stopIdle
    · exact h.stopCtx
    all_goals exact h

theorem MemoryCanonical.debugStopRequest {target} (h : MemoryCanonical s) : NextCanonical (execDebugStopRequest target s) :=
  MemoryCanonical.next (h.foldl MemoryCanonical.requestStop)

theorem MemoryCanonical.debugResume {uid} (h : MemoryCanonical s) : NextCanonical (execDebugResume uid s) := by
  unfold execDebugResume
  split
  · exact h.next
  · split
    · exact h.mapCtx.next
    · exact h.next

theorem MemoryCanonical.debugWrite {uid c place x} (h : MemoryCanonical s) : MemoryCanonical (s.debugWrite uid c place x) := by
  unfold State.debugWrite
  split
  · exact h.same rfl
  · split
    · split
      · exact (h.findOpen ‹_›).store
      · exact h
    · exact h.mapCtx
  · exact h.mapCtx

theorem MemoryCanonical.debuggerRegisterWrite {uid place x} (h : MemoryCanonical s) :
    NextCanonical (execDebuggerRegisterWrite uid place x s) := by
  unfold execDebuggerRegisterWrite
  split
  · exact h.next
  · split
    · exact h.debugWrite.next
    · exact h.next

theorem MemoryCanonical.debugMemoryAccess {addr w} (h : MemoryCanonical s) : NextCanonical (execDebugMemoryAccess addr w s) := by
  unfold execDebugMemoryAccess
  split
  · exact trivial
  · split
    · split
      · exact h.answer.next
      · exact h.next
    · split
      · exact h.answer.next
      · exact h.store.next

theorem MemoryCanonical.sampleRecord {uid} (h : MemoryCanonical s) : NextCanonical (execSampleRecord uid s) := by
  unfold execSampleRecord
  split; · exact .refused
  split
  · exact .refused
  · exact h.mapCtx.traceOf.next

theorem MemoryCanonical.spdmRequest {nonce} (h : MemoryCanonical s) : NextCanonical (execSpdmRequest nonce s) := by
  unfold execSpdmRequest
  split
  · exact MemoryCanonical.next (h.same rfl)
  · exact h.next

theorem MemoryCanonical.hostStore {key bs bad} (h : MemoryCanonical s) : MemoryCanonical (s.hostStore key bs bad) := by
  unfold State.hostStore
  split
  · exact h.store.poisonLines
  · exact h.store

theorem MemoryCanonical.logWorld {key unit where_} (h : MemoryCanonical s) : MemoryCanonical (s.logWorld key unit where_) := by
  unfold State.logWorld
  exact h.logSecret

theorem MemoryCanonical.hostMemoryAccess {site w} (h : MemoryCanonical s) : NextCanonical (execHostMemoryAccess site w s) := by
  unfold execHostMemoryAccess
  extract_lets bytes size plain
  have plainly : ∀ key, NextCanonical (plain key) := by
    intro key
    unfold plain
    split
    · exact h.answer.next
    · exact h.reveal.hostStore.next
  split; · exact trivial
  split
  · exact plainly _
  · split; · exact .refused
    split
    · exact h.answer.next
    · exact h.next
  · split; · exact .refused
    split
    · exact h.answer.next
    · exact h.queueWindowWrite
  · split; · exact .refused
    split
    · split
      · exact h.answer.logWorld.next
      · exact h.logWorld.next
    · exact plainly _

theorem MemoryCanonical.peer {key op} (h : MemoryCanonical s) : MemoryCanonical (s.peer key op) := by
  unfold State.peer
  split
  · exact h.answer
  · split
    · exact h.answer
    · split
      · exact h.store.poisonLines
      · exact h.store
    · exact h.store.answer
    · exact h.addCell
    · exact h.foldl MemoryCanonical.addCell
    · exact h.readCells.answer
    · exact h.readCells.answer
    · exact h.foldl MemoryCanonical.store
    · exact h.initBlock
    · exact h.borrowInto
    · exact h.giveBack

theorem MemoryCanonical.peerRequest {site op} (h : MemoryCanonical s) : NextCanonical (execPeerRequest site op s) := by
  unfold execPeerRequest
  dsimp only
  split; · exact trivial
  split
  · split
    · exact h.answer.logWorld.next
    · exact h.logWorld.next
  · split
    · exact h.reveal.peer.next
    · exact h.peer.next

/-! ### Events of the part (R288 to R290, R342 to R352) -/

theorem MemoryCanonical.boot (h : MemoryCanonical s) : NextCanonical (execBoot s) := by
  unfold execBoot
  split; · exact .refused
  split <;> exact MemoryCanonical.next (h.same rfl)

/-- A function-level reset leaves memory as it was (R288). -/
theorem MemoryCanonical.functionLevelReset (h : MemoryCanonical s) : NextCanonical (execFunctionLevelReset s) := h

theorem MemoryCanonical.temperTick (h : MemoryCanonical s) : NextCanonical (execTemperTick s) := by
  unfold execTemperTick
  split; · exact .refused
  extract_lets stepped granted
  have kept : MemoryCanonical stepped := by
    refine h.foldl fun h => ?_
    dsimp only
    split
    · exact h
    · exact h.mapCluster
  clear_value stepped
  have clocked : MemoryCanonical granted := kept.foldl MemoryCanonical.mapCluster
  exact MemoryCanonical.next (clocked.same rfl)

theorem MemoryCanonical.boostStep {g} (h : MemoryCanonical s) : NextCanonical (execBoostStep g s) := by
  unfold execBoostStep
  dsimp only
  split
  · exact h.mapCluster.next
  · exact .refused

theorem MemoryCanonical.patrolScrub {line r} (h : MemoryCanonical s) : NextCanonical (execPatrolScrub line r s) := by
  unfold execPatrolScrub
  dsimp only
  split; · exact trivial
  split
  · exact h.next
  · exact h.logAt.next
  · exact h.poisonLines.logAt.next

theorem MemoryCanonical.flitCrcRetry {f} (h : MemoryCanonical s) : NextCanonical (execFlitCrcRetry f s) := by
  unfold execFlitCrcRetry
  split; · exact .refused
  split
  · exact .refused
  · exact h.mapPort.logLink.next

theorem MemoryCanonical.linkRetrain {p} (h : MemoryCanonical s) : NextCanonical (execLinkRetrain p s) := by
  unfold execLinkRetrain
  split; · exact .refused
  split
  · exact .refused
  · exact h.mapPort.logLink.next

theorem MemoryCanonical.portDown {p} (h : MemoryCanonical s) : NextCanonical (execPortDown p s) := by
  unfold execPortDown
  split; · exact .refused
  split; · exact .refused
  extract_lets down both
  have kept : MemoryCanonical down := h.mapPort.logLink
  split
  · exact kept.logError.cutRequests.next
  · exact kept.next

theorem MemoryCanonical.portUp {p} (h : MemoryCanonical s) : NextCanonical (execPortUp p s) := by
  unfold execPortUp
  split; · exact .refused
  split
  · exact .refused
  · exact h.mapPort.logLink.next

theorem MemoryCanonical.registerStateLost {uid} (h : MemoryCanonical s) : NextCanonical (execRegisterStateLost uid s) := by
  unfold execRegisterStateLost
  split; · exact .refused
  split
  · exact h.resetContexts.next
  · exact .refused

theorem MemoryCanonical.coreLogicError {n} (h : MemoryCanonical s) : NextCanonical (execCoreLogicError n s) := by
  unfold execCoreLogicError
  split
  · exact .refused
  · exact h.resetCores.next

theorem MemoryCanonical.fabricError {place} (h : MemoryCanonical s) : NextCanonical (execFabricError place s) := by
  unfold execFabricError
  split
  · exact h.resetCores.next
  · exact h.failPackage.next

theorem MemoryCanonical.evictionCompletes {uid} (h : MemoryCanonical s) : NextCanonical (execEvictionCompletes uid s) := by
  unfold execEvictionCompletes
  split; · exact .refused
  split
  · split; · exact .refused
    dsimp only
    split
    · exact (h.reachPages.of_fst ‹_›).saveImage.next
    · exact (h.reachPages.of_fst ‹_›).next
    · exact (h.reachPages.of_fst ‹_›).haltUnsaved.next
  · exact .refused

theorem MemoryCanonical.imageRestored {uid} (h : MemoryCanonical s) : NextCanonical (execImageRestored uid s) := by
  unfold execImageRestored
  split; · exact .refused
  split; · exact .refused
  split
  · exact (h.reachPages.of_fst ‹_›).next
  · exact (h.reachPages.of_fst ‹_›).notResumed.next
  · have reached := h.reachPages.of_fst ‹_›
    split
    · exact reached.notResumed.next
    · dsimp only
      split
      · exact (reached.readTable.of_fst ‹_›).next
      · exact (reached.readTable.of_fst ‹_›).notResumed.next
      · have read := reached.readTable.of_fst ‹_›
        split
        · exact read.notResumed.next
        · split
          · exact read.notResumed.next
          · exact read.resumed.next

/-! ### Every instruction -/

/-- An event, which has no slot. -/
theorem MemoryCanonical.exec_event {i} (h : MemoryCanonical s) (event : slotOf i = none) : NextCanonical (exec i s) := by
  cases i
  all_goals cases event
  all_goals unfold exec
  case bindpasid | preempt | inval | qmode | descinv | temper | route | attest | fring | kill | reset | elog | badcmd => exact h.command.next
  case loadLanding => exact h.loadLanding
  case writeDrained => exact h.writeDrained
  case divRemWrite => exact h.divRemWrite
  case scatterGatherDone => exact h.scatterGatherDone
  case copySectorLands => exact h.copySectorLands
  case gatherRowLands => exact h.gatherRowLands
  case pageWalk => exact h.pageWalk
  case pageResponse => exact h.pageResponse
  case overlayLoaded => exact h.overlayLoaded
  case overlayPrefetch => exact h.overlayPrefetch
  case park => exact h.park
  case budgetovr => exact h.budgetovr
  case barrierRestart => exact h.barrierRestart
  case enginesEmpty => exact h.enginesEmpty
  case dispatch => exact h.dispatch
  case gangDispatch => exact h.gangDispatch
  case spawnAcceptance => exact h.spawnAcceptance
  case queueDelivery => exact h.queueDelivery
  case entryReturn => exact h.entryReturn
  case hearthQnew => exact h.hearthQnew
  case hearthBorrow => exact h.hearthBorrow
  case hearthReturn => exact h.hearthReturn
  case hearthQwait => exact h.hearthQwait
  case queueWindowWrite => exact h.queueWindowWrite
  case preemptHalt => exact h.preemptHalt
  case preemptCompletion => exact h.preemptCompletion
  case frp => exact h.frp
  case erp => exact h.same rfl
  case registerWrite => exact h.writeReg.next
  case dstat => exact h.dstat
  case debugStopRequest => exact h.debugStopRequest
  case debugResume => exact h.debugResume
  case debuggerRegisterWrite => exact h.debuggerRegisterWrite
  case debugMemoryAccess => exact h.debugMemoryAccess
  case sampleRecord => exact h.sampleRecord
  case spdmRequest => exact h.spdmRequest
  case hostMemoryAccess => exact h.hostMemoryAccess
  case peerRequest => exact h.peerRequest
  case boot => exact h.boot
  case functionLevelReset => exact h.functionLevelReset
  case temperTick => exact h.temperTick
  case boostStep => exact h.boostStep
  case patrolScrub => exact h.patrolScrub
  case flitCrcRetry => exact h.flitCrcRetry
  case linkRetrain => exact h.linkRetrain
  case portDown => exact h.portDown
  case portUp => exact h.portUp
  case registerStateLost => exact h.registerStateLost
  case coreLogicError => exact h.coreLogicError
  case fabricError => exact h.fabricError
  case unassignedEncoding => exact h.issueTrap.next
  case evictionCompletes => exact h.evictionCompletes
  case imageRestored => exact h.imageRestored

theorem MemoryCanonical.exec {i} (h : MemoryCanonical s) : NextCanonical (exec i s) := by
  rcases slot : slotOf i with _ | n
  · exact h.exec_event slot
  rcases Nat.eq_zero_or_pos n with rfl | least
  · exact h.exec_ctl slot
  obtain ⟨t, next, live, memory, -⟩ := slotOperationOutcomes i s n slot
  rw [next]
  rcases Nat.lt_or_ge 4 n with high | low
  · exact h.same (memory high).1
  · rw [live least low]
    exact h.same rfl

/-! ### The move of a core (R22, R303, R304) -/

/-- The form that an attempt's state carries. -/
def AttemptCanonical : Attempt → Prop
  | .trapped t | .waits _ t | .issued _ t => MemoryCanonical t
  | .ends o => NextCanonical o

theorem MemoryCanonical.outcomes {ops o} (h : MemoryCanonical s) (result : o ∈ outcomes s ops) : NextCanonical o := by
  obtain ⟨i, -, rfl⟩ := List.mem_map.1 result
  exact h.exec

theorem firstTrap_canonical {stage outs t} (each : ∀ o ∈ outs, NextCanonical o) (trap : firstTrap stage outs = some t) :
    MemoryCanonical t := by
  induction outs with
  | nil => cases trap
  | cons o rest ih =>
    have others := ih fun o later => each o (List.mem_cons_of_mem _ later)
    cases o with
    | next u =>
      unfold firstTrap at trap
      split at trap
      · cases trap
        exact each _ List.mem_cons_self
      · exact others trap
    | fault r => exact others trap
    | refused r => exact others trap

theorem MemoryCanonical.waitState {outs waits} (h : MemoryCanonical s) (each : ∀ o ∈ outs, NextCanonical o) :
    MemoryCanonical (waitState s outs waits) := by
  unfold Machine.waitState
  split
  · split
    · split
      · exact each _ List.mem_cons_self
      · exact h
    · exact h
  · exact h

theorem MemoryCanonical.performAll {ops} (h : MemoryCanonical s) : NextCanonical (performAll s ops) := by
  induction ops generalizing s with
  | nil => exact h.next
  | cons i t ih =>
    have performed : NextCanonical (Machine.exec i { s with verdict := .idle }) := MemoryCanonical.exec (h.same rfl)
    unfold Machine.performAll
    split
    · rename_i u answers
      rw [answers] at performed
      split
      · exact performed
      · exact performed
      · exact ih performed
    · exact performed

theorem MemoryCanonical.issueOps {x ops} (h : MemoryCanonical s) : AttemptCanonical (s.issueOps x ops) := by
  have each : ∀ o ∈ Machine.outcomes s ops, NextCanonical o := fun o result => h.outcomes result
  unfold State.issueOps
  dsimp only
  split
  · exact firstTrap_canonical each ‹_›
  · split
    · exact h.waitState each
    · split
      · exact firstTrap_canonical each ‹_›
      · have performed : NextCanonical (Machine.performAll s (ops.drop 1 ++ ops.take 1)) := h.performAll
        split
        · rename_i t answers
          rw [answers] at performed
          split
          · exact performed
          · exact h
          · exact performed
        · exact performed

theorem MemoryCanonical.faultFetch {code reason va} (h : MemoryCanonical s) : MemoryCanonical (s.faultFetch code reason va) := h.withLive.mapCore

theorem MemoryCanonical.awaitOverlay (h : MemoryCanonical s) : AttemptCanonical s.awaitOverlay := by
  unfold State.awaitOverlay
  dsimp only
  split
  · exact h.faultFetch
  · exact h
  · exact h.mapCore

theorem MemoryCanonical.attempt (h : MemoryCanonical s) : AttemptCanonical s.attempt := by
  unfold State.attempt
  dsimp only
  split
  · exact h
  · split
    · exact h.takeBreak
    · split
      · exact h.faultFetch
      · exact h.awaitOverlay
      · exact h.faultFetch
      · split
        · exact h.same rfl
        · refine MemoryCanonical.issueOps ?_
          exact h.same rfl

theorem MemoryCanonical.afterAttempt (h : MemoryCanonical s) : NextCanonical s.afterAttempt := by
  unfold State.afterAttempt
  extract_lets tried
  have attempted : AttemptCanonical tried.attempt := h.mapCore.attempt
  split
  · rename_i t trap
    rw [trap] at attempted
    exact MemoryCanonical.next (MemoryCanonical.checkin (MemoryCanonical.mapLive attempted)).mapCore
  · rename_i src t waits
    rw [waits] at attempted
    exact MemoryCanonical.next (MemoryCanonical.checkin (MemoryCanonical.mapLive attempted)).mapCore
  · rename_i x t issued
    rw [issued] at attempted
    split
    · exact MemoryCanonical.next (MemoryCanonical.endBundle attempted).checkin
    · exact MemoryCanonical.next (MemoryCanonical.checkin attempted)
  · rename_i o ends
    rw [ends] at attempted
    exact attempted

theorem MemoryCanonical.coreMove {n} (h : MemoryCanonical s) : NextCanonical (s.coreMove n) := by
  unfold State.coreMove
  split; · exact .refused
  have out := h.checkout ‹_›
  dsimp only
  split; · exact .refused
  split
  · exact out.debugStop.checkin.next
  · split
    · exact out.mapLive.boundary.checkin.next
    · split
      · split
        · exact .refused
        · exact out.mapCore.mapLive.boundary.checkin.mapCore.next
      · split
        · exact out.boundary.checkin.next
        · split; · exact .refused
          split
          · split
            · exact .refused
            · exact out.actQwait.checkin.mapCore.next
          · exact .refused
          · exact .refused
          · split
            · exact .refused
            · exact out.afterAttempt

/-! ### Moves of the package (R12, R22, R49, R281, R325) -/

theorem MemoryCanonical.flaw {x} (h : MemoryCanonical s) : MemoryCanonical (s.flaw x) := by
  unfold State.flaw
  dsimp only
  split
  · exact h.mapCtx
  · exact h.mapCtx
  · exact h.mapCtx
  · exact h.mapCtx
  · split
    · exact h.mapCore
    · exact h
  · exact h.mapCore
  · split
    · exact h.poisonLines.logAt
    · exact h
  · split
    · exact h.poisonLines
    · exact h
  · split
    · exact h.logAt
    · exact h.logError

theorem MemoryCanonical.make {m} (h : MemoryCanonical s) : NextCanonical (s.make m) := by
  cases m with
  | core n => exact h.coreMove
  | event i => exact h.exec
  | input n => exact h.retryInput.next
  | record n => exact h.recordEnters.next
  | flaw x => exact h.flaw.next
  | tick => exact MemoryCanonical.next (h.same rfl)

theorem MemoryCanonical.scripted {m} (h : MemoryCanonical s) : NextCanonical (s.scripted m) := by
  unfold State.scripted
  split
  · exact h.next
  · split
    · exact h.next
    · exact h.make

theorem MemoryCanonical.unpark {e} (h : MemoryCanonical s) : MemoryCanonical (s.unpark e) := by
  unfold State.unpark
  split
  · exact h.mapCtx
  · exact h

theorem MemoryCanonical.unparkAll (h : MemoryCanonical s) : MemoryCanonical s.unparkAll := h.foldl MemoryCanonical.unpark

theorem MemoryCanonical.sweepReaders (h : MemoryCanonical s) : MemoryCanonical s.sweepReaders := h.same rfl

theorem MemoryCanonical.afterMove (h : MemoryCanonical s) : MemoryCanonical s.afterMove := by
  unfold State.afterMove
  refine MemoryCanonical.runMail (MemoryCanonical.sweepReaders (MemoryCanonical.sweepAnswered (MemoryCanonical.evictCovered
    (MemoryCanonical.unparkAll ?_))))
  exact h.same rfl

theorem MemoryCanonical.step (h : MemoryCanonical s) : NextCanonical (step s) := by
  unfold Machine.step State.advance
  extract_lets o
  have moved : NextCanonical o := by
    unfold o
    split
    · refine MemoryCanonical.scripted ?_
      exact h.same rfl
    · exact h.make
  clear_value o
  cases o with
  | next t => exact MemoryCanonical.next (MemoryCanonical.afterMove moved)
  | fault r => trivial
  | refused r => trivial

end

/-- Settles O60: a step is a move of the package and what follows it, and each function that these are made of keeps the form. -/
theorem everyStepKeepsMemoryCanonical : Obligations.EveryStepKeepsMemoryCanonical := by
  unfold Obligations.EveryStepKeepsMemoryCanonical
  intro s t canonical next
  have kept : NextCanonical (step s) := canonical.step
  rw [show step s = .next t from next] at kept
  exact kept

end Sys2Proof.Machine
end

section
/-! PROOFS. A microsecond of Temper (R289, R290): the clusters temper one after another, each from what it and its cores were, and those that ask for
boost are granted it by DEADLINE. The part of O46 that is about TEMPER_TICK. -/

namespace Sys2Proof.Machine

variable {s : State} {g n : Nat}

/-! ### Clusters one after another (R289, R290) -/

@[simp] theorem State.clusterOf_mapCluster_self (f : Cluster → Cluster) : (s.mapCluster g f).clusterOf g = f (s.clusterOf g) :=
  Tbl.get_put_self ..

theorem State.clusterOf_mapCluster_ne (f : Cluster → Cluster) (h : n ≠ g) : (s.mapCluster g f).clusterOf n = s.clusterOf n :=
  Tbl.get_put_ne _ _ _ h

/-- A change of clusters that is made of changes of single ones changes nothing else. -/
theorem State.foldl_clusters {f : State → Nat → State} (one : ∀ s g, ∃ ks, f s g = { s with clusters := ks }) (s : State) (gs : List Nat) :
    ∃ ks, gs.foldl f s = { s with clusters := ks } := by
  induction gs generalizing s with
  | nil => exact ⟨s.clusters, rfl⟩
  | cons g gs ih =>
    obtain ⟨ks, first⟩ := one s g
    obtain ⟨ls, rest⟩ := ih { s with clusters := ks }
    exact ⟨ls, by rw [List.foldl_cons, first, rest]⟩

/-! ### The clusters temper (R289) -/

/-- A cluster as one µs leaves it. -/
def State.temperedOf (s : State) (g : Nat) : Cluster := (s.clusterOf g).temper (s.boostRank g).isSome (s.runningIn g).isEmpty

/-- One µs of a cluster. -/
def State.temperOne (s : State) (g : Nat) : State := if s.temperedOf g = s.clusterOf g then s else s.mapCluster g fun _ => s.temperedOf g

/-- One µs of every cluster, before any is granted boost. -/
def State.temperAll (s : State) : State := (List.range 64).foldl State.temperOne s

theorem State.temperOne_clusters (s : State) (g : Nat) : ∃ ks, s.temperOne g = { s with clusters := ks } := by
  unfold State.temperOne
  split
  · exact ⟨s.clusters, rfl⟩
  · exact ⟨_, rfl⟩

theorem State.temperAll_clusters (s : State) : ∃ ks, s.temperAll = { s with clusters := ks } :=
  State.foldl_clusters State.temperOne_clusters s _

@[simp] theorem State.clusterOf_temperOne_self : (s.temperOne g).clusterOf g = s.temperedOf g := by
  unfold State.temperOne
  split
  · exact Eq.symm ‹_›
  · rw [State.clusterOf_mapCluster_self]

theorem State.clusterOf_temperOne_ne (h : n ≠ g) : (s.temperOne g).clusterOf n = s.clusterOf n := by
  unfold State.temperOne
  split
  · rfl
  · rw [State.clusterOf_mapCluster_ne _ h]

/-- Whether a cluster requests boost or is idle depends on its contexts alone, and no µs of a cluster changes these. -/
theorem State.temperedOf_temperOne_ne (h : n ≠ g) : (s.temperOne g).temperedOf n = s.temperedOf n := by
  obtain ⟨ks, step⟩ := s.temperOne_clusters g
  have same : (s.temperOne g).clusterOf n = s.clusterOf n := State.clusterOf_temperOne_ne h
  rw [State.temperedOf, same, step]
  rfl

theorem State.clusterOf_foldl_temperOne {gs : List Nat} (distinct : gs.Nodup) :
    (gs.foldl State.temperOne s).clusterOf n = if n ∈ gs then s.temperedOf n else s.clusterOf n := by
  induction gs generalizing s with
  | nil => simp
  | cons g gs ih =>
    obtain ⟨new, rest⟩ := List.nodup_cons.1 distinct
    rw [List.foldl_cons, ih rest]
    by_cases at_ : n = g
    · subst at_
      simp [new]
    · simp only [List.mem_cons, at_, false_or, State.temperedOf_temperOne_ne at_, State.clusterOf_temperOne_ne at_]

theorem State.clusterOf_temperAll (h : n < 64) : s.temperAll.clusterOf n = s.temperedOf n := by
  rw [State.temperAll, State.clusterOf_foldl_temperOne List.nodup_range, if_pos (List.mem_range.2 h)]

section
variable {k : Cluster} {requests idle : Bool}

theorem Cluster.temper_spends (boosted : k.clock = 2) (asks : requests = true) (has : 1 < k.pc) :
    k.temper requests idle = { k with pc := k.pc - 1 } := by
  have left : 0 < k.pc - 1 := by omega
  simp [Cluster.temper, boosted, asks, left]

theorem Cluster.temper_stops (boosted : k.clock = 2) (asks : ¬requests = true) :
    k.temper requests idle = { k with clock := 1, stepLeft := 10 } := by
  simp [Cluster.temper, boosted, asks]

theorem Cluster.temper_runs_out (boosted : k.clock = 2) (asks : requests = true) (last : k.pc ≤ 1) :
    k.temper requests idle = { k with pc := 0, clock := 1, stepLeft := 10 } := by
  have none_ : k.pc - 1 = 0 := by omega
  simp [Cluster.temper, boosted, asks, none_]

theorem Cluster.temper_steps (between : k.clock = 1) : k.temper requests idle = { k with stepLeft := k.stepLeft - 1 } := by
  simp [Cluster.temper, between]

theorem Cluster.temper_nominal (unboosted : k.clock ≠ 2) (nominal : k.clock ≠ 1) :
    k.temper requests idle = if idle then { k with pc := min k.pmax (k.pc + 1) } else k := by
  rw [Cluster.temper, if_neg unboosted, if_neg nominal]

/-- No µs takes a cluster to nominal or away from it. -/
theorem Cluster.temper_clock_eq_zero : (k.temper requests idle).clock = 0 ↔ k.clock = 0 := by
  by_cases boosted : k.clock = 2
  · have clock : (k.temper requests idle).clock = 2 ∨ (k.temper requests idle).clock = 1 := by
      by_cases asks : requests = true
      · by_cases last : k.pc ≤ 1
        · exact .inr (by rw [Cluster.temper_runs_out boosted asks last])
        · exact .inl (by rw [Cluster.temper_spends boosted asks (Nat.lt_of_not_le last), boosted])
      · exact .inr (by rw [Cluster.temper_stops boosted asks])
    rcases clock with clock | clock <;> simp [clock, boosted]
  · by_cases between : k.clock = 1
    · rw [Cluster.temper_steps between]
    · rw [Cluster.temper_nominal boosted between]
      split <;> rfl

end

/-! ### Grants of boost (R290) -/

/-- How many clusters are boosted or on their way back from boost. -/
def State.boosted (s : State) : Nat := ((List.range 64).filter fun g => (s.clusterOf g).clock ≠ 0).length

/-- The clusters that ask for boost and may have it, each with its DEADLINE. -/
def State.asks (s : State) : List (Nat × Nat) :=
  (List.range 64).filterMap fun g =>
    match s.boostRank g with
    | some d => if (s.clusterOf g).clock = 0 ∧ 100 ≤ (s.clusterOf g).pc then some (d, g) else none
    | none => none

/-- A list in the order of DEADLINEs takes one cluster more, behind those of its own DEADLINE. -/
def insertAsk (xs : List (Nat × Nat)) (x : Nat × Nat) : List (Nat × Nat) :=
  (xs.span fun y => y.1 ≤ x.1).1 ++ x :: (xs.span fun y => y.1 ≤ x.1).2

theorem State.grants_eq (s : State) : s.grants = ((s.asks.foldl insertAsk []).take (32 - s.boosted)).map (·.2) := rfl

theorem mem_insertAsk {xs : List (Nat × Nat)} {x y : Nat × Nat} : y ∈ insertAsk xs x ↔ y = x ∨ y ∈ xs := by
  have whole : y ∈ xs ↔ y ∈ xs.takeWhile (fun y => y.1 ≤ x.1) ∨ y ∈ xs.dropWhile (fun y => y.1 ≤ x.1) := by
    rw [← List.mem_append, List.takeWhile_append_dropWhile]
  rw [insertAsk, List.span_eq_takeWhile_dropWhile, List.mem_append, List.mem_cons, whole]
  tauto

theorem mem_foldl_insertAsk {asks xs : List (Nat × Nat)} {y : Nat × Nat} : y ∈ asks.foldl insertAsk xs ↔ y ∈ asks ∨ y ∈ xs := by
  induction asks generalizing xs with
  | nil => simp
  | cons x asks ih =>
    rw [List.foldl_cons, ih, mem_insertAsk, List.mem_cons]
    tauto

theorem State.mem_asks {d : Nat} (h : (d, g) ∈ s.asks) :
    s.boostRank g = some d ∧ (s.clusterOf g).clock = 0 ∧ 100 ≤ (s.clusterOf g).pc := by
  obtain ⟨m, -, asked⟩ := List.mem_filterMap.1 h
  split at asked
  · split at asked
    · obtain ⟨rfl, rfl⟩ := Prod.mk.inj (Option.some.inj asked)
      exact ⟨‹_›, ‹_›⟩
    · cases asked
  · cases asked

/-- What is granted boost has asked for it. -/
theorem State.mem_grants (h : g ∈ s.grants) : (s.clusterOf g).clock = 0 ∧ 100 ≤ (s.clusterOf g).pc ∧ (s.boostRank g).isSome = true := by
  rw [State.grants_eq] at h
  obtain ⟨⟨d, m⟩, granted, rfl⟩ := List.mem_map.1 h
  have asked : (d, m) ∈ s.asks := by simpa using mem_foldl_insertAsk.1 (List.mem_of_mem_take granted)
  obtain ⟨rank, nominal, permits⟩ := State.mem_asks asked
  exact ⟨nominal, permits, by rw [rank]; rfl⟩

theorem State.grants_length : s.grants.length ≤ 32 - s.boosted := by
  rw [State.grants_eq, List.length_map]
  exact List.length_take_le _ _

/-- A cluster begins its boost. -/
def State.boost (s : State) (g : Nat) : State := s.mapCluster g fun k => { k with clock := 2 }

/-- Every grant is taken. -/
def State.boostGranted (s : State) : State := s.grants.foldl State.boost s

theorem State.boostGranted_clusters (s : State) : ∃ ks, s.boostGranted = { s with clusters := ks } :=
  State.foldl_clusters (f := State.boost) (fun _ _ => ⟨_, rfl⟩) s _

theorem State.clusterOf_foldl_boost {gs : List Nat} :
    (gs.foldl State.boost s).clusterOf n = if n ∈ gs then { s.clusterOf n with clock := 2 } else s.clusterOf n := by
  induction gs generalizing s with
  | nil => simp
  | cons g gs ih =>
    rw [List.foldl_cons, ih]
    by_cases at_ : n = g
    · subst at_
      simp [State.boost]
    · simp only [List.mem_cons, at_, false_or, State.boost, State.clusterOf_mapCluster_ne _ at_]

theorem State.clusterOf_boostGranted :
    s.boostGranted.clusterOf n = if n ∈ s.grants then { s.clusterOf n with clock := 2 } else s.clusterOf n :=
  State.clusterOf_foldl_boost

/-! ### At most 32 at once (R290) -/

theorem State.boosted_congr {t : State} (h : ∀ g < 64, (t.clusterOf g).clock = 0 ↔ (s.clusterOf g).clock = 0) : t.boosted = s.boosted := by
  unfold State.boosted
  congr 1
  exact List.filter_congr fun g below => decide_eq_decide.2 (h g (List.mem_range.1 below)).not

/-- A cluster that is boosted after the grants was boosted before them or has been granted boost. -/
theorem State.boosted_boostGranted_le : s.boostGranted.boosted ≤ s.boosted + s.grants.length := by
  have among : ((List.range 64).filter fun g => (s.boostGranted.clusterOf g).clock ≠ 0) ⊆
      ((List.range 64).filter fun g => (s.clusterOf g).clock ≠ 0) ++ s.grants := by
    intro g boosted
    by_cases granted : g ∈ s.grants
    · exact List.mem_append_right _ granted
    · obtain ⟨below, clocked⟩ := List.mem_filter.1 boosted
      rw [State.clusterOf_boostGranted, if_neg granted] at clocked
      exact List.mem_append_left _ (List.mem_filter.2 ⟨below, clocked⟩)
  have fewer := ((List.nodup_range.filter _).subperm among).length_le
  rwa [List.length_append] at fewer

theorem State.boosted_temperAll : s.temperAll.boosted = s.boosted :=
  State.boosted_congr fun g below => by rw [State.clusterOf_temperAll below, State.temperedOf, Cluster.temper_clock_eq_zero]

/-- The grants fill the room that there is, and no more. -/
theorem State.boosted_temperAll_boostGranted_le (h : s.boosted ≤ 32) : s.temperAll.boostGranted.boosted ≤ 32 := by
  have before : s.temperAll.boosted = s.boosted := State.boosted_temperAll
  have after := State.boosted_boostGranted_le (s := s.temperAll)
  have room := State.grants_length (s := s.temperAll)
  omega

/-! ### The event -/

@[simp] theorem State.clusterOf_micros {m : Nat} : ({ s with micros := m } : State).clusterOf n = s.clusterOf n := rfl

@[simp] theorem State.boosted_micros {m : Nat} : ({ s with micros := m } : State).boosted = s.boosted := rfl

theorem State.temperAll_boostGranted_clusters (s : State) : ∃ ks, s.temperAll.boostGranted = { s with clusters := ks } := by
  obtain ⟨ks, tempered⟩ := s.temperAll_clusters
  obtain ⟨ls, granted⟩ := s.temperAll.boostGranted_clusters
  exact ⟨ls, by rw [granted, tempered]⟩

theorem execTemperTick_due (due : s.temperDue = true) :
    execTemperTick s = .next { s.temperAll.boostGranted with micros := s.micros + 1 } := by
  obtain ⟨ks, granted⟩ := s.temperAll_boostGranted_clusters
  have micros : s.temperAll.boostGranted.micros = s.micros := by rw [granted]
  rw [← micros]
  exact if_neg (by simp [due])

end Sys2Proof.Machine
end

section
/-! PROOFS. Events of the part (R288 to R290, R311, R342, R345 to R349, R352): each has one outcome where it is pending. The theorem at the end
settles O46. -/

namespace Sys2Proof.Machine

/-! ### Boot (R288) -/

section
variable {s : State}

theorem execBoot_pending (toBoot : s.mail.booted = false) (sound : s.mail.bootFailed = false) :
    execBoot s = .next (if Config.imagesValid then { s with
      cores := []
      fabric := { s.fabric with
        secure := Config.secureRegions
        secureCores := Config.secureCores
        sdebug := Config.sdebug
        ports := bootPorts Config.enabledPorts }
      mail := { s.mail with booted := true } } else { s with
      fabric := { s.fabric with ports := bootPorts [cxlPort 0, cxlPort 1] }
      mail := { s.mail with bootFailed := true } }) := by
  rw [execBoot, if_neg (by simp [toBoot, sound])]
  by_cases valid : Config.imagesValid = true
  · rw [if_pos valid, if_neg (by simp [valid])]
  · rw [if_neg valid, if_pos (by simp [valid])]

theorem execBoostStep_elapsed {g : Nat} (between : (s.clusterOf g).clock = 1) (elapsed : (s.clusterOf g).stepLeft = 0) :
    execBoostStep g s = .next (s.mapCluster g fun k => { k with clock := 0 }) := if_pos ⟨between, elapsed⟩

/-! ### The scrubber (R342, R345) -/

theorem execPatrolScrub_of_lt {line : Nat} (inDevice : 64 * line < deviceSize) (r : ScrubResult) :
    execPatrolScrub line r s = match r with
      | .clean => .next s
      | .corrected => .next (s.logAt 1 0 (stackOf (64 * line)) (64 * line) 0 0)
      | .uncorrectable => .next ((s.poisonLines (64 * line) 64).logAt 2 0 (stackOf (64 * line)) (64 * line) 0 0) := by
  cases r <;> exact if_neg (Nat.not_le.2 inDevice)

/-! ### Links (R347, R348) -/

section
variable {p : LinkPort} {x : Port} (found : s.port? p = some x)
include found

theorem execFlitCrcRetry_up (up : x.up = true) (few : x.retries < 16) (seq : W64) (good : Bool) :
    execFlitCrcRetry ⟨p, seq, good⟩ s =
      .next ((s.mapPort p fun x => { x with retries := if good then 0 else x.retries + 1, seq := seq }).logLink p 0) := by
  simp only [execFlitCrcRetry, found, up, Nat.not_le.2 few, Bool.not_true, Bool.false_eq_true, or_self, if_false]

theorem execLinkRetrain_up (up : x.up = true) (many : 16 ≤ x.retries) :
    execLinkRetrain p s = .next ((s.mapPort p fun x => { x with retries := 0 }).logLink p 1) := by
  simp only [execLinkRetrain, found, up, Nat.not_lt.2 many, Bool.not_true, Bool.false_eq_true, or_self, if_false]

theorem execPortUp_down (down : x.up = false) :
    execPortUp p s = .next ((s.mapPort p fun x => { x with up := true, retries := 0 }).logLink p 3) := by
  simp only [execPortUp, found, down, Bool.false_eq_true, if_false]

end

/-- The state after a port goes down, but for what the loss of the host brings. -/
def State.portLost (s : State) (p : LinkPort) : State := (s.mapPort p fun x => { x with up := false }).logLink p 2

theorem execPortDown_suzamal {i : BitVec 4} {x : Port} (found : s.port? (.suzamal i) = some x) (up : x.up = true) :
    execPortDown (.suzamal i) s = .next (s.portLost (.suzamal i)) := by
  simp only [execPortDown, found, up, Bool.not_true, Bool.false_eq_true, if_false]
  rfl

theorem execPortDown_cxl {i : BitVec 1} {x : Port} (found : s.port? (.cxl i) = some x) (up : x.up = true) :
    execPortDown (.cxl i) s = .next (if (s.portLost (.cxl i)).hostCut then
      ((s.portLost (.cxl i)).logError (logEntry 8 6 0 (s.portLost (.cxl i)).mcc 0 0 0)).cutRequests else s.portLost (.cxl i)) := by
  simp only [execPortDown, found, up, Bool.not_true, Bool.false_eq_true, if_false]
  rfl

/-! ### Errors (R346, R352) -/

theorem execRegisterStateLost_resident {uid : Nat} {c : Context} (found : s.ctx? uid = some c) (resident : c.residentOn c.id.core = true) :
    execRegisterStateLost uid s = .next (s.resetContexts [(uid, c)]) := by
  simp only [execRegisterStateLost, found, resident, if_true]

theorem execCoreLogicError_of_lt {n : Nat} (h : n < 1024) : execCoreLogicError n s = .next (s.resetCores [n] 9 n n) :=
  if_neg (Nat.not_le.2 h)

end

/-! ### The statement -/

/-- Settles O46: Temper acts as its lemmas say, and every other event by its one outcome. -/
theorem deviceEventResults : Obligations.DeviceEventResults := by
  unfold Obligations.DeviceEventResults
  intro s n line uid p c g slot reason word x seq logged tempered k requests boosted
  refine ⟨?boot, ?reset, ?temper, Cluster.temper_spends, Cluster.temper_stops, Cluster.temper_runs_out, Cluster.temper_steps,
    Cluster.temper_nominal, ?boostStep, ?scrub, ?up, ?down, ?lost, ?logic, ?clusterPort, ?shared, ?illegal⟩
  case boot => exact execBoot_pending
  case reset => rfl
  case temper =>
    intro due
    obtain ⟨ks, stepped⟩ := s.temperAll_clusters
    obtain ⟨ls, granted⟩ := s.temperAll_boostGranted_clusters
    refine ⟨_, s.temperAll, execTemperTick_due due, rfl, by rw [granted], by rw [granted], by rw [granted],
      ?atMost, by rw [stepped], by rw [stepped], fun g => State.clusterOf_temperAll, ?granted, ?grants⟩
    case atMost =>
      intro few
      rw [show boosted _ = s.temperAll.boostGranted.boosted from State.boosted_micros]
      exact State.boosted_temperAll_boostGranted_le few
    case granted =>
      intro below
      rw [← show s.temperAll.clusterOf n = tempered n from State.clusterOf_temperAll below]
      rw [State.clusterOf_micros]
      exact State.clusterOf_boostGranted
    case grants =>
      intro below grant
      obtain ⟨nominal, permits, asks⟩ := State.mem_grants grant
      rw [State.clusterOf_temperAll below] at nominal permits
      refine ⟨nominal, permits, ?_⟩
      rwa [stepped] at asks
  case boostStep => exact execBoostStep_elapsed
  case scrub =>
    intro inDevice
    exact ⟨execPatrolScrub_of_lt inDevice .clean, execPatrolScrub_of_lt inDevice .corrected, execPatrolScrub_of_lt inDevice .uncorrectable⟩
  case up =>
    intro found up
    refine ⟨fun few => ⟨execFlitCrcRetry_up found up few seq false, execFlitCrcRetry_up found up few seq true⟩,
      execLinkRetrain_up found up, ?_, ?_⟩
    · rintro i rfl
      exact execPortDown_suzamal found up
    · rintro i rfl
      exact execPortDown_cxl found up
  case down => exact execPortUp_down
  case lost => exact execRegisterStateLost_resident
  case logic => exact execCoreLogicError_of_lt
  case clusterPort => rfl
  case shared => rfl
  case illegal => rfl

end Sys2Proof.Machine
end

section
/-! PROOFS. The state after reset (R288). -/

namespace Sys2Proof.Machine

/-- Settles O59: memory lists nothing after reset, which is its canonical form, and every other field stands in the definition. -/
theorem resetState : Obligations.ResetState :=
  ⟨reset_memory_wf, rfl, rfl, rfl, rfl, rfl, rfl, rfl⟩

end Sys2Proof.Machine
end

section
/-! PROOFS. Events of the debugger (R291, R292, R294 to R297, R302): each has one outcome where the rules let the debugger act, and the state that it
leaves is what the model's own definition of the change makes. The theorem at the end settles O45. -/

namespace Sys2Proof.Machine

variable {s : State} {uid : Nat}

/-! ### Stop requests (R295) -/

/-- The contexts that a request picks are asked to stop one after another, in the order of the list. -/
def State.requestStops (s : State) (picked : Nat × Context → Bool) : State :=
  (s.ctxs.filter picked).foldl (fun s e => s.requestStop e.1 e.2) s

theorem execDebugStopRequest_context (s : State) (uid : Nat) :
    execDebugStopRequest (.context uid) s = .next (s.requestStops fun e => e.1 = uid) := rfl

theorem execDebugStopRequest_process (s : State) (pasid : BitVec 20) :
    execDebugStopRequest (.process pasid) s = .next (s.requestStops fun e => e.2.id.pasid = pasid) := rfl

/-! ### A stopped context (R294, R296, R297) -/

section
variable {c : Context} (found : s.ctx? uid = some c)
include found

theorem execDebugResume_stopped (stopped : c.id.status = .stopped) (debugged : s.traces? c = true) :
    execDebugResume uid s = .next (s.mapCtx uid Context.unstop) := by
  simp only [execDebugResume, found, stopped, debugged, decide_true, Bool.and_self, if_true]

theorem execDebuggerRegisterWrite_stopped (stopped : c.stoppedNow = true) (debugged : s.traces? c = true) (place : DbgPlace)
    (x : BitVec 2048) : execDebuggerRegisterWrite uid place x s = .next (s.debugWrite uid c place x) := by
  simp only [execDebuggerRegisterWrite, found, stopped, debugged, Bool.and_self, if_true]

/-- DISC is bit 7 of DSTAT; REASON and INDEX, in the bits below it, stay. -/
theorem execDstat_clears {x : W64} (stopped : c.stoppedNow = true) (debugged : s.traces? c = true) (disc : bitOf x 7 = false) :
    execDstat uid x s = .next (s.mapCtx uid fun c => { c with dbg := { c.dbg with dstat := c.dbg.dstat &&& 0x7F } }) := by
  simp only [execDstat, found, stopped, debugged, disc, Bool.not_false, Bool.and_self, if_true]

/-! ### Samples (R302) -/

theorem execSampleRecord_ready {t : Tag} (waitsForNothing : c.dbg.tags.find? (fun t => t.wait.isEmpty) = some t) :
    execSampleRecord uid s =
      .next ((s.mapCtx uid fun c => { c with dbg := { c.dbg with tags := c.dbg.tags.erase t } }).traceOf c.id.core c t.record) := by
  simp only [execSampleRecord, found, waitsForNothing]

end

/-! ### Memory through the port (R291) -/

/-- A secure region is closed to the debugger only where SDEBUG is 0. -/
theorem State.closedToDebugger_eq_false {addr : Nat} (open_ : s.isSecure addr = false ∨ s.fabric.sdebug = true) :
    (s.isSecure addr && !s.fabric.sdebug) = false := by
  rcases open_ with notSecure | sdebug
  · rw [notSecure, Bool.false_and]
  · rw [sdebug, Bool.not_true, Bool.and_false]

section
variable {addr : Nat} (inDevice : addr < deviceSize) (open_ : s.isSecure addr = false ∨ s.fabric.sdebug = true)
include inDevice open_

theorem execDebugMemoryAccess_read :
    execDebugMemoryAccess addr none s = .next (s.answer (if s.isPoisoned addr 1 then [] else [s.byte addr])) := by
  simp only [execDebugMemoryAccess, Nat.not_le.2 inDevice, State.closedToDebugger_eq_false open_, Bool.false_eq_true, if_false]

theorem execDebugMemoryAccess_write (b : Byte) : execDebugMemoryAccess addr (some b) s = .next (s.store addr [b]) := by
  simp only [execDebugMemoryAccess, Nat.not_le.2 inDevice, State.closedToDebugger_eq_false open_, Bool.false_eq_true, if_false]

end

/-! ### The statement -/

/-- Settles O45: each event of the debugger has the one outcome that its lemma above names. -/
theorem debugEventResults : Obligations.DebugEventResults := by
  unfold Obligations.DebugEventResults
  intro s uid addr pasid c place x y b reg stopped stop
  refine ⟨?stopContext, ?stopProcess, ?resume, ?write, ?discard, ?memory, ?register, ?sample⟩
  case stopContext => exact execDebugStopRequest_context s uid
  case stopProcess => exact execDebugStopRequest_process s pasid
  case resume =>
    rintro ⟨found, status, debugged⟩
    exact execDebugResume_stopped found status debugged
  case write =>
    intro found stopped debugged
    exact execDebuggerRegisterWrite_stopped found stopped debugged place x
  case discard =>
    intro found stopped debugged disc
    exact execDstat_clears found stopped debugged disc
  case memory =>
    intro inDevice open_
    exact ⟨execDebugMemoryAccess_read inDevice open_, execDebugMemoryAccess_write inDevice open_ b⟩
  case register => exact exec_registerWrite reg y s
  case sample =>
    intro t found waitsForNothing
    exact execSampleRecord_ready found waitsForNothing

end Sys2Proof.Machine
end
